-- ==== Sys2Proof/Word.lean ====
section
/-! DEFINITION. The word types of the GU-7250 and the plain operand types that both the commands
and the state use. Nothing here computes an effect; byte order, fields and checks are in
`Machine/`. -/

namespace Sys2Proof

/-- One byte. -/
abbrev Byte := BitVec 8

/-- A byte string, offset 0 first (packets, frames, record bodies). -/
abbrev Bytes := List Byte

/-- A 32-bit word; IEEE 754 binary32 values are carried as their bit pattern. -/
abbrev Word := BitVec 32

/-- Table 02-4: who sent a command. -/
inductive Originator where
  /-- P0, P1: source IPv4 address and source UDP port. -/
  | host (port : Nat) (ip : Word) (udp : BitVec 16)
  /-- P2: the single stream. -/
  | svc
  /-- P3 to P6: origin node number and relay tag of the relay body. -/
  | relay (node : Nat) (tag : Nat)
  /-- P7: the internal scheduler. -/
  | internal
  deriving DecidableEq, Repr, Inhabited

/-- A command packet that passed steps 1 to 8 of Table 02-3, as the command processor executes it
(R37, R42, R66). -/
structure Cmd where
  /-- Arrival port P0 to P7 (R24). -/
  port : Nat
  orig : Originator
  /-- Origin node number and origin port: the executing node and arrival port, or those of the relay
  body (R190). -/
  origNode : Nat
  origPort : Nat
  seq : BitVec 16
  /-- The CRC field of the packet, the window's second key (R39). -/
  crc : Word
  /-- Target slot, bits [5:0] of the station address (R66). -/
  slot : Nat
  payload : Bytes
  deriving DecidableEq, Repr, Inhabited

/-- A datagram on `H1` or `H2` as the wire delivers it (R54, R55, R56). -/
structure Datagram where
  /-- 0 `H1`, 1 `H2`. -/
  port : Nat
  srcIp : Word
  srcUdp : BitVec 16
  dstIp : Word
  dstUdp : BitVec 16
  /-- Total IPv4 length in bytes. -/
  ipLen : Nat
  fragment : Bool
  ipOptions : Bool
  checksumBad : Bool
  tagged : Bool
  payload : Bytes
  deriving DecidableEq, Repr, Inhabited

/-- A HEDGEROW frame as the PCS delivers it on a port (R215): its bytes, and whether it carried /V/ or
broke off. `ns` is the local receive time of its /S/ in ns of the receiving port's clock count
(R232, R234). -/
structure RxFrame where
  port : Nat
  bytes : Bytes
  coded : Bool
  ns : Nat
  deriving DecidableEq, Repr, Inhabited

/-- One unit on which lanes disagree in an epoch (R171 to R174): the unit as Table 06-6 codes it, the
mask of lanes in the minority, whether all results differ, and whether two lanes agree on the second
evaluation (R173). -/
structure Dispute where
  unit : Word
  minority : BitVec 3
  allDiffer : Bool
  retryAgrees : Bool
  deriving DecidableEq, Repr, Inhabited

/-- What the hardware reports beside an evaluation: disputed units, lanes failing an idle-check pattern
or the self-test, and the coil currents in µA (R170, R171, R204). -/
structure EvalReport where
  disputes : List Dispute
  selfTestFail : BitVec 3
  coil1 : Nat
  coil2 : Nat
  deriving DecidableEq, Repr, Inhabited

/-- A result of a slice as it crosses the bank's link (R282, R292, R294): the raw filter outputs of its
settled sub-conversions in order, the modulator's overload signal, the 64 bits of its frame and of the
single re-read as they arrive, whether the excitation source stood at its limit for the output period
(R298), and the fabric time of the conversion's end in µs. -/
structure ConvResult where
  raw : List Int
  overload : Bool
  frame : BitVec 64
  reread : BitVec 64
  excLimit : Bool
  endUs : Nat
  deriving DecidableEq, Repr, Inhabited

/-- One loop slice's live readings in its bank: current µA, terminal voltage V_t mV, driver temperature
0.1 °C, driver fully on (R347, R349, R350). -/
structure LoopReading where
  channel : Nat
  currentUa : Int
  vtMv : Nat
  tempDeci : Int
  fullyOn : Bool
  deriving DecidableEq, Repr, Inhabited

/-- A panel's identity memory as read (R427): columns, rows, active area cm², factory VCOM mV,
temperature in 0.01 °C when its sensor answers, and a serial that tells one panel from another. -/
structure PanelId where
  columns : Nat
  rows : Nat
  area : Nat
  vcom : Int
  tempCenti : Option Int
  serial : Nat
  deriving DecidableEq, Repr, Inhabited

/-- What the clock monitor finds (Table 16-2): no edge of a reference (0 XO, 1 the fabric-recovered clock in use, 2
BOSC) for so many WOSC cycles; the edges of XO and BOSC in windows of 1,000 WOSC cycles, oldest first, with the
offsets of both from the recovered clock (R454); the offsets of XO from the recovered clocks of ports over 1 s; the
PLL's phase errors in ps, oldest first; no edge of a derived clock. Offsets are in 0.1 ppm. -/
inductive ClockFinding where
  | stop (clock woscCycles : Nat)
  | ratio (windows : List (Nat × Nat)) (xoOff boscOff : Int)
  | fabric (offsets : List (Nat × Int))
  | unlock (errorsPs : List Nat)
  | derived (woscCycles : Nat)
  deriving DecidableEq, Repr, Inhabited

/-- What the start-up tests find (Table 17-5 step 4, R401, R472): lanes passing, DRAM passing, dies
answering, hold-up readings with what `HU+` holds in mV; the firmware checks of R523 are in `Config`. -/
structure StartReport where
  lanesPass : BitVec 3
  dramPass : Bool
  diesAnswer : BitVec 5
  intUf : Nat
  intEsr : Nat
  intHold : Nat
  huMv : Nat
  extUf : Nat
  extEsr : Nat
  extMj : Nat
  deriving DecidableEq, Repr, Inhabited

end Sys2Proof
end

