-- ==== Sys2Proof/Syntax.lean ====
section
/-! DEFINITION. The commands of the block: one constructor for each row of `spec/opcode_table.json`.
A row that is an opcode carries the admitted packet (`Cmd`); a row that is a received frame carries the
frame as the PCS delivered it (`RxFrame`); a row that is an event of the hardware carries what the
hardware measured or which unit it concerns. -/

namespace Sys2Proof

/-- The 222 operations and events of the node, in table order. -/
inductive Instr where
  | nodeIdentify (c : Cmd)
  | nodeSubscribe (c : Cmd)
  | nodeRingStatus (c : Cmd)
  | tagRead (c : Cmd)
  | tagReadRange (c : Cmd)
  | alarmList (c : Cmd)
  | alarmAck (c : Cmd)
  | alarmShelve (c : Cmd)
  | alarmUnshelve (c : Cmd)
  | alarmSetOos (c : Cmd)
  | alarmClearOos (c : Cmd)
  | alarmReset (c : Cmd)
  | alarmGroupList (c : Cmd)
  | alarmBundle (c : Cmd)
  | alarmEdges (c : Cmd)
  | alarmAckBundle (c : Cmd)
  | nodeLanes (c : Cmd)
  | nodeSetProfile (c : Cmd)
  | callStatus (c : Cmd)
  | callSetWatchOffer (c : Cmd)
  | callSetWatchAccept (c : Cmd)
  | callSetWatchWithdraw (c : Cmd)
  | callDeadman (c : Cmd)
  | callRelayTest (c : Cmd)
  | fabStatus (c : Cmd)
  | timeRead (c : Cmd)
  | timeSetSystem (c : Cmd)
  | fabMembers (c : Cmd)
  | snapRead (c : Cmd)
  | snapSchedule (c : Cmd)
  | chanRead (c : Cmd)
  | chanMap (c : Cmd)
  | chanRetire (c : Cmd)
  | chanRestore (c : Cmd)
  | chanCheck (c : Cmd)
  | chanCj (c : Cmd)
  | loopStatus (c : Cmd)
  | loopTransact (c : Cmd)
  | loopForce (c : Cmd)
  | loopForceRelease (c : Cmd)
  | dioRead (c : Cmd)
  | dioWriteHostSet (c : Cmd)
  | dioWriteForce (c : Cmd)
  | dioWriteRelease (c : Cmd)
  | dioRestore (c : Cmd)
  | recInfo (c : Cmd)
  | recRead (c : Cmd)
  | recFreeze (c : Cmd)
  | recThaw (c : Cmd)
  | recClear (c : Cmd)
  | timeSetWallmap (c : Cmd)
  | dispStatus (c : Cmd)
  | dispShowPage (c : Cmd)
  | dispClear (c : Cmd)
  | nodeClocks (c : Cmd)
  | nodeStatus (c : Cmd)
  | nodePrepareOff (c : Cmd)
  | ageLedger (c : Cmd)
  | ageReplan (c : Cmd)
  | cfgStatus (c : Cmd)
  | cfgBegin (c : Cmd)
  | cfgWrite (c : Cmd)
  | cfgCommit (c : Cmd)
  | cfgAbandon (c : Cmd)
  | cfgActivate (c : Cmd)
  | injStatus (c : Cmd)
  | injArm (c : Cmd)
  | injDisarm (c : Cmd)
  | secPorts (c : Cmd)
  | secFuses (c : Cmd)
  | secProgram (c : Cmd)
  | secSeal (c : Cmd)
  | secWithdrawInj (c : Cmd)
  | hostDatagramReceived (d : Datagram)
  | arpRequest (port : Nat) (targetIp : Word)
  | icmpEchoRequest (port : Nat) (targetIp : Word) (ipLen : Nat)
  | svcBytesReceived (bytes : Bytes)
  | svcPacketTimeout
  | usbEnumeration
  | duplicateWindowExpiry
  | subscriptionLapsed
  | relaySegmentReceived (rx : RxFrame)
  | relayReassemblyTimeout
  | relayReplyTimeout
  | epochEnd
  | sealSend
  | tagUpdateFraming
  | sealReceived (rx : RxFrame)
  | segmentAggregateSend
  | segmentAggregateReceived (rx : RxFrame)
  | segmentVote
  | trunkVote
  | segmentVoteReceived (rx : RxFrame)
  | trunkVoteReceived (rx : RxFrame)
  | membershipJoinReceived (rx : RxFrame)
  | tagUpdateReceived (rx : RxFrame)
  | actionReceived (rx : RxFrame)
  | digestReceived (rx : RxFrame)
  | epochEvaluate (r : EvalReport)
  | inputIncomplete
  | noEvaluationTimeout
  | alarmActionPending
  | witnessRecordReceived (rx : RxFrame)
  | witnessAckReceived (rx : RxFrame)
  | witnessResend
  | transferRequestReceived (rx : RxFrame)
  | transferBlockSend
  | transferBlockReceived (rx : RxFrame)
  | transferEndReceived (rx : RxFrame)
  | transferAbortReceived (rx : RxFrame)
  | transferReadyReceived (rx : RxFrame)
  | providerSearch
  | transferRetry
  | transferTimeout
  | loggedEpochReplay
  | snapshotFrameReceived (rx : RxFrame)
  | unknownFrameReceived (rx : RxFrame)
  | linkSyncAcquired (port : Nat)
  | linkSyncLost (port : Nat)
  | linkHelloSend
  | linkHelloReceived (rx : RxFrame)
  | helloLossTimeout (port : Nat)
  | portHoldExpiry (port : Nat)
  | quietPhaseBoundary (ms : Nat)
  | delayMeasure
  | delayReqReceived (rx : RxFrame)
  | delayRespReceived (rx : RxFrame)
  | timeAnnounceSend
  | timeAnnounceReceived (rx : RxFrame)
  | announceExpiry
  | timeSyncSend
  | timeSyncReceived (rx : RxFrame)
  | upstreamTimeout
  | coldCandidateTimer
  | operatingTimePersist
  | timeAnchor
  | founderTimer
  | foundingAnnounceSend
  | foundingAnnounceReceived (rx : RxFrame)
  | foundingReadySend
  | foundingReadyReceived (rx : RxFrame)
  | foundingRosterReceived (rx : RxFrame)
  | conversionResult (bank slice : Nat) (r : ConvResult)
  | pulsedRequest (channel : Nat)
  | leadTimeExpiry (bank slice : Nat)
  | wireCheckWindowStart (channel : Nat)
  | wireCheckWindowEnd (channel : Nat) (ohms : Nat)
  | clampConduction (bank terminal : Nat) (conducting : Bool)
  | clampFlagTimeout (bank terminal : Nat)
  | selfCheckDone (bank slice : Nat) (offsetErr gainPpm : Int)
  | inPlaceCheckTimer (channel : Nat)
  | roveVisitStart (bank slice : Nat)
  | remapHandover (channel : Nat)
  | housekeepingReading (bank : Nat) (tA tB : Option Word) (bankTemp : Word) (supplyMv : Nat)
  | loopSupplyTrack (bank : Nat) (readings : List LoopReading)
  | loopComplianceCheck (bank : Nat) (readings : List LoopReading)
  | loopFault (channel : Nat)
  | driverThermalLimit (reading : LoopReading)
  | setpointRefresh (bank : Nat) (frame : BitVec 64)
  | holdExpired (bank : Nat)
  | nselRead (bank : Nat) (ohms : Nat)
  | instrumentRead (channel slot : Nat)
  | hartPoll (channel : Nat)
  | carrierFreeWait (channel : Nat)
  | hartResponseReceived (channel : Nat) (bytes : Bytes) (parityOk : Bool)
  | hartResponseTimeout (channel : Nat)
  | windowPreemption (channel : Nat)
  | loopForceExpiry (channel : Nat)
  | dioFilterCount (channel : Nat) (high : Bool)
  | fsState (supply mv : Nat)
  | fsOff (supply : Nat) (mv : Nat)
  | fsRestore (supply : Nat) (mv : Nat)
  | fsChannelResume (channel : Nat)
  | cellReset (channel : Nat)
  | couplerRefresh (channel : Nat) (frame : BitVec 64)
  | dioHoldExpired (channel : Nat)
  | hostLeaseExpiry (channel : Nat)
  | outputOverload (channel ma : Nat) (thermal : Bool)
  | overloadRetry (channel : Nat)
  | stuckOff (channel ma : Nat) (present : Bool)
  | backfeed (channel mv : Nat) (present : Bool)
  | openLoad (channel ma : Nat) (present : Bool)
  | offPulse (channel mv : Nat)
  | dioForceExpiry (channel : Nat)
  | recordWrite (dieErrors : List Nat) (silentDies : BitVec 5)
  | freezeExpiry
  | panelIdentityRead (panel : Nat) (id : Option PanelId)
  | displayUpdateStart (panel : Nat) (railFault : Nat) (railMv : Int)
  | displayUpdateEnd (panel : Nat)
  | railOffTimer
  | railFaultRetry (panel : Nat) (railFault : Nat) (railMv : Int)
  | pageHoldExpiry (panel : Nat)
  | supplyValid (mv heldMs : Nat)
  | oscillatorStable (bosc : Bool) (runs : List (Nat × Nat))
  | boscAttemptTimer
  | clockStartDecision
  | coreStartUp (r : StartReport)
  | startMembershipTimeout
  | clockMonitorTrip (f : ClockFinding) (stretchNs : Nat)
  | xoRetry (runs : List (Nat × Nat)) (windows : List (Nat × Nat)) (offsets : List (Nat × Int))
  | boscRetry (runs : List (Nat × Nat))
  | woscCheck (khz : Nat)
  | supplyEvent (input : Nat) (mv : Int) (heldMs : Nat)
  | supplyWarning (mv heldMs : Nat)
  | supplyLoss (mv fallMv : Nat)
  | supplyRestart (mv heldMs : Nat)
  | watchdogTimeout
  | stoppingTimeout
  | prepareOffStopTimer
  | svcKeyChange (ohms heldUs : Nat)
  | dramUncorrectable (address : Word)
  | dramScrub (corrected : Nat)
  | ageMeasurement (entry site : Nat) (value : Word)
  | historySample
  | replan (heldUpReadings : List (Nat × Word))
  | flashProgramDone (region : Nat)
  | injDurationExpiry (injector : Nat)
  | injHoldRelease (injector : Nat)
  | relayTestEnd (relay : Nat)
  | hostLinkChange (port speed : Nat)
  | holdUpSpent
  | uncontainedInternalFault
  deriving DecidableEq, Repr

end Sys2Proof
end

