-- ==== Sys2Proof/Decode.lean ====
section
/-! DEFINITION. The commands the opcode table spells by bits: none. Every row of `spec/opcode_table.json` has
an empty list of bit fields, since a command of this block is a packet, a frame or an event and no word. -/

namespace Sys2Proof

/-- The command a table word spells; the table gives no row any bits. -/
def decodeTableWord (_nbits _w : Nat) : Option Instr := none

end Sys2Proof
end

