-- ==== Sys2Proof/Machine/State.lean ====
section
/-! DEFINITION. The node's state as plain data, one structure for each block of Table 01-1, and the state
at reset: a module as made, its supply not yet valid, its core held in reset (log entry 3, DESIGN CHOICE). Every field's
reset value stands beside its declaration. -/

namespace Sys2Proof.Machine

/-- Stops of the machine. The manual gives every command an effect; only stresses beyond Table 22-1 have
none (R556). -/
inductive Fault where
  /-- Raised by SUPPLY_EVENT, FS_STATE, FS_RESTORE, BACKFEED and OFF_PULSE for a voltage beyond the absolute maximum
  ratings, after which R556 says the node's behaviour is not decided. Safe: the model stops where the hardware may go
  on. -/
  | absoluteMaximum
  deriving DecidableEq, Repr

/-- Rejections of a command by the model. -/
inductive Refusal where
  /-- The command has no meaning in the model yet. Safe: the model stops. -/
  | notModelled (mnemonic : String)
  deriving DecidableEq, Repr

/-- A store of bytes: sorted (address, byte) pairs without repeats; an unlisted address reads as 0, and
no listed byte is 0 (log entry 5, DESIGN CHOICE). -/
abbrev Memory := List Host.Cell

/-! ## Operating states, rings and the command processor -/

/-- Table 01-9. -/
inductive OpState where
  | start | guard | service | island | stopping
  deriving DecidableEq, Repr, Inhabited

/-- Whether the core runs: held in reset, in CLOCKLESS HOLD (R452), or released. -/
inductive CoreState where
  | held | clockless | running
  deriving DecidableEq, Repr, Inhabited

/-- Table 01-10. -/
inductive Profile where
  | standard | fast | quiet | fine
  deriving DecidableEq, Repr, Inhabited

/-- A reply or notification waiting to leave by a port: where it goes, the origin port of a relayed command, and
the packet. -/
structure OutPkt where
  dest : Originator
  origPort : Nat := 0
  pkt  : Bytes
  deriving DecidableEq, Repr, Inhabited

/-- One entry of a duplicate window (R39): `reply` is the last reply sent, `relayTag` the tag of a relayed
command (R64). -/
structure WinEntry where
  seq      : BitVec 16
  crc      : Word
  entered  : Nat
  reply    : Option Bytes := none
  relayTag : Option Nat := none
  deriving DecidableEq, Repr, Inhabited

/-- The window of one originator (R39, R41), newest entry first. -/
structure Window where
  port     : Nat
  orig     : Originator
  lastSeen : Nat
  entries  : List WinEntry
  deriving DecidableEq, Repr, Inhabited

/-- A subscription (R49, R50): mask over Q16, Q17, Q18, Q19, Q31; `read` is the read position in each of
these rings as a count of notifications produced on it. -/
structure Subscription where
  port     : Nat
  orig     : Originator
  mask     : BitVec 5
  leaseEnd : Nat
  count    : Nat
  lost     : Nat
  read     : List Nat
  /-- The notification packet that left last (the model's own record of what left). -/
  last     : Bytes := []
  deriving DecidableEq, Repr, Inhabited

/-- A notification held on a ring (Table 02-5): its sequence and lost count are the subscriber's. `only` is the one
subscriber it is for (SUBSCRIPTION_LAPSED, R48), as its subscription ended; `sent`: it has left to that one. -/
structure Notif where
  opcode  : Nat
  epoch   : Nat
  locator : Nat
  body    : Bytes
  only    : Option Subscription := none
  sent    : Bool := false
  deriving DecidableEq, Repr, Inhabited

/-- A notification ring: descriptors held, oldest first, and how many were produced before the oldest. -/
structure NotifRing where
  first : Nat := 0
  items : List Notif := []
  deriving DecidableEq, Repr, Inhabited

/-- A command waiting on Q00 to Q07: its port, originator, relay origin port and the packet's bytes. -/
structure InPkt where
  orig     : Originator
  origNode : Nat
  origPort : Nat
  pkt      : Bytes
  deriving DecidableEq, Repr, Inhabited

/-- A relayed command outstanding at the origin (R64, R65): its tag, the command it stands for and when the
frame was sent. `counted` is cleared when the first reply was ACCEPTED_PENDING. -/
structure RelayOut where
  tag     : Nat
  cmd     : InPkt
  port    : Nat
  sentAt  : Nat
  counted : Bool
  deriving DecidableEq, Repr, Inhabited

/-- An incomplete relay message (R227). -/
structure RelayAsm where
  origin : Nat
  tag    : Nat
  dir    : Nat
  inPort : Nat
  first  : Nat
  count  : Nat
  total  : Nat
  segs   : List (Nat × Bytes)
  deriving DecidableEq, Repr, Inhabited

/-- Rings Q00 to Q19 and Q31, windows, subscriptions and relays. -/
structure Ports where
  inRings   : List (List InPkt) := List.replicate 8 []
  /-- Q08 to Q15, oldest first: the first 256 hold descriptors; what stands behind them waits for one (R68). -/
  outRings  : List (List OutPkt) := List.replicate 8 []
  /-- QUEUE_FULL replies waiting in the reserve of P0 to P2 (R68). -/
  reserve   : List (List OutPkt) := List.replicate 3 []
  /-- Q16, Q17, Q18, Q19, Q31. -/
  notifs    : List NotifRing := List.replicate 5 {}
  subs      : List Subscription := []
  windows   : List Window := []
  /-- Next ring of the rotation (R67). -/
  turn      : Nat := 0
  relayTag  : Nat := 0
  relays    : List RelayOut := []
  asms      : List RelayAsm := []
  asmDrops  : Nat := 0
  /-- Highest descriptors in use and drop counter per ring Q00 to Q31 (R69). -/
  high      : List Nat := List.replicate 32 0
  drops     : List Nat := List.replicate 32 0
  badMarker : Nat := 0
  dgDrops   : Nat := 0
  svcTimeouts : Nat := 0
  /-- `SVC`: enumerated, bytes of the packet being collected, time of the last byte. -/
  usb       : Bool := false
  svcBuf    : Bytes := []
  svcLast   : Nat := 0
  /-- Negotiated speed of `H1`, `H2`: 0 down, 1 100BASE-TX, 2 1000BASE-T (R484). -/
  links     : List Nat := [0, 0]
  /-- ICMP echo replies sent in the present second per port, and its start (R54). -/
  echo      : List (Nat × Nat) := [(0, 0), (0, 0)]
  /-- ARP and echo answers placed on the wires of `H1`, `H2` (the model's own count of what left). -/
  arpSent   : List Nat := [0, 0]
  echoSent  : List Nat := [0, 0]
  /-- Next IPv4 hop of the packet that left `H1`, `H2` last (R57; the model's own record of what left). -/
  hop       : List Nat := [0, 0]
  /-- Refusals per port P0 to P7: NOT_PERMITTED_PORT and KEY_REQUIRED (R89). -/
  refusedPort : List Nat := List.replicate 8 0
  refusedKey  : List Nat := List.replicate 8 0
  deriving DecidableEq, Repr, Inhabited

/-- The fuse array and the key (R76, R78, R80). -/
structure Security where
  fuses      : List Word := List.replicate 32 0
  /-- The state derived at power-up (R80) or by SEC.SEAL (R84). -/
  sealed     : Bool := false
  injAllowed : Bool := true
  matrix     : List Word := List.replicate 8 0
  keyClosed  : Bool := false
  /-- Core IC temperature, board temperature, 0.1 °C (R87, R484). -/
  coreTemp   : Int := 250
  boardTemp  : Int := 250
  deriving DecidableEq, Repr, Inhabited

/-! ## Time, clocks and power -/

/-- A reference of the PLL (R449, R455). -/
inductive Ref where
  | xo | fabric (port : Nat) | bosc
  deriving DecidableEq, Repr, Inhabited

/-- Counts of time: `now` the timebase in µs since the supply became valid, `fab` fabric time in ns, `op`
operating time in 100 µs units. -/
structure Times where
  now        : Nat := 0
  fab        : Option Nat := none
  op         : Nat := 0
  opSub      : Nat := 0
  /-- Last-gasp copies A and B of operating time: value, sequence, power-cycle count (R410). -/
  copyA      : Option (Nat × Nat × Nat) := none
  copyB      : Option (Nat × Nat × Nat) := none
  persistSeq : Nat := 0
  persistDue : Nat := 0
  fabPersist : Nat := 0
  powerCount : Nat := 0
  /-- Start of the present power cycle and the instants of its milestones, in `now`. -/
  cycleStart : Nat := 0
  anchorDue  : Nat := 0
  /-- The wall-time map in force: wall time and its fabric time, µs (R412). -/
  wallMap    : Option (Int × Nat) := none
  deriving DecidableEq, Repr, Inhabited

/-- Oscillators, monitor and PLL (R450 to R463). -/
structure Clocks where
  xoRunning   : Bool := false
  boscRunning : Bool := false
  xoStable    : Bool := false
  xoTripped   : Bool := false
  boscStable  : Bool := false
  boscTripped : Bool := false
  boscAttempt : Nat := 0
  wosc        : Bool := false
  woscTripped : Bool := false
  woscKhz     : Nat := 0
  woscGood    : Nat := 0
  pllLocked   : Bool := false
  ref         : Option Ref := none
  ratio       : Nat := 0
  forced      : Nat := 0
  orderly     : Nat := 0
  trips       : Nat := 0
  /-- XO offset, 0.1 ppm, signed (R462). -/
  xoOffset    : Option Int := none
  /-- When the start sequence began, and when the XO and BOSC retries fall due (R451, R458). -/
  seqStart    : Nat := 0
  xoRetryAt   : Nat := 0
  boscRetryAt : Nat := 0
  /-- Hold entry at last-gasp 0x0_0F00 (R452): state word, cause, attempts, XO state, operating time. -/
  holdEntry   : Word × Nat × Nat × Nat × Nat := (0xFFFF0000, 0, 0, 0, 0)
  deriving DecidableEq, Repr, Inhabited

/-- Supplies, hold-up, shutdown and restarts (R464 to R484). -/
structure Power where
  valid      : Bool := false
  /-- States (Table 17-1) and voltages in mV of SUP1, SUP2, and the ORed supply in mV. -/
  sup1       : Nat := 2
  sup2       : Nat := 2
  mv1        : Int := 0
  mv2        : Int := 0
  mvOr       : Nat := 0
  warning    : Bool := false
  failing    : Bool := false
  /-- The hold-up ran out, so that the next start is from step 1 (R471). -/
  holdupSpent : Bool := true
  /-- Hold-up diagnostic 0x0012 and the results of the last test (R466, R472). -/
  holdup     : Nat := 0
  holdupTest : List Nat := [0, 0, 0, 0, 0, 0]
  /-- Instants (in `now`) of core restarts in the last 3,600 s of operating time, as operating times. -/
  restarts   : List Nat := []
  /-- Cause of the core restart under way (R481). -/
  restartCause : Nat := 0
  heldStart  : Bool := false
  /-- Cause of the present power cycle (POWER_UP), restart cause, NF relay stages. -/
  upCause    : Nat := 0
  /-- NODE.PREPARE_OFF in progress: command to complete, E1, whether it was caller, step reached. -/
  prepareOff : Option (List Cmd × Option Nat × Bool × Nat) := none
  stopAt     : Nat := 0
  startToService : Nat := 0
  guardAt    : Nat := 0
  serviceReached : Bool := false
  dramCorrected   : Nat := 0
  dramUncorrected : Nat := 0
  /-- Sub-step of START: 0 not started, 4 tests, 5 image, 6 journal done and joining from 7. -/
  step       : Nat := 0
  stepTime   : Nat := 0
  startFailedWritten : Bool := false
  deriving DecidableEq, Repr, Inhabited

/-! ## The event recorder -/

/-- A record waiting in the write queue or in staging (R406, R409): type, stated length, body, operating time
of production, and the notification to place at commit: ring, opcode, epoch, body. -/
structure QRec where
  type   : Nat
  len    : Nat
  body   : Bytes
  op     : Nat
  /-- Repeat count of a staged record (R408, R420). -/
  rep    : Nat := 0
  notif  : Option (Nat × Nat × Nat × Bytes) := none
  deriving DecidableEq, Repr, Inhabited

/-- Page contents to render: panel, page kind, parameter, content (R442, R443). -/
abbrev Pages := List (Nat × Nat × Nat × List Nat)

/-- What waits behind the recorder, in order (R15). -/
inductive QItem where
  /-- A record for the own log. -/
  | own (r : QRec)
  /-- A record for a witness partition (1 or 2), its holder's acknowledgement and key. -/
  | witness (part : Nat) (origin inc num : Nat) (r : QRec)
  /-- A notification without a record, in its place in the order: ring, opcode, epoch, body. -/
  | note (ring opcode epoch : Nat) (body : Bytes)
  /-- Pages to render once everything before is committed (R15). -/
  | pages (ps : Pages)
  deriving DecidableEq, Repr, Inhabited

/-- Metadata of an area (R404): write, oldest and floor cursors as addresses, generation counter, record
counts and generations per block, and the address of the newest record. -/
structure Area where
  write  : Nat := 0
  oldest : Nat := 0
  floor  : Nat := 0
  gen    : Nat := 0
  counts : List (Nat × Nat) := []
  gens   : List (Nat × Nat) := []
  newest : Option Nat := none
  /-- Whether the next block has been prepared (R405). -/
  ready  : Bool := false
  deriving DecidableEq, Repr, Inhabited

/-- A freeze in progress (R420): end, start, staged records, bytes used, records and bytes lost, first type
lost. -/
structure Freeze where
  until_   : Nat
  start    : Nat
  staged   : List QRec
  used     : Nat
  lost     : Nat
  lostBytes : Nat
  lostType : Nat
  /-- Where the next staged record will lie at thaw. -/
  cursor   : Nat
  deriving DecidableEq, Repr, Inhabited

/-- A class-A record sent to the two ring neighbours (R272), per side whether acknowledged. -/
structure WitnessOut where
  num    : Nat
  bytes  : Bytes
  ack    : List Bool
  holder : List Nat
  sent   : Nat
  tries  : Nat
  deriving DecidableEq, Repr, Inhabited

/-- Parts of a witness record being assembled at a holder (R272). -/
structure WitnessIn where
  origin : Nat
  inc    : Nat
  num    : Nat
  parts  : List (Nat × Bytes)
  total  : Nat
  started : Nat
  deriving DecidableEq, Repr, Inhabited

/-- The recorder (R399 to R426). -/
structure Recorder where
  /-- The five MRAM dies, 16 MB each. -/
  dies     : List Memory := List.replicate 5 []
  /-- The last-gasp records, addressed as the last-gasp store. -/
  gasp     : Memory := []
  lost     : List Bool := List.replicate 5 false
  /-- Operating times of write errors per die; accesses without answer in a row. -/
  errors   : List (List Nat) := List.replicate 5 []
  silent   : List Nat := List.replicate 5 0
  /-- Intent slot (R400): stripe, word position, old data, old parity. -/
  intent   : Option (Nat × Nat × Word × Word) := none
  own      : Area := {}
  wit      : List Area := [{}, {}]
  gaspArea : Area := {}
  isOpen   : Bool := false
  queue    : List QItem := []
  freeze   : Option Freeze := none
  /-- Staged count kept in the metadata for a core restart (R421). -/
  stagedLost : Nat := 0
  /-- Witness number of the next class-A record, records not yet acknowledged, records of a non-member. -/
  witNum   : Nat := 0
  witOut   : List WitnessOut := []
  witHeld  : List Bytes := []
  /-- WITNESS frames waiting for a descriptor of Q21: how many waiting actions go before, destination and body (R273). -/
  witWait  : List (Nat × Nat × Bytes) := []
  witIn    : List WitnessIn := []
  /-- Keys of witness records filed: origin, incarnation, number (R414). -/
  filed    : List (Nat × Nat × Nat) := []
  deriving DecidableEq, Repr, Inhabited

/-- WITNESS-ONLY (R425): a second die is lost. -/
def Recorder.witnessOnly (r : Recorder) : Bool := decide (2 ≤ r.lost.count true)

/-! ## HEDGEROW -/

/-- Table 08-3. -/
inductive PortState where
  | disabled | down | hello | up | miswired | held | dark
  deriving DecidableEq, Repr, Inhabited

/-- A HEDGEROW frame without header check and CRC (Table 08-4); `trunk` is flag bit 2. -/
structure Frame where
  type   : Nat
  /-- Class bits of the header; those of a listed type are its class (Table 08-5). -/
  cls    : Nat := 0
  trunk  : Bool := false
  ttl    : Nat := 63
  origin : Nat := 0
  dest   : Nat := 0xFFFF
  inc    : Nat := 0
  seq    : Nat := 0
  body   : Bytes := []
  deriving DecidableEq, Repr, Inhabited

/-- A frame waiting on Q20 to Q23 or in transit: the ports it has still to leave by. -/
structure TxFrame where
  ports : List Nat
  frame : Frame
  /-- Sent with /V/ in place of the last CRC code-group (R215). -/
  coded : Bool := false
  deriving DecidableEq, Repr, Inhabited

/-- An armed GORSE injector (R527 to R533): its INJ.ARM payload, the generator, the counts, the time of
arming and the end of its duration in operating time, and a held frame: the frame's bytes, whether coded, the
local time it arrived, how many later frames release it, and when. -/
structure InjArm where
  payload  : Bytes
  gen      : Word
  matching : Nat := 0
  acted    : Nat := 0
  armedOp  : Nat
  endOp    : Nat
  held    : List (RxFrame × Nat × Nat) := []
  deriving DecidableEq, Repr, Inhabited

/-- One fabric port (R209 to R214, R232, R240). -/
structure FabPort where
  state      : PortState := .disabled
  sync       : Bool := false
  /-- Consecutive 1 ms intervals with a matching hello, and the time of the last valid hello. -/
  hellos     : Nat := 0
  lastHello  : Nat := 0
  /-- When the first interval of the run of hellos began; a matching hello heard since 24.0 ms of a QUIET epoch. -/
  runStart   : Nat := 0
  quietHello : Bool := false
  helloDue   : Nat := 0
  /-- Times of departures from UP in the last 60 s, departures in all, end of HELD. -/
  departTimes : List Nat := []
  departures : Nat := 0
  heldUntil  : Nat := 0
  partner    : Nat := 0xFFFF
  partnerPort : Nat := 0xFF
  partnerClass : Nat := 4
  /-- Link delay values in ns since UP, newest first, at most 8; request outstanding: number and t1. -/
  delays     : List Int := []
  reqNum     : Nat := 0
  reqOut     : Option (Nat × Nat) := none
  delayDue   : Nat := 0
  accepted   : Nat := 0
  crcErrors  : Nat := 0
  headErrors : Nat := 0
  coded      : Nat := 0
  /-- Received optical power in 0.1 dBm and transmitter bias in 10 µA as last measured (R240; log entry 85). -/
  optPower   : Int := -400
  bias       : Nat := 0
  /-- Last TIME_SYNC: master, hops, master class, arrival. -/
  lastSync   : Option (Nat × Nat × Nat × Nat) := none
  syncDue    : Nat := 0
  deriving DecidableEq, Repr, Inhabited

/-- What is known of an origin (R221): newest incarnation, highest sequence accepted, and which of the 1,024
ending at it were accepted (bit 0 is the highest). -/
structure OriginEntry where
  node : Nat
  inc  : Nat
  high : Nat
  seen : BitVec 1024
  deriving DecidableEq, Repr, Inhabited

/-- A time announce received (R233): node, class, persisted time, master seen, arrival. -/
structure Announce where
  node : Nat
  cls  : Nat
  persisted : Nat
  master : Nat
  at_  : Nat
  deriving DecidableEq, Repr, Inhabited

/-- The fabric switch and fabric time (chapter 08). -/
structure Fabric where
  ports     : List FabPort := List.replicate 4 {}
  origins   : List OriginEntry := []
  frameSeq  : Nat := 0
  /-- Q20 to Q23 and frames in transit. -/
  out       : List (List TxFrame) := List.replicate 4 []
  /-- Q24 to Q27: frames accepted, each with its port and receive time in ns. The step that receives a frame also empties
  them (log entry 12, DEDUCED). -/
  inQ       : List (List (Nat × Nat × Frame)) := List.replicate 4 []
  transit   : List TxFrame := []
  foreignUpdates : Nat := 0
  /-- Time: synchronised since (in `now`, lit time), last offset ns, announces, master, upstream, hops. -/
  syncSince : Option Nat := none
  offset    : Option Int := none
  outOfTol  : Nat := 0
  announces : List Announce := []
  master    : Option Nat := none
  upstream  : Option Nat := none
  hops      : Nat := 0
  announceDue : Nat := 0
  firstUp   : Option Nat := none
  lastGoodAnnounce : Nat := 0
  cold      : Option Nat := none
  rateUpdates : Nat := 0
  /-- Rate adjustment in ppb, and the part of a ns it has made up, in 10⁻⁶ ns (R231, R234). -/
  rate      : Int := 0
  rateSub   : Nat := 0
  /-- Fabric time has been set from upstream (R236). -/
  stepped   : Bool := false
  /-- Highest persisted time that a class-3 node has announced since a class 1 or 2 announce was heard (R235). -/
  coldHigh  : Nat := 0
  /-- QUIET cycle: milliseconds of the last boundary handled (Table 08-7), ports held lit by a transfer. -/
  dark      : Bool := false
  quietMs   : Nat := 0
  deriving DecidableEq, Repr, Inhabited

/-! ## Tags, groups and the duty call: the replicated picture -/

/-- Table 04-8. -/
inductive AlarmState where
  | normal | unack | acked | rtnUnack | latched | shelved | suppressed | outOfService
  deriving DecidableEq, Repr, Inhabited

/-- A condition word (Table 04-7): state, RAW, QUAL, first-out mark and timer. -/
structure Cond where
  state : AlarmState := .normal
  raw   : Bool := false
  qual  : Bool := false
  mark  : Bool := false
  timer : Nat := 0
  deriving DecidableEq, Repr, Inhabited

/-- Table 05-5, bits [1:0]. -/
inductive Role where
  | none | head | folded | headFlood
  deriving DecidableEq, Repr, Inhabited

/-- A tag's dynamic state (Table 04-6). -/
structure TagDyn where
  value      : Word := 0
  quality    : BitVec 8 := 0
  shelved    : Bool := false
  oos        : Bool := false
  suppressed : Bool := false
  updated    : Bool := false
  rateArmed  : Bool := false
  role       : Role := .none
  age        : Nat := 0
  stamp      : Nat := 0
  deadline   : Nat := 0
  rateRef    : Word := 0
  rateEpoch  : Nat := 0
  rate       : Word := 0
  conds      : List Cond := List.replicate 8 {}
  deriving DecidableEq, Repr, Inhabited

/-- A watch area (R189, R191, R194): holder (kind 0 station, 1 engineer), stage with its cause, alarm stage, S
and the pending offer (kind, target, deadline). -/
structure WatchArea where
  kind       : Nat := 0
  holder     : Nat := 0
  stage      : Nat := 0
  cause      : Nat := 0
  alarmStage : Nat := 0
  since      : Option Nat := none
  offer      : Option (Nat × Nat × Nat) := none
  deriving DecidableEq, Repr, Inhabited

/-- The replicated call state: areas 0 to 15, dead-man deadlines of stations 0 to 63, the caller of the most
recently evaluated epoch (R193, R195, R198). -/
structure Call where
  areas   : List WatchArea := List.replicate 16 {}
  deadman : List (Option Nat) := List.replicate 64 none
  caller  : Option Nat := none
  deriving DecidableEq, Repr, Inhabited

/-- Snapshot state (R275): next identifier and two slots (identifier, target, end). -/
structure SnapState where
  nextId : Nat := 1
  slots  : List (Nat × Nat × Nat) := [(0, 0, 0), (0, 0, 0)]
  deriving DecidableEq, Repr, Inhabited

/-- A latched shadow bank (R276). -/
structure Bank where
  id     : Nat := 0
  target : Nat := 0
  bytes  : Bytes := []
  /-- The node was absent in the target epoch. -/
  absent : Bool := false
  deriving DecidableEq, Repr, Inhabited

/-- The evaluated, replicated state (R16): what state transfer carries and the digest covers. -/
structure Replica where
  /-- Dynamic state of the used tags, ascending. -/
  tags     : List (Nat × TagDyn) := []
  /-- Hold counters of the edges that are not 0, ascending; edges active in the last epoch. -/
  holds    : List (Nat × Nat) := []
  active   : List Nat := []
  call     : Call := {}
  sysOffset   : Int := 0
  offsetEpoch : Nat := 0
  snap     : SnapState := {}
  /-- M(E + 1) for the last evaluated E, and the nodes absent in E, E - 1, E - 2 with M of each. -/
  members  : List Nat := []
  absents  : List (Nat × List Nat × List Nat) := []
  /-- Nodes named by join frames counted in E: they enter M(E + 2). -/
  joins    : List Nat := []
  /-- Nodes whose seal of the last evaluated epoch carried ELIGIBLE (R198, R208). -/
  lastElig : List Nat := []
  /-- Activation scheduled: E_a, regions with CRC, origin node, origin port (R518). -/
  scheduled : Option (Nat × List (Nat × Nat) × Nat × Nat) := none
  deriving DecidableEq, Repr, Inhabited

/-! ## Replication -/

/-- An update entry (Table 09-1). -/
structure Upd where
  tag     : Nat
  quality : BitVec 8
  value   : Word
  stamp   : Nat
  deriving DecidableEq, Repr, Inhabited

/-- An operator action whole (R119, R246). -/
structure Action where
  stamp  : Nat
  opcode : Nat
  number : Nat
  port   : Nat
  origin : Nat
  payload : Bytes
  deriving DecidableEq, Repr, Inhabited

/-- What a counted frame carries. -/
inductive CBody where
  | updates (us : List Upd)
  /-- Part index and count of an action. -/
  | part (a : Action) (index count : Nat)
  | join (node : Nat)
  deriving DecidableEq, Repr, Inhabited

/-- A counted frame in an input slot (R260). -/
structure CFrame where
  epoch  : Nat
  origin : Nat
  seq    : Nat
  body   : CBody
  deriving DecidableEq, Repr, Inhabited

/-- A node seal held (Table 09-3). -/
structure SealIn where
  epoch   : Nat
  node    : Nat
  flags   : BitVec 8
  counted : Nat
  lanes   : Nat
  state   : Nat
  deriving DecidableEq, Repr, Inhabited

/-- A segment aggregate held (Table 09-4); bit maps by position. -/
structure AggIn where
  epoch   : Nat
  seg     : Nat
  bridge  : Nat
  present : BitVec 64
  absent  : BitVec 64
  elig    : BitVec 64
  depart  : BitVec 64
  reseed  : BitVec 64
  counted : List Nat
  deriving DecidableEq, Repr, Inhabited

/-- A vote held (Table 09-5). -/
structure Vote where
  epoch   : Nat
  kind    : Nat
  port    : Nat
  run     : Nat
  subject : Nat
  voter   : Nat
  deriving DecidableEq, Repr, Inhabited

/-- A published action whose reply is due (R126). -/
structure Await where
  cmd     : Cmd
  opcode  : Nat
  number  : Nat
  epoch   : Nat
  sentAt  : Nat
  pending : Bool
  deriving DecidableEq, Repr, Inhabited

/-- Own counted frames of an epoch: how many were originated, and how many have left `F0` and `F1`; their frame
sequences; and whether the own seal of the epoch has left a segment port (R247, R254). -/
structure OwnCount where
  epoch  : Nat
  framed : Nat
  left0  : Nat
  left1  : Nat
  entries : Nat
  seqs   : List Nat := []
  sealLeft : Bool := false
  deriving DecidableEq, Repr, Inhabited

/-- The requester's side of a transfer or re-seed (R265 to R269). -/
structure Requester where
  reseed    : Bool
  cause     : Nat
  id        : Nat
  er        : Nat
  started   : Nat
  /-- Providers: port, node, digest of its end frame. -/
  providers : List (Nat × Nat × Option Nat)
  /-- Assembled blocks, by index. -/
  blocks    : List (Nat × Bytes)
  /-- The state is assembled and epochs from E_r + 1 are being replayed. -/
  replaying : Bool := false
  replayed  : Nat := 0
  /-- A re-seed is caught up: the node resumes at the next epoch boundary (R270). -/
  caught    : Bool := false
  readySent : Option Nat := none
  readyTo   : List Nat := []
  deriving DecidableEq, Repr, Inhabited

/-- The provider's side: requester node and port, identifier, E_r, share, next block, and the frozen image once
E_r is evaluated with its digest. -/
structure Provider where
  node   : Nat
  port   : Nat
  reseed : Bool
  id     : Nat
  er     : Nat
  share  : Nat
  count  : Nat
  next   : Nat
  image  : Option (Replica × Nat)
  deriving DecidableEq, Repr, Inhabited

/-- Lanes and profiles (chapter 06). -/
structure Lanes where
  /-- In service: A, B, C. -/
  inService : BitVec 3 := 0b111
  charges   : List Nat := [0, 0, 0]
  /-- Epochs of the last three charges, oldest first. -/
  last3     : List (List Nat) := [[], [], []]
  /-- To be retired at the next epoch boundary: lane, reason, epoch. -/
  retiring  : List (Nat × Nat × Nat) := []
  clean     : Nat := 0
  profile   : Profile := .standard
  running   : Profile := .standard
  /-- Accepted NODE.SET_PROFILE waiting for the boundary, and a trigger of R28 seen. -/
  next      : Option Profile := none
  trigger   : Bool := false
  deriving DecidableEq, Repr, Inhabited

/-- One relay (R203 to R205): energised, and energised without regard to a test; supervision counts, fault code, test
ending epoch, and whether a coil fault stood during the test. -/
structure Relay where
  on       : Bool := false
  driven   : Bool := false
  bad      : Nat := 0
  good     : Nat := 0
  fault    : Nat := 0
  testEnd  : Option Nat := none
  testBad  : Bool := false
  deriving DecidableEq, Repr, Inhabited

/-- Founding (R477 to R479). -/
structure Founding where
  /-- This node is founder of E_F, and since when it could be. -/
  founder  : Bool := false
  quietSince : Nat := 0
  ef       : Option Nat := none
  founderNode : Nat := 0
  announceDue : Nat := 0
  readyDue : Nat := 0
  ready    : List Nat := []
  /-- Roster parts held, and rosters sent. -/
  parts    : List (Nat × List Nat) := []
  rosterSent : Nat := 0
  /-- Founding hold runs until this epoch (R479). -/
  holdEnd  : Option Nat := none
  deriving DecidableEq, Repr, Inhabited

/-- An epoch's output held by a one-lane node (R180): epoch, transitions, items, state codes emitted after it, and
the evaluated picture its field outputs follow on release (R346). -/
structure HeldEpoch where
  epoch : Nat
  trans : Nat
  items : List QItem
  codes : List (Nat × List AlarmState)
  rep   : Replica := {}
  deriving DecidableEq, Repr, Inhabited

/-- Replication at this node (chapter 09). -/
structure Repl where
  rep       : Replica := {}
  /-- Current epoch of fabric time not yet ended; last epoch evaluated. -/
  cur       : Nat := 0
  lastEval  : Option Nat := none
  lastEvalAt : Nat := 0
  /-- Outputs have been driven from an evaluated epoch since the last core start (R346, R357, R383). -/
  fieldOn   : Bool := false
  member    : Bool := false
  /-- First epoch of this membership. -/
  since     : Nat := 0
  frames    : List CFrame := []
  seals     : List SealIn := []
  aggs      : List AggIn := []
  votes     : List Vote := []
  /-- What own votes named, and the node discards from then on: epoch, node, or 4,096 + segment; the epochs last
  voted in on the segment and trunk ports, and of the aggregate last sent. -/
  voted     : List (Nat × Nat) := []
  votedSeg  : Option Nat := none
  votedTrunk : Option Nat := none
  aggSent   : Option Nat := none
  /-- The seal last placed: epoch, ports and the frame. -/
  sealed    : Option (Nat × List Nat × Frame) := none
  sealFlags : BitVec 8 := 0
  departing : Bool := false
  pending   : List Upd := []
  /-- Latest result of each owned tag and the last published: tag, quality, value. -/
  results   : List (Nat × BitVec 8 × Word) := []
  published : List (Nat × BitVec 8 × Word) := []
  republish : Bool := false
  actNumber : Nat := 0
  outActs   : List Action := []
  awaits    : List Await := []
  own       : List OwnCount := []
  lateDiscards  : Nat := 0
  earlyDiscards : Nat := 0
  lateCarried   : Nat := 0
  incomplete    : Nat := 0
  /-- State codes last emitted, per tag; groups last emitted. -/
  emitted   : List (Nat × List AlarmState) := []
  /-- Nodes whose seal of the last evaluated epoch carried RESEEDING. -/
  lastReseed : List Nat := []
  /-- Digests received and computed: epoch, node, value. -/
  digests   : List (Nat × Nat × Nat) := []
  digestDue : Option Nat := none
  digestOk  : Option Bool := none
  /-- M(E) of the digest epoch E whose comparison is due (R264). -/
  digestOf  : List Nat := []
  reference : Option (Nat × Nat) := none
  eligRun   : Nat := 0
  /-- The current epoch when the coils were last supervised (R204). -/
  coilAt    : Nat := 0
  req       : Option Requester := none
  prov      : Option Provider := none
  searchDue : Nat := 0
  retryAt   : Nat := 0
  transferId : Nat := 0
  /-- Why the replica is to be re-seeded, when no evaluated state is held (R270). -/
  reseed    : Option Nat := none
  /-- Joiners this node sponsors in its next epoch, with their E_r (R269). -/
  joinOf    : List (Nat × Nat) := []
  founding  : Founding := {}
  relays    : List Relay := [{}, {}]
  /-- R200: relays held as they stood, until the epoch given, or while the caller's place is held. -/
  holdRelays : Option (List Bool × Option Nat) := none
  wasCaller : Bool := false
  banks     : List Bank := [{}, {}]
  /-- Output held by a one-lane node, per epoch, with its transitions (R180). -/
  heldOut   : List HeldEpoch := []
  /-- State codes last released, while output is held. -/
  released  : List (Nat × List AlarmState) := []
  deriving DecidableEq, Repr, Inhabited

/-! ## Configuration -/

/-- A directory entry (Table 19-2). -/
structure DirEntry where
  state   : Nat := 0
  length  : Nat := 0
  crc     : Nat := 0
  version : Nat := 0
  gen     : Nat := 0
  ident   : BitVec 64 := 0
  deriving DecidableEq, Repr, Inhabited

/-- A session (R512): its content and which bytes were written, as (start, end) spans. -/
structure Session where
  handle  : Nat
  region  : Nat
  length  : Nat
  crc     : Nat
  version : Nat
  ident   : BitVec 64
  content : Memory := []
  spans   : List (Nat × Nat) := []
  deriving DecidableEq, Repr, Inhabited

/-- A commit running or pending: the command to complete and the session (R514, R515). -/
structure Commit where
  cmd     : Cmd
  session : Session
  sig     : Bytes := []
  deriving DecidableEq, Repr, Inhabited

/-- Configuration flash, directory, selector and updates (chapter 19). -/
structure Cfg where
  /-- Banks A and B, region contents at the offsets of Table 19-1. -/
  flash     : List Memory := [[], []]
  dir       : List (List DirEntry) := [List.replicate 89 {}, List.replicate 89 {}]
  /-- Selector words 0 to 5 of the last-gasp store (R505). -/
  selector  : List Word := List.replicate 6 0xFFFF0000
  sessions  : List Session := []
  nextHandle : Nat := 1
  running   : List Commit := []
  pendingC  : List Commit := []
  /-- Regions STAGED, not yet activated, and the handles their content came by. -/
  staged    : List Nat := []
  handles   : List (Nat × Nat) := []
  /-- A firmware activation waits until its completion has left (R522). -/
  fwRestart : Bool := false
  joined    : Bool := false
  /-- Epoch base (R521). -/
  base      : Nat × Nat := (0, 0)
  /-- L in µs of the epochs from the base on, and the base and L before it (R521). -/
  len       : Nat := 10000
  prev      : Nat × Nat × Nat := (0, 0, 10000)
  /-- Node-table identity that ports also accept, until the epoch given (R521). -/
  oldIdent  : Option (Nat × Nat) := none
  fwRelease : Nat := 0
  fwSource  : Nat := 2
  fwPrev    : Nat := 0
  /-- Signatures kept with the firmware copies of banks A and B (log entry 22, DESIGN CHOICE). -/
  fwSigs    : List Bytes := [[], []]
  /-- The image is loaded (step 5 of Table 17-5). -/
  loaded    : Bool := false
  deriving DecidableEq, Repr, Inhabited

/-! ## Analogue banks (chapters 10 and 11) -/

/-- Table 10-6. -/
inductive SlicePhase where
  | off | idle | lead | settle | run | check | retired
  deriving DecidableEq, Repr, Inhabited

/-- A slice (R280, R281, R292, R307, R497): its state, the end of its lead time, its consecutive failed checks
and failed checks ever, the last errors, the errors of the checks passed since the last re-plan, and the
corrections in force. The factory calibration of a module is nominal (log entry 17, DESIGN CHOICE). -/
structure Slice where
  phase      : SlicePhase := .off
  leadEnd    : Nat := 0
  /-- The excitation source is on (Table 10-6), and the fabric time of the last filter start (R291). -/
  excOn      : Bool := false
  filterAt   : Nat := 0
  /-- Rate and chopping the conversion in progress began with (R295). -/
  rate       : Nat := 0
  chop       : Bool := false
  fails      : Nat := 0
  failedEver : Nat := 0
  lastOffset : Int := 0
  lastGain   : Int := 0
  passed     : List (Int × Int) := []
  offset     : Int := 0
  gainPpm    : Int := 0
  accGain    : Int := 0
  /-- Corrections of a re-plan, in force from the next filter start (R497), and the last ROVE_DRIFT (Table 18-2). -/
  newCal     : Option (Int × Int) := none
  drift      : Int := 0
  /-- Calibrated excitation currents that differ from the setting: µA, binary32 mA. -/
  iCal       : List (Nat × Word) := []
  /-- Q_ref 2,000 Ω and R_s 50 Ω as calibrated, binary32. -/
  qRef       : Word := 0x44FA0000
  rsCal      : Word := 0x42480000
  deriving DecidableEq, Repr, Inhabited

/-- What a rover is doing on a channel (R310, R311): pre-check, collecting pairs, after-check, or covering
while the working slice checks and settles. -/
inductive VisitStage where
  | preCheck | collect | afterCheck | cover | resettle
  deriving DecidableEq, Repr, Inhabited

/-- A roving visit: the rover, the channel in bank, its stage, the differences collected and the codes of
either slice not yet paired, each with the end of its conversion. -/
structure Visit where
  rover   : Nat
  channel : Nat
  stage   : VisitStage := .preCheck
  diffs   : List Int := []
  codesS  : List (Int × Nat) := []
  codesW  : List (Int × Nat) := []
  /-- The visit that a CHAN.CHECK asked for (R320). -/
  forCheck : Bool := false
  /-- The rover's result at or after the first valid output of the working slice, until that output is known (R311). -/
  held    : Option ConvResult := none
  deriving DecidableEq, Repr, Inhabited

/-- A CHAN.CHECK in progress (R320): its command, whether its own window has begun, the impedance, the visit's result and
the self-check's. -/
structure ChanCheck where
  cmd   : Cmd
  window : Bool := false
  ohms  : Option Nat := none
  visit : Option (Nat × Option Int) := none
  selfCheck : Option Nat := none
  deriving DecidableEq, Repr, Inhabited

/-- A remap under way (R312): the new slice, the old, when decided and the handover instant. -/
structure Remap where
  new     : Nat
  old     : Nat
  decided : Nat
  at_     : Nat
  done    : Bool := false
  deriving DecidableEq, Repr, Inhabited

/-- A change that interrupted conversions (R297): its fabric time, the slice, the entry then in force and the chopping of the
conversion. -/
structure LateResult where
  atUs  : Nat
  slice : Nat
  entry : Bytes
  chop  : Bool
  deriving DecidableEq, Repr, Inhabited

/-- An analogue channel (R280, R302, R305, R317). `retired` is 0, 3 by fault, 4 by command. -/
structure Chan where
  retired  : Nat := 0
  slice    : Option Nat := none
  isOpen   : Bool := false
  excFault : Bool := false
  excGood  : Nat := 0
  wireGood : Nat := 0
  overrange : Bool := false
  inRange  : Bool := false
  /-- The next output replaces a discarded OVERRANGE (R308). -/
  retry    : Bool := false
  last     : Word := 0
  value    : Word := 0
  quality  : BitVec 8 := 0
  published : Option (BitVec 8 × Word) := none
  upsets   : Nat := 0
  endUs    : Nat := 0
  ohms     : Nat := 0xFFFFFFFF
  roveD    : Option Int := none
  /-- Base value of the latest VALID result and when it ended (R331). -/
  base     : Option (Word × Nat) := none
  /-- A clamp flag was set during the conversion in progress (R299). -/
  clamped  : Bool := false
  settling : Bool := false
  requestDue : Nat := 0
  requestWaits : Bool := false
  windowDue : Nat := 0
  inWindow : Bool := false
  /-- When the window in progress ends, and the frequency of the tone in it in Hz (R300, R301). -/
  windowEnd : Nat := 0
  toneHz   : Nat := 0
  /-- The window due found the loop busy since (R364). -/
  windowWaits : Bool := false
  checkDue : Nat := 0
  /-- A pulsed channel's self-check waits for IDLE (R311, R313). -/
  checkWaits : Bool := false
  /-- Results that ended before the last interruption are still delivered (R297). -/
  late     : Option LateResult := none
  check    : Option ChanCheck := none
  remap    : Option Remap := none
  deriving DecidableEq, Repr, Inhabited

/-- A terminal's clamp (R299): conducting, flag, when conduction ended, when the flag cleared and when its last
event was. -/
structure Clamp where
  conducting : Bool := false
  flag     : Bool := false
  ended    : Nat := 0
  cleared  : Nat := 0
  lastEvent : Option Nat := none
  deriving DecidableEq, Repr, Inhabited

/-- A housekeeping reading (R281, R329): its fabric time, sensors A and B as last read with their failures, and the bank
temperature. -/
structure HkReading where
  atUs  : Nat
  tA    : Option Word
  tB    : Option Word
  failA : Bool
  failB : Bool
  temp  : Word
  deriving DecidableEq, Repr, Inhabited

/-- What a bank holds beside its slices and channels (R281, R309, R329, R330, R353, R356). -/
structure BankState where
  clamps   : List Clamp := List.replicate 40 {}
  /-- Housekeeping since the last core restart: sensors A and B and bank temperature, binary32 °C. -/
  tA       : Option Word := none
  tB       : Option Word := none
  temp     : Option Word := none
  /-- The bank supply as last measured, mV (R281), and the last 16 readings, newest first (R329). -/
  supplyMv : Option Nat := none
  readings : List HkReading := []
  failA    : Bool := false
  failB    : Bool := false
  goodA    : Nat := 0
  goodB    : Nat := 0
  disagree : Bool := false
  apart    : Nat := 0
  together : Nat := 0
  visits   : List Visit := []
  /-- Where each rover's rotation goes on: channel in bank. -/
  rotation : List Nat := [0, 4]
  /-- Channels whose CHAN.CHECK waits for a rover. -/
  wanted   : List Nat := []
  /-- Strap in force and the reading being confirmed with its count (Table 12-5 codes). -/
  strap    : Nat := 0
  strapNew : Nat := 0
  strapRun : Nat := 0
  /-- Time of the last good refresh frame, and whether the hold timer has expired since. -/
  lastFrame : Option Nat := none
  expired  : Bool := false
  deriving DecidableEq, Repr, Inhabited

/-! ## Current loops and the modem (chapter 12) -/

/-- A HART instrument at a polling address of a channel (R360, R362, R363). -/
structure Inst where
  slot   : Nat
  poll   : Nat
  found  : Bool := false
  silent : Bool := false
  long   : Bytes := []
  devType : Nat := 0
  devId  : Nat := 0
  /-- An identity has been held since the last commit. -/
  known  : Bool := false
  nextRead : Nat := 0
  vars   : List (BitVec 8 × Word) := List.replicate 4 (0x05, 0)
  deriving DecidableEq, Repr, Inhabited

/-- A transaction on a channel (R361): kind 0 identity read, 1 poll, 2 host; the slot, attempts made, the HART
command and data, the host's command, and when its request ends once sent. -/
structure Trans where
  kind     : Nat
  slot     : Nat
  attempts : Nat := 0
  command  : Nat
  data     : Bytes := []
  cmd      : Option Cmd := none
  sent     : Option Nat := none
  deriving DecidableEq, Repr, Inhabited

/-- A LOOP.TRANSACT waiting on Q30. -/
structure LoopReq where
  cmd     : Cmd
  channel : Nat
  slot    : Nat
  command : Nat
  data    : Bytes
  deriving DecidableEq, Repr, Inhabited

/-- The loop side of a channel (R345 to R370). Supply settings are in steps of 0.25 V. -/
structure Loop where
  setpoint : Nat := 0
  /-- The setpoint in the bank's latch, and whether it is the failure current. -/
  latched  : Nat := 0
  failing  : Bool := false
  supply   : Nat := 24
  lastFall : Nat := 0
  current  : Int := 0
  vt       : Nat := 0
  temp     : Int := 250
  power    : Nat := 0
  compliance : Bool := false
  refused  : Bool := false
  thermal  : Bool := false
  hotSince : Option Nat := none
  coolSince : Option Nat := none
  badSince : Option Nat := none
  goodSince : Option Nat := none
  fault    : Bool := false
  faultDetail : Nat := 0
  ne43     : Nat := 0
  forced   : Option (Nat × Nat) := none
  insts    : List Inst := []
  trans    : Option Trans := none
  pollTurn : Nat := 0
  carrierEnd : Nat := 0
  done     : Nat := 0
  failed   : Nat := 0
  preempts : Nat := 0
  bursts   : Nat := 0
  deriving DecidableEq, Repr, Inhabited

/-- The analogue side of the node. -/
structure Analog where
  slices : List Slice := List.replicate 40 {}
  chans  : List Chan := List.replicate 32 {}
  banks  : List BankState := List.replicate 4 {}
  loops  : List Loop := List.replicate 32 {}
  /-- Q30. -/
  q30    : List LoopReq := []
  deriving DecidableEq, Repr, Inhabited

/-! ## Digital inputs and outputs (chapter 13) -/

/-- A digital cell (R376 to R397). -/
structure Cell where
  count   : Nat := 0
  state   : Bool := false
  sample  : Bool := false
  /-- The core's command, the latch and whether a good frame has come since the cell's reset. -/
  command : Bool := false
  latch   : Bool := false
  framed  : Bool := false
  lastFrame : Option Nat := none
  expired : Bool := false
  edgeAt  : Nat := 0
  /-- When the command last turned on (R393). -/
  onAt    : Nat := 0
  /-- Waiting for its turn after a restoration (R386), and when it comes. -/
  turnAt  : Option Nat := none
  /-- A running force: state, end and duration in s. -/
  forced  : Option (Bool × Nat × Nat) := none
  lease   : Option Nat := none
  retired : Bool := false
  overload : Bool := false
  stuck   : Bool := false
  cross   : Bool := false
  backfeed : Bool := false
  openLoad : Bool := false
  attempts : Nat := 0
  lastTry : Nat := 0
  retryAt : Option Nat := none
  passes  : Nat := 0
  ma      : Nat := 0
  quality : BitVec 8 := 0
  shown   : Nat := 0
  edges   : Nat := 0
  edgeUs  : Nat := 0
  pulsesGood : Nat := 0
  pulsesBad  : Nat := 0
  deriving DecidableEq, Repr, Inhabited

/-- A field supply (R385, R386): state, voltage, when it went OFF, and the instant of the last restoration. -/
structure FieldSupply where
  state : Nat := 3
  mv    : Nat := 0
  offAt : Nat := 0
  restoredAt : Option Nat := none
  deriving DecidableEq, Repr, Inhabited

structure Dio where
  cells : List Cell := List.replicate 48 {}
  fs    : List FieldSupply := [{}, {}]
  deriving DecidableEq, Repr, Inhabited

/-! ## Display (chapter 15) -/

/-- The journal entry of a panel (Table 15-5). -/
structure Journal where
  frame : Nat := 0
  kind  : Nat := 0
  band  : Nat := 0
  page  : Nat := 0
  /-- 1 IDLE, 2 STARTED, 3 DONE. -/
  state : Nat := 1
  deriving DecidableEq, Repr, Inhabited

/-- An update in progress: waveform kind, band, target frame, its start and its end. -/
structure Update where
  kind   : Nat
  band   : Nat
  target : Nat
  page   : Nat × Nat
  start  : Nat
  end_   : Nat
  deriving DecidableEq, Repr, Inhabited

/-- A panel (R427 to R447). Frames are named by numbers (`Config.renderPage`); 0 is all white. -/
structure Panel where
  id       : Option PanelId := none
  misses   : Nat := 0
  serial   : Option Nat := none
  mismatch : Bool := false
  journal  : Journal := {}
  /-- The frame the panel shows, when it is known, and settled. -/
  current  : Option Nat := none
  fullNext : Bool := true
  clearing : Bool := false
  /-- Content waiting on Q28: frame, page kind and parameter. -/
  pending  : Option (Nat × Nat × Nat) := none
  /-- DISP.CLEAR waits. -/
  clearAsked : Bool := false
  update   : Option Update := none
  lastStart : Option Nat := none
  startUs  : Nat := 0
  /-- Suspended for temperature; for hold-up. -/
  coldHot  : Bool := false
  noHoldUp : Bool := false
  moduleTemp : Bool := false
  /-- Panel temperature in 0.01 °C. -/
  temp     : Int := 2500
  updates  : Nat := 0
  /-- Page held by command: kind, parameter, end. -/
  held     : Option (Nat × Nat × Option Nat) := none
  shown    : Nat × Nat := (0, 0)
  lastContent : Option (List Nat) := none
  deriving DecidableEq, Repr, Inhabited

/-- Display rails: 0 off, 1 on sequence, 2 on, 3 off sequence, 4 discharging; end of the sequence; when idle
rails are to go off; a standing rail fault and when it was found. -/
structure Display where
  panels : List Panel := List.replicate 4 {}
  rails  : Nat := 0
  railEnd : Nat := 0
  offAt  : Option Nat := none
  fault  : Option (Nat × Nat) := none
  /-- Hold-up: 0 not required, 1 verified, 2 failed. -/
  holdUp : Nat := 0
  /-- NODE.PREPARE_OFF: no new update starts. -/
  stopped : Bool := false
  /-- For each annunciated condition (tag × 8 + slot): its state code and the epoch of its latest transition. -/
  seen   : List (Nat × Nat × Nat) := []
  deriving DecidableEq, Repr, Inhabited

/-! ## Ageing ledger (chapter 18) -/

/-- A ledger entry (Table 18-3). `none` stands for a value never measured. -/
structure LedgerEntry where
  site   : Nat := 0xFF
  state  : Nat := 3
  value  : Option Word := none
  rate   : Option Word := none
  projection : Nat := 0xFFFFFFFF
  fresh  : Option Word := none
  hours  : Nat := 0
  samples : Nat := 0
  deriving DecidableEq, Repr, Inhabited

/-- The deratings in force (Table 18-5). -/
structure Derating where
  coreMv    : Nat := 800
  allowance : List Nat := List.replicate 4 4800
  slice     : List Nat := List.replicate 40 400
  digital   : List Nat := List.replicate 48 500
  bias      : List Nat := List.replicate 4 400
  calHours  : List Nat := List.replicate 4 43800
  vcom      : List Int := List.replicate 4 0
  notGuaranteed : Bool := false
  conservative : Bool := false
  deriving DecidableEq, Repr, Inhabited

/-- The ledger (R486 to R502). -/
structure Ledger where
  entries : List LedgerEntry := List.replicate 16 {}
  /-- Measurements kept: entry, site, operating time, value; of entries without a mean only the latest. -/
  meas    : List (Nat × Nat × Nat × Word) := []
  /-- History: operating hours and values of the sixteen entries, oldest first, at most 96. -/
  history : List (Nat × List (Option Word)) := []
  index   : Nat := 0
  /-- Bias of each port at the first sample (M11 fresh). -/
  freshBias : List (Option Word) := [none, none, none, none]
  /-- Thousands of operating hours already planned for. -/
  planned : Nat := 0
  der     : Derating := {}
  count   : Nat := 0
  lastReplan : Option Nat := none
  /-- A re-plan running: cause, commands to complete. -/
  running : Option (Nat × List Cmd) := none
  /-- Results copies A and B: the block and its re-plan count, where the CRC is good. A module is made with
  both valid (log entry 3, DESIGN CHOICE). -/
  copies  : List (Option (Derating × Nat)) := [some ({}, 0), some ({}, 0)]
  /-- Optimal VCOM measured since the last re-plan: panel, mV. -/
  vcoms   : List (Nat × Int) := []
  deriving DecidableEq, Repr, Inhabited

/-! ## The whole node -/

/-- The node (R8) with the queue of commands waiting at the model's edge. -/
structure State where
  pending : List Instr := []
  core    : CoreState := .held
  op      : OpState := .start
  /-- The node's own number (log entry 6, DESIGN CHOICE: the image gives it; the manual does not say where). -/
  node    : Nat := 0
  ports   : Ports := {}
  sec     : Security := {}
  tm      : Times := {}
  clk     : Clocks := {}
  pw      : Power := {}
  rcd     : Recorder := {}
  fab     : Fabric := {}
  repl    : Repl := {}
  lanes   : Lanes := {}
  cfg     : Cfg := {}
  /-- Injectors: F0 receive, F0 transmit, F1 receive, and so on (R533). -/
  inj     : List (Option InjArm) := List.replicate 8 none
  ana     : Analog := {}
  dio     : Dio := {}
  disp    : Display := {}
  age     : Ledger := {}
  /-- The model's own: free values used so far (log entry 4, DESIGN CHOICE). -/
  fresh   : Nat := 0
  deriving DecidableEq, Repr, Inhabited

/-- The state at reset: every field at the value declared with it. -/
def State.reset : State := {}

end Sys2Proof.Machine
end

