-- ==== Sys2Proof/Machine/Bytes.lean ====
section
/-! DEFINITION. Little-endian fields (R5) and the checks of the manual: CRC-32C (R33), the header check
CRC-16 (Table 08-4) and the digest CRC-64 (R263). -/

namespace Sys2Proof.Machine

/-- `n` bytes of a number, least significant first (R5). -/
def le : Nat → Nat → Bytes
  | 0, _ => []
  | n + 1, x => BitVec.ofNat 8 x :: le n (x / 256)

/-- `n` bytes of a signed number in two's complement. -/
def leInt (n : Nat) (x : Int) : Bytes := le n (x % (2 ^ (8 * n) : Int)).toNat

/-- `n` zero bytes. -/
def zeros (n : Nat) : Bytes := List.replicate n 0

/-- The number little-endian bytes spell. -/
def leNat : Bytes → Nat
  | [] => 0
  | b :: bs => b.toNat + 256 * leNat bs

/-- `n` bytes at an offset; zero bytes stand in beyond the end. -/
def sub (bs : Bytes) (off n : Nat) : Bytes :=
  let t := (bs.drop off).take n
  t ++ zeros (n - t.length)

def u8 (bs : Bytes) (off : Nat) : Nat := leNat (sub bs off 1)
def u16 (bs : Bytes) (off : Nat) : Nat := leNat (sub bs off 2)
def u32 (bs : Bytes) (off : Nat) : Nat := leNat (sub bs off 4)
def u64 (bs : Bytes) (off : Nat) : Nat := leNat (sub bs off 8)

/-- The number of `n` bytes read as two's complement. -/
def sint (n x : Nat) : Int := if x < 2 ^ (8 * n - 1) then x else (x : Int) - 2 ^ (8 * n)

/-- Whether every byte of a stretch is zero. -/
def allZero (bs : Bytes) (off n : Nat) : Bool := (sub bs off n).all (· == 0)

/-- A body cut or padded with zero bytes to `n` (R580). -/
def padTo (n : Nat) (bs : Bytes) : Bytes := sub bs 0 n

/-- A 32-bit field that saturates. -/
def sat32 (x : Nat) : Nat := min x 0xFFFFFFFF
/-- A 16-bit field that saturates. -/
def sat16 (x : Nat) : Nat := min x 0xFFFF
/-- A signed 16-bit field that saturates. -/
def satI16 (x : Int) : Int := max (-0x8000) (min x 0x7FFF)
/-- A signed 32-bit field that saturates. -/
def satI32 (x : Int) : Int := max (-0x80000000) (min x 0x7FFFFFFF)

/-- One bit of a reflected CRC. -/
def crcBit (poly c : Nat) : Nat := if c % 2 = 1 then (c / 2) ^^^ poly else c / 2

/-- One byte of a reflected CRC. -/
def crcByte (poly c : Nat) (b : Byte) : Nat :=
  let f := crcBit poly
  f (f (f (f (f (f (f (f (c ^^^ b.toNat))))))))

/-- CRC-32C (R33): reflected 0x1EDC_6F41, initial value and final XOR all ones. -/
def crc32c (bs : Bytes) : Nat := (bs.foldl (crcByte 0x82F63B78) 0xFFFFFFFF) ^^^ 0xFFFFFFFF

/-- CRC-64 of the digest (R263): reflected 0x42F0_E1EB_A9EA_3693. -/
def crc64 (bs : Bytes) : Nat :=
  (bs.foldl (crcByte 0xC96C5795D7870F42) 0xFFFFFFFFFFFFFFFF) ^^^ 0xFFFFFFFFFFFFFFFF

/-- One bit of the header check. -/
def crc16Bit (c : Nat) : Nat :=
  if 0x8000 ≤ c then (2 * c % 0x10000) ^^^ 0x1021 else 2 * c % 0x10000

/-- Header check of Table 08-4: CRC-16, polynomial 0x1021, initial 0xFFFF, not reflected. -/
def crc16 (bs : Bytes) : Nat :=
  bs.foldl (fun c b =>
    let f := crc16Bit
    f (f (f (f (f (f (f (f (c ^^^ (b.toNat * 256))))))))) ) 0xFFFF

/-- One bit of CRC-8, polynomial 0x07, not reflected. -/
def crc8Bit (c : Nat) : Nat := if 0x80 ≤ c then (2 * c % 0x100) ^^^ 0x07 else 2 * c

/-- CRC-8 of the isolated links (R282): initial value 0, no final XOR. -/
def crc8 (bs : Bytes) : Nat :=
  bs.foldl (fun c b =>
    let f := crc8Bit
    f (f (f (f (f (f (f (f (c ^^^ b.toNat))))))))) 0

/-- A 64-bit frame of an isolated link passes its check. The manual does not place the CRC in the frame: it is the last of its
eight bytes, least significant first (log entry 98, PRESUMED). -/
def frameOk (f : BitVec 64) : Bool := crc8 (le 8 f.toNat) == 0

/-- Epoch or generation order modulo 2³² (R105): `a` is at or after `b`. -/
def atOrAfter32 (a b : Nat) : Bool :=
  decide ((a + 0x100000000 - b % 0x100000000) % 0x100000000 < 0x80000000)

/-- Incarnation order modulo 2¹⁶ (R221): `a` is at or after `b`. -/
def atOrAfter16 (a b : Nat) : Bool := decide ((a + 0x10000 - b % 0x10000) % 0x10000 < 0x8000)

/-- ⌈a / b⌉. -/
def ceilDiv (a b : Nat) : Nat := (a + b - 1) / b

/-- Element of a list, or a default. -/
def nth {α : Type} [Inhabited α] (l : List α) (i : Nat) : α := l.getD i default

/-- Replace an element by a function of itself; nothing beyond the end. -/
def upd {α : Type} : List α → Nat → (α → α) → List α
  | [], _, _ => []
  | a :: l, 0, f => f a :: l
  | a :: l, i + 1, f => a :: upd l i f

/-- Value at a key of a sorted list. -/
def look {α : Type} (l : List (Nat × α)) (k : Nat) : Option α := (l.find? (·.1 == k)).map (·.2)

/-- Set a key of a list sorted by key. -/
def put {α : Type} : List (Nat × α) → Nat → α → List (Nat × α)
  | [], k, v => [(k, v)]
  | (k', v') :: l, k, v =>
    if k < k' then (k, v) :: (k', v') :: l
    else if k = k' then (k, v) :: l
    else (k', v') :: put l k v

/-- Insert a number into an ascending list without repeats. -/
def ins : List Nat → Nat → List Nat
  | [], k => [k]
  | k' :: l, k => if k < k' then k :: k' :: l else if k = k' then k' :: l else k' :: ins l k

/-- A bit map of `n` bytes with the bits of the numbers listed. -/
def bitmap (n : Nat) (l : List Nat) : Bytes :=
  (List.range n).map fun j =>
    BitVec.ofNat 8 (l.foldl (fun acc k => if k / 8 = j then acc ||| (2 ^ (k % 8)) else acc) 0)

/-- The numbers of a bit map. -/
def bitsOf (bs : Bytes) : List Nat :=
  (List.range (8 * bs.length)).filter fun k => (u8 bs (k / 8)).testBit (k % 8)

/-- A flags byte: bit i set where the i-th entry holds. -/
def flagBits (l : List Bool) : Nat :=
  (l.zipIdx.map fun p => if p.1 then 2 ^ p.2 else 0).sum

end Sys2Proof.Machine
end

