-- ==== Sys2Proof/Machine/Float32.lean ====
section
/-! DEFINITION. IEEE 754 binary32 as R105 asks: round to nearest even, subnormals kept, exact comparisons.
Every operation is computed on exact rationals and narrowed once. -/

namespace Sys2Proof.Machine.F32

/-- A not-a-number. -/
def nan : Word := 0x7FC00000

def neg? (x : Word) : Bool := decide (0x80000000 ≤ x.toNat)
def expo (x : Word) : Nat := x.toNat / 0x800000 % 256
def frac (x : Word) : Nat := x.toNat % 0x800000

/-- Finite: not an infinity and not a NaN. -/
def finite (x : Word) : Bool := decide (expo x ≠ 255)
def isNan (x : Word) : Bool := decide (expo x = 255 ∧ frac x ≠ 0)
def isInf (x : Word) : Bool := decide (expo x = 255 ∧ frac x = 0)

/-- The magnitude of a finite value in units of 2⁻¹⁴⁹. -/
def mag (x : Word) : Nat :=
  if expo x = 0 then frac x else (0x800000 + frac x) * 2 ^ (expo x - 1)

/-- A finite value in units of 2⁻¹⁴⁹. -/
def units (x : Word) : Int := if neg? x then -(mag x : Int) else mag x

/-- Put a sign on a magnitude pattern. -/
def signed (neg : Bool) (m : Nat) : Word := BitVec.ofNat 32 (if neg then 0x80000000 + m else m)

/-- n / d (d > 0), n and d natural, rounded to nearest even, with a sign. -/
def ofRat (neg : Bool) (n d : Nat) : Word :=
  if n = 0 then signed neg 0 else
  -- the value in units of 2⁻¹⁴⁹ is n · 2¹⁴⁹ / d
  let big := n * 2 ^ 149
  let q0 := big / d
  let sh := Nat.log2 q0 - 23
  let den := d * 2 ^ sh
  let q := big / den
  let r := big % den
  let up := decide (den < 2 * r) || (decide (2 * r = den) && decide (q % 2 = 1))
  let q' := if up then q + 1 else q
  -- q' ≤ 2²⁴; subnormals have sh = 0 and q' < 2²³
  let pat := if sh = 0 then q' else q' + sh * 0x800000
  if 0x7F800000 ≤ pat then signed neg 0x7F800000 else signed neg pat

/-- An integer narrowed once. -/
def ofInt (x : Int) : Word := ofRat (decide (x < 0)) x.natAbs 1

/-- A rational x / d narrowed once. -/
def ofIntDiv (x : Int) (d : Nat) : Word := ofRat (decide (x < 0)) x.natAbs d

def neg (x : Word) : Word := x ^^^ 0x80000000

/-- Sum. -/
def add (a b : Word) : Word :=
  if isNan a || isNan b then nan
  else if isInf a then (if isInf b && (neg? a != neg? b) then nan else a)
  else if isInf b then b
  else
    let v := units a + units b
    if v = 0 then signed (neg? a && neg? b) 0
    else ofRat (decide (v < 0)) v.natAbs (2 ^ 149)

/-- Difference. -/
def sub (a b : Word) : Word := add a (neg b)

/-- Product. -/
def mul (a b : Word) : Word :=
  let n := neg? a != neg? b
  if isNan a || isNan b then nan
  else if isInf a || isInf b then
    (if (finite a && mag a == 0) || (finite b && mag b == 0) then nan else signed n 0x7F800000)
  else ofRat n (mag a * mag b) (2 ^ 298)

/-- Quotient. -/
def div (a b : Word) : Word :=
  let n := neg? a != neg? b
  if isNan a || isNan b then nan
  else if isInf a then (if isInf b then nan else signed n 0x7F800000)
  else if isInf b then signed n 0
  else if mag b = 0 then (if mag a = 0 then nan else signed n 0x7F800000)
  else ofRat n (mag a) (mag b)

/-- Order key of a value that is not a NaN; infinities lie beyond every finite value. -/
def key (x : Word) : Int :=
  let m := x.toNat % 0x80000000
  if neg? x then -(m : Int) else m

/-- Exact comparison; false where an operand is a NaN. -/
def lt (a b : Word) : Bool := !isNan a && !isNan b && decide (key a < key b)
def le (a b : Word) : Bool := !isNan a && !isNan b && decide (key a ≤ key b)

/-- A finite value times a rational n / d, rounded down to an integer. -/
def floorScaled (x : Word) (n d : Nat) : Int := Int.fdiv (units x * n) (2 ^ 149 * d)

/-- A finite value times a natural number, rounded to the nearest integer, halves away from zero. -/
def roundScaled (x : Word) (n d : Nat) : Int :=
  let m : Nat := (2 * mag x * n + 2 ^ 149 * d) / (2 ^ 150 * d)
  if neg? x then -(m : Int) else m

end Sys2Proof.Machine.F32
end

