-- ==== Sys2Proof/Config.lean ====
section
/-! DEFINITION. What the manual leaves to each module or to a standard outside it, and the free values.
A constant without a body is a free value: no proof can see what it is, so a claim holds whatever it is. -/

namespace Sys2Proof.Config

/-- Free value (log entry 4, DESIGN CHOICE): a word for the n-th value the manual leaves open; the step reads the
counter `State.fresh` and advances it. -/
opaque freeWord : Nat → Nat

/-- Free value (log entry 80, DESIGN CHOICE): whether the enumerated USB host reads `SVC` in a microsecond of the
timebase (R61); no row of the opcode table reports it. -/
opaque usbReads : (now : Nat) → Bool

/-- Free values (log entry 85, DESIGN CHOICE): the received optical power of a fabric port in 0.1 dBm, and its transmitter
bias in 10 µA, as the monitors measure them at an instant of the timebase (R240). -/
opaque optPower : (now port : Nat) → Int
opaque txBias : (now port : Nat) → Nat

/-- Free value (log entry 86, DESIGN CHOICE): by how much a sync at an instant of the timebase with an offset in ns steers the
rate (R234 says which way, R231 how far at most). -/
opaque steerBy : (now : Nat) → (offset : Int) → Nat

/-- Free value (log entry 92, DESIGN CHOICE): the cause byte of an emitted transition of a condition (tag and slot in one
number) that no event of its epoch caused (R132 names causes that occurred in the epoch alone). -/
opaque openCause : (epoch cond : Nat) → Nat

/-- Free value (log entry 28, DESIGN CHOICE): whether an edge of a received image was active in the epoch of the image though its
hold counter is 0: the last epoch of a hold leaves no trace in it (R143). -/
opaque edgeWasActive : (epoch edge : Nat) → Bool

/-- Free value (log entry 22, DESIGN CHOICE): whether the ECDSA P-256 signature `sig` verifies against the key in mask ROM
(R523), which the manual does not give. The firmware content is given by its bytes that are not zero and its length. -/
opaque signatureValid : (content : List (Nat × BitVec 8)) → (length : Nat) → (sig : List (BitVec 8)) → Bool

/-- Free value (log entry 23, DESIGN CHOICE): whether a template table (Skelorn's internal form, R510) parses. -/
opaque templatesParse : List (BitVec 8) → Bool

/-- Free value (log entry 23, DESIGN CHOICE): the frame content a template renders for the given inputs (R442 leaves the
drawing to Skelorn's internal form); a frame is named by a number, equal numbers being equal frames. -/
opaque renderPage : (panel : Nat) → (page : Nat) → (inputs : List Nat) → Nat

/-- Free value (log entry 23, DESIGN CHOICE): whether the template table of a display region, named by the region's content CRC,
has a template for a page kind and parameter. -/
opaque hasTemplate : (crc : Nat) → (kind : Nat) → (param : Nat) → Bool

end Sys2Proof.Config
end

