-- ==== Sys2Proof/Machine/Memory.lean ====
section
/-! DEFINITION. Reading and writing a `Memory`: sorted (address, byte) pairs, unlisted addresses read 0. -/

namespace Sys2Proof.Machine

/-- The byte at an address; 0 where nothing is listed. -/
def Memory.read : Memory → Nat → Byte
  | [], _ => 0
  | (k, b) :: m, a => if k = a then b else Memory.read m a

/-- Write one byte, keeping the canonical form: a zero byte is not listed. -/
def Memory.write : Memory → Nat → Byte → Memory
  | [], a, v => if v = 0 then [] else [(a, v)]
  | (k, b) :: m, a, v =>
    if a < k then (if v = 0 then (k, b) :: m else (a, v) :: (k, b) :: m)
    else if a = k then (if v = 0 then m else (a, v) :: m)
    else (k, b) :: Memory.write m a v

/-- Write bytes from an address upward. -/
def Memory.writeBytes (m : Memory) (a : Nat) : Bytes → Memory
  | [] => m
  | b :: bs => Memory.writeBytes (m.write a b) (a + 1) bs

/-- `n` bytes from an address upward. -/
def Memory.readBytes (m : Memory) (a n : Nat) : Bytes :=
  let near := m.filter fun c => a ≤ c.1 ∧ c.1 < a + n
  (List.range n).map fun i => Memory.read near (a + i)

/-- Zero every byte of `[a, a + n)`. -/
def Memory.clear (m : Memory) (a n : Nat) : Memory :=
  m.filter fun c => decide (c.1 < a ∨ a + n ≤ c.1)

/-- The bytes of `[a, a + n)` as a memory from 0. -/
def Memory.window (m : Memory) (a n : Nat) : Memory :=
  (m.filter fun c => decide (a ≤ c.1 ∧ c.1 < a + n)).map fun c => (c.1 - a, c.2)

/-- Write another memory's listed bytes at an offset. -/
def Memory.place (m : Memory) (a : Nat) (src : Memory) : Memory :=
  src.foldl (fun acc c => acc.write (a + c.1) c.2) m

/-- The canonical form: strictly rising addresses, no zero byte listed. -/
def Memory.wf : Memory → Bool
  | [] => true
  | [(_, b)] => decide (b ≠ 0)
  | (a, b) :: (a', b') :: m => decide (b ≠ 0) && decide (a < a') && Memory.wf ((a', b') :: m)

end Sys2Proof.Machine
end

