-- ==== Sys2Proof/Machine/Operands.lean ====
section
/-! DEFINITION. The forms operands take: the packet (Table 02-1), target stations, and the configuration
regions as the node reads them (chapters 04, 05, 07, 19), always from the active copies in flash. -/

namespace Sys2Proof.Machine

/-! ## Packets -/

/-- A packet of Table 02-1 with its CRC; `flags` are bits [31:18] of the target field. -/
def packet (opcode seq target flags : Nat) (payload : Bytes) : Bytes :=
  let head := [0xD7, 0x4E] ++ le 2 opcode ++ le 2 payload.length ++ le 2 seq
    ++ le 4 (target + flags * 0x40000) ++ zeros 4
  let body := head ++ payload
  body ++ le 4 (crc32c body)

def pktOpcode (p : Bytes) : Nat := u16 p 2
def pktLength (p : Bytes) : Nat := u16 p 4
def pktSeq (p : Bytes) : BitVec 16 := BitVec.ofNat 16 (u16 p 6)
def pktTarget (p : Bytes) : Nat := u32 p 8 % 0x40000
def pktFlags (p : Bytes) : Nat := u32 p 8 / 0x40000
def pktPayload (p : Bytes) : Bytes := (p.drop 16).take (pktLength p)
def pktCrc (p : Bytes) : Nat := u32 p (16 + pktLength p)

/-! ## Regions (Table 19-1) -/

/-- Offset of a region in each bank. -/
def regionBase (r : Nat) : Nat :=
  if r = 0 then 0x00100000
  else if r = 1 then 0x03B00000
  else if r ≤ 65 then 0x00200000 + 0x80000 * (r - 2)
  else if r ≤ 81 then 0x02200000 + 0x100000 * (r - 66)
  else if r ≤ 85 then 0x03200000 + 0x80000 * (r - 82)
  else if r = 86 then 0x03400000
  else if r = 87 then 0x03500000
  else 0x03C00000

/-- Whether a length is one Table 19-1 gives the region. -/
def regionLengthOk (r n : Nat) : Bool :=
  if r = 0 then n == 262160
  else if r = 1 then n == 5680
  else if r ≤ 65 then n == 524288
  else if r ≤ 81 then n == 1048576
  else if r ≤ 85 then n == 2080
  else if r = 86 then n == 1552
  else if r = 87 then decide (176 ≤ n ∧ n ≤ 6291456)
  else decide (4 ≤ n ∧ n ≤ 4194304)

/-- Space of a region in a bank, for clearing before it is programmed. -/
def regionSpace (r : Nat) : Nat :=
  if r = 0 then 0x100000 else if r = 1 then 0x100000 else if r ≤ 65 then 0x80000
  else if r ≤ 81 then 0x100000 else if r ≤ 85 then 0x80000 else if r = 86 then 0x100000
  else if r = 87 then 0x600000 else 0x400000

/-- The copy a selector word names for a region: 0 bank A, 1 bank B (R505). -/
def selected (s : State) (r : Nat) : Nat :=
  if (nth s.cfg.selector (r / 16)).toNat.testBit (r % 16) then 1 else 0

def dirEntry (s : State) (bank r : Nat) : DirEntry := nth (nth s.cfg.dir bank) r

/-- The active copy's bank, when it is VERIFIED and the image is loaded (R505, step 5 of Table 17-5). -/
def activeBank (s : State) (r : Nat) : Option Nat :=
  if s.cfg.loaded && (dirEntry s (selected s r) r).state == 2 then some (selected s r) else none

/-- Bytes of a bank's copy of a region. -/
def copyBytes (s : State) (bank r off n : Nat) : Bytes :=
  (nth s.cfg.flash bank).readBytes (regionBase r + off) n

/-- Bytes of the active copy of a region; zero without one. -/
def regBytes (s : State) (r off n : Nat) : Bytes :=
  match activeBank s r with
  | some b => copyBytes s b r off n
  | none => zeros n

/-- Listed cells of the active copies of regions `lo` to `hi`, as (offset from `base`, byte). -/
def activeCells (s : State) (lo hi base : Nat) : List (Nat × Byte) :=
  (List.range (hi + 1 - lo)).flatMap fun i =>
    match activeBank s (lo + i) with
    | none => []
    | some b =>
      ((nth s.cfg.flash b).filter fun c =>
        decide (regionBase (lo + i) ≤ c.1 ∧ c.1 < regionBase (lo + i) + regionSpace (lo + i))).map
        fun c => (c.1 - base, c.2)

/-- The node holds an active configuration image (R57). -/
def hasImage (s : State) : Bool := (activeBank s 0).isSome

/-! ## System region (R508) -/

/-- Epoch length L in µs of the active system region, which evaluation uses; 10 ms is the default of Table
00-1. -/
def epochLen (s : State) : Nat := if hasImage s then max 1 (u32 (regBytes s 0 0 4) 0) else 10000

/-- A node table entry (Table 19-3). -/
structure NodeEntry where
  used    : Bool
  role    : Nat
  profile : Nat
  next0   : Nat
  next2   : Nat
  len0    : Nat
  len2    : Nat
  quota   : Nat
  mtu     : List Nat
  raw     : Bytes
  deriving DecidableEq, Repr, Inhabited

def NodeEntry.ofBytes (b : Bytes) : NodeEntry :=
  { used := u8 b 0 == 1, role := u8 b 1, profile := u8 b 2, next0 := u16 b 4, next2 := u16 b 6,
    len0 := u16 b 8, len2 := u16 b 10, quota := u16 b 12, mtu := [u8 b 14, u8 b 15], raw := b }

/-- Entry of a node in the active node table. -/
def nodeEntry (s : State) (n : Nat) : NodeEntry := .ofBytes (regBytes s 0 (16 + 64 * n) 64)

/-- Nodes a system region's cells list as used, ascending. -/
def usedOf (cells : List (Nat × Byte)) : List Nat :=
  cells.foldl (fun acc c => if 16 ≤ c.1 ∧ (c.1 - 16) % 64 = 0 ∧ c.1 < 262160 then ins acc ((c.1 - 16) / 64) else acc) []

/-- Nodes of the active node table, ascending. -/
def usedNodes (s : State) : List Nat := usedOf (activeCells s 0 0 (regionBase 0))

def segOf (n : Nat) : Nat := n / 64
def posOf (n : Nat) : Nat := n % 64

/-- The nodes met going out through `F0` from a node until it is met again (R219), the node left out. -/
def ringWalk (s : State) (stop : Nat) : Nat → Nat → List Nat
  | 0, _ => []
  | fuel + 1, n =>
    let m := (nodeEntry s n).next0
    if m = stop then [] else m :: ringWalk s stop fuel m

/-- The node's segment in ring order beyond `F0`. -/
def ringOf (s : State) (n : Nat) : List Nat := ringWalk s n 63 n

/-- The members of the segment beyond a segment port, nearest first (R255). -/
def beyond (s : State) (port : Nat) : List Nat :=
  if port = 0 then ringOf s s.node else (ringOf s s.node).reverse

/-- Partner node and port that the node table gives a port (R212, R219, R223). -/
def partnerOf (s : State) (port : Nat) : Option (Nat × Nat) :=
  let me := nodeEntry s s.node
  if !hasImage s || !me.used then none
  else if port = 0 then some (me.next0, 1)
  else if port = 1 then
    ((usedNodes s).find? fun n => (nodeEntry s n).next0 == s.node && segOf n == segOf s.node).map (·, 0)
  else if me.role = 0 then none
  else if port = 2 then some (me.next2, 3)
  else ((usedNodes s).find? fun n =>
      (nodeEntry s n).role == me.role && (nodeEntry s n).next2 == s.node).map (·, 2)

/-- Bridge role of this node: 0 none, 1 X, 2 Y (R223). -/
def bridgeRole (s : State) : Nat := (nodeEntry s s.node).role

/-- Segments met going out through `F2` from this bridge until it is met again (R257). -/
def trunkWalk (s : State) (stop : Nat) : Nat → Nat → List Nat
  | 0, _ => []
  | fuel + 1, n =>
    let m := (nodeEntry s n).next2
    if m = stop ∨ m = 0xFFFF then [] else segOf m :: trunkWalk s stop fuel m

def trunkBeyond (s : State) (port : Nat) : List Nat :=
  let w := trunkWalk s s.node 63 s.node
  if port = 2 then w else w.reverse

/-- Segments with a used node. -/
def segments (s : State) : List Nat := (usedNodes s).foldl (fun acc n => ins acc (segOf n)) []

/-- Excess length of a link over 200 m, in units of 5 ns (R226: 5 µs/km). -/
def excess (m : Nat) : Nat := m - 200

/-- X_s in ns: over the links of the node's own segment ring (R255). -/
def xSegment (s : State) : Nat :=
  5 * (((usedNodes s).filter (segOf · == segOf s.node)).map fun n => excess (nodeEntry s n).len0).sum

/-- X in ns: over every link of the system (R226). -/
def xSystem (s : State) : Nat :=
  5 * ((usedNodes s).map fun n => excess (nodeEntry s n).len0 + excess (nodeEntry s n).len2).sum

/-- Node-table identity: CRC-32C of the node table (R508). -/
def tableIdentity (s : State) : Nat := crc32c (regBytes s 0 16 262144)

/-- IPv4 address, mask and gateway of a host port (Table 19-3), little-endian as every field of an image (R5); 0 none. -/
def hostField (s : State) (port k : Nat) : Nat :=
  if !hasImage s then 0 else u32 (nodeEntry s s.node).raw (16 + 12 * port + 4 * k)

def hostAddress (s : State) (port : Nat) : Nat := hostField s port 0
def hostMask (s : State) (port : Nat) : Nat := hostField s port 1
def hostGateway (s : State) (port : Nat) : Nat := hostField s port 2

/-- The next hop of a packet that leaves by a host port: the destination on the port's own subnet, else the gateway
(R57). -/
def nextHop (s : State) (port dest : Nat) : Nat :=
  if dest &&& hostMask s port = hostAddress s port &&& hostMask s port ∨ hostGateway s port = 0 then dest
  else hostGateway s port

/-- MTU of a host port of a node (R56). -/
def mtuOf (s : State) (node port : Nat) : Nat :=
  if nth (nodeEntry s node).mtu port = 1 then 4128 else 1500

/-! ## Epochs (R11, R521) -/

def fabUs (s : State) : Option Nat := s.tm.fab.map (· / 1000)

/-- The timebase epochs are counted on: fabric time, or in ISLAND without it the node's own (R31, R459). -/
def timeUs (s : State) : Option Nat :=
  match fabUs s with
  | some t => some t
  | none => if s.op = .island then some s.tm.now else none

/-- Epoch of a fabric time in µs, by the epoch base in force at that time. -/
def epochOf (s : State) (us : Nat) : Nat :=
  if us < s.cfg.base.2 then s.cfg.prev.1 + (us - s.cfg.prev.2.1) / s.cfg.prev.2.2
  else s.cfg.base.1 + (us - s.cfg.base.2) / s.cfg.len

/-- Start of an epoch in µs of fabric time. -/
def epochStart (s : State) (e : Nat) : Nat :=
  if e < s.cfg.base.1 then s.cfg.prev.2.1 + (e - s.cfg.prev.1) * s.cfg.prev.2.2
  else s.cfg.base.2 + (e - s.cfg.base.1) * s.cfg.len

/-- The epoch field of records: the current epoch, or 0xFFFF_FFFF without fabric time. -/
def epochField (s : State) : Nat :=
  match fabUs s with
  | some t => epochOf s t % 0x100000000
  | none => 0xFFFFFFFF

/-- The most recently evaluated epoch as replies report it. -/
def evalField (s : State) : Nat := (s.repl.lastEval.map (· % 0x100000000)).getD 0xFFFFFFFF

/-! ## Tag descriptors (Tables 04-2, 04-3, 05-4) -/

/-- A condition entry: kind 0 is empty. -/
structure CondCfg where
  kind     : Nat := 0
  priority : Nat := 0
  latching : Bool := false
  don      : Nat := 0
  doff     : Nat := 0
  deriving DecidableEq, Repr, Inhabited

structure Desc where
  owner    : Nat := 0
  type     : Nat := 0
  srcKind  : Nat := 0
  srcRef   : Nat := 0
  group    : Nat := 0
  badClears : Bool := false
  unit     : Nat := 0
  decimals : Nat := 0
  limits   : List Word := []
  masks    : List Nat := []
  deadband : Word := 0
  devRef   : Nat := 0
  devSet   : Word := 0
  devLimit : Word := 0
  rateLimit : Word := 0
  rateWindow : Nat := 0
  shelveLimit : Nat := 0
  conds    : List CondCfg := []
  participate : Bool := false
  floodThr : Nat := 0
  floodWin : Nat := 0
  text     : Nat := 0
  deriving DecidableEq, Repr, Inhabited

def word32 (b : Bytes) (off : Nat) : Word := BitVec.ofNat 32 (u32 b off)

def CondCfg.ofBytes (b : Bytes) : CondCfg :=
  { kind := u8 b 0, priority := u8 b 1 % 8, latching := (u8 b 1).testBit 3, don := u16 b 2, doff := u16 b 4 }

def Desc.ofBytes (b : Bytes) : Desc :=
  { owner := u32 b 0, type := u8 b 4, srcKind := u8 b 5, srcRef := u16 b 6, group := u16 b 8,
    badClears := (u16 b 10).testBit 0, unit := u16 b 12, decimals := u8 b 14,
    limits := (List.range 4).map fun i => word32 b (16 + 4 * i),
    masks := (List.range 4).map fun i => u16 b (16 + 2 * i),
    deadband := word32 b 32, devRef := u32 b 36, devSet := word32 b 40, devLimit := word32 b 44,
    rateLimit := word32 b 48, rateWindow := u16 b 52, shelveLimit := u16 b 54,
    conds := (List.range 8).map fun i => .ofBytes (sub b (56 + 6 * i) 6),
    participate := (u8 b 104).testBit 0, floodThr := u16 b 106, floodWin := u16 b 108,
    text := u32 b 120 }

/-- Descriptor bytes of a tag in the active tag regions. -/
def descBytes (s : State) (i : Nat) : Bytes := regBytes s (2 + i / 4096) (i % 4096 * 128) 128

def desc (s : State) (i : Nat) : Desc := .ofBytes (descBytes s i)

/-- The tags whose type is not 0x00, ascending (R92). -/
def usedTags (s : State) : List Nat :=
  (activeCells s 2 65 0x00200000).foldl (fun acc c => if c.1 % 128 = 4 then ins acc (c.1 / 128) else acc) []

/-- Owner node of a descriptor (R10). -/
def Desc.node (d : Desc) : Nat := d.owner / 64 % 4096

/-- Tags owned by this node. -/
def ownedTags (s : State) : List Nat := (usedTags s).filter fun i => (desc s i).node == s.node

/-- Dynamic state of a tag; zero when unused. -/
def tagDyn (s : State) (i : Nat) : TagDyn := (look s.repl.rep.tags i).getD {}

/-! ## Suppression edges (Table 05-2) -/

structure Edge where
  source : Nat := 0
  slot   : Nat := 0
  target : Nat := 0
  kind   : Nat := 0
  invert : Bool := false
  badKeeps : Bool := false
  hold   : Nat := 0
  mask   : Nat := 0
  deriving DecidableEq, Repr, Inhabited

def Edge.ofBytes (b : Bytes) : Edge :=
  { source := u32 b 0 % 0x40000, slot := u32 b 0 / 0x40000 % 8, target := u32 b 4 % 0x40000, kind := u8 b 8,
    invert := (u8 b 9).testBit 0, badKeeps := (u8 b 9).testBit 1, hold := u16 b 10, mask := u16 b 12 }

def edgeBytes (s : State) (e : Nat) : Bytes := regBytes s (66 + e / 65536) (e % 65536 * 16) 16

def edge (s : State) (e : Nat) : Edge := .ofBytes (edgeBytes s e)

/-- The used edges, ascending. -/
def usedEdges (s : State) : List Nat :=
  (activeCells s 66 81 0x02200000).foldl (fun acc c => if c.1 % 16 = 8 then ins acc (c.1 / 16) else acc) []

/-! ## Call region (Table 19-4) -/

structure AreaCfg where
  used   : Bool
  kind   : Nat
  holder : Nat
  t1     : Nat
  t2     : Nat
  deriving DecidableEq, Repr, Inhabited

def areaCfg (s : State) (a : Nat) : AreaCfg :=
  let b := regBytes s 1 (48 + 16 * a) 16
  { used := u8 b 0 == 1, kind := u8 b 2, holder := u8 b 3, t1 := u16 b 4, t2 := u16 b 6 }

structure StationCfg where
  node  : Nat
  port  : Nat
  p     : Nat
  w     : Nat
  reset : Nat
  deriving DecidableEq, Repr, Inhabited

def stationCfg (s : State) (n : Nat) : StationCfg :=
  let b := regBytes s 1 (304 + 16 * n) 16
  { node := u16 b 0, port := u8 b 2, p := u16 b 4, w := u16 b 6, reset := u32 b 8 }

def offerWindow (s : State) : Nat := u32 (regBytes s 1 0 4) 0

def callerList (s : State) : List Nat :=
  let b := regBytes s 1 4 36
  (List.range (u8 b 0)).map fun i => u16 b (4 + 2 * i)

/-- Area mask and minimum stage of relay 0 (`CALL1`) or 1 (`CALL2`). -/
def relayMap (s : State) (r : Nat) : Nat × Nat :=
  let b := regBytes s 1 (40 + 4 * r) 4
  (u16 b 0, u8 b 2)

/-- Accept station of an engineer. -/
def acceptStation (s : State) (e : Nat) : Nat := u8 (regBytes s 1 (1328 + 8 * e) 8) 0

/-- Area a group calls in, when one in use. -/
def groupArea (s : State) (g : Nat) : Option Nat :=
  let a := u8 (regBytes s 1 (1584 + g) 1) 0
  if a < 16 ∧ (areaCfg s a).used then some a else none

/-- Station of a holder or target (R189). -/
def stationOf (s : State) (kind n : Nat) : Nat := if kind = 0 then n else acceptStation s n

end Sys2Proof.Machine
end

