-- ==== Sys2Proof/Machine/Flags.lean ====
section
/-! DEFINITION. Codes the node reports: operating states, profiles, qualities, alarm states, status codes,
and the flag bytes composed from the state. -/

namespace Sys2Proof.Machine

/-- Table 01-9. -/
def OpState.code : OpState → Nat
  | .start => 1 | .guard => 2 | .service => 3 | .island => 4 | .stopping => 5

/-- R183. -/
def Profile.code : Profile → Nat
  | .standard => 1 | .fast => 2 | .quiet => 3 | .fine => 4

def Profile.ofCode : Nat → Option Profile
  | 1 => some .standard | 2 => some .fast | 3 => some .quiet | 4 => some .fine | _ => none

/-- Epoch lengths in µs that a profile accepts (Table 01-10, Table 09-9). -/
def Profile.accepts : Profile → Nat → Bool
  | .standard, l => l == 10000 || l == 20000
  | .fast, l => l == 2000 || l == 5000
  | .quiet, l => l == 50000
  | .fine, l => l == 10000 || l == 20000

/-- Table 04-8. -/
def AlarmState.code : AlarmState → Nat
  | .normal => 0 | .unack => 1 | .acked => 2 | .rtnUnack => 3 | .latched => 4 | .shelved => 5
  | .suppressed => 6 | .outOfService => 7

/-- Table 05-5. -/
def Role.code : Role → Nat
  | .none => 0 | .head => 1 | .folded => 2 | .headFlood => 3

/-- Table 08-3. -/
def PortState.code : PortState → Nat
  | .disabled => 0 | .down => 1 | .hello => 2 | .up => 3 | .miswired => 4 | .held => 5 | .dark => 6

/-- Table 04-5. -/
def qGood : BitVec 8 := 0xC0
def qClamp : BitVec 8 := 0x40
def qRange : BitVec 8 := 0x41
def qCompliance : BitVec 8 := 0x42
def qInstrument : BitVec 8 := 0x43
def qUnconfigured : BitVec 8 := 0x00
def qChannel : BitVec 8 := 0x01
def qOpen : BitVec 8 := 0x02
def qOwnerAbsent : BitVec 8 := 0x03
def qNe43 : BitVec 8 := 0x04
def qBadInstrument : BitVec 8 := 0x05
def qConversion : BitVec 8 := 0x06
def qFieldSupply : BitVec 8 := 0x07

/-- Quality class BAD: bits [7:6] are 00 (R97). -/
def isBad (q : BitVec 8) : Bool := decide (q.toNat < 0x40)

/-- Tag flags byte of Table 04-6. -/
def TagDyn.flags (d : TagDyn) : Nat := flagBits [d.shelved, d.oos, d.suppressed, d.updated, d.rateArmed]

/-- Condition word of Table 04-7. -/
def Cond.word (c : Cond) : Nat :=
  c.state.code + flagBits [c.raw, c.qual, c.mark] * 16 + c.timer * 256

/-- Dynamic state as stored (Table 04-6). -/
def TagDyn.bytes (d : TagDyn) : Bytes :=
  le 4 d.value.toNat ++ le 1 d.quality.toNat ++ le 1 d.flags ++ le 2 (d.role.code + 4 * d.age) ++ le 8 d.stamp
    ++ le 4 d.deadline ++ le 4 d.rateRef.toNat ++ le 4 d.rateEpoch ++ le 4 d.rate.toNat
    ++ (d.conds.flatMap fun c => le 4 c.word)

def AlarmState.ofCode : Nat → AlarmState
  | 1 => .unack | 2 => .acked | 3 => .rtnUnack | 4 => .latched | 5 => .shelved | 6 => .suppressed
  | 7 => .outOfService | _ => .normal

def Role.ofCode : Nat → Role
  | 1 => .head | 2 => .folded | 3 => .headFlood | _ => .none

def Cond.ofWord (w : Nat) : Cond :=
  { state := .ofCode (w % 16), raw := w.testBit 4, qual := w.testBit 5, mark := w.testBit 6, timer := w / 256 }

/-- Dynamic state read back from its 64 bytes. -/
def TagDyn.ofBytes (b : Bytes) : TagDyn :=
  let f := u8 b 5
  { value := word32 b 0, quality := BitVec.ofNat 8 (u8 b 4), shelved := f.testBit 0, oos := f.testBit 1,
    suppressed := f.testBit 2, updated := f.testBit 3, rateArmed := f.testBit 4,
    role := .ofCode (u16 b 6 % 4), age := u16 b 6 / 4, stamp := u64 b 8, deadline := u32 b 16,
    rateRef := word32 b 20, rateEpoch := u32 b 24, rate := word32 b 28,
    conds := (List.range 8).map fun i => .ofWord (u32 b (32 + 4 * i)) }

/-- Lanes in service. -/
def laneCount (s : State) : Nat := (List.range 3).countP fun i => s.lanes.inService.toNat.testBit i

/-- Arrangement code of Table 06-1. -/
def arrangement (s : State) : Nat :=
  match s.op with
  | .start | .stopping => 0
  | .guard | .island =>
    match laneCount s with
    | 3 => 4 | 2 => 2 | 1 => 5 | _ => 0
  | .service =>
    match laneCount s with
    | 3 => if s.lanes.running = .fast then 3 else 1
    | 2 => 2 | 1 => 5 | _ => 0

/-- The node is in GUARD or SERVICE, the states in the replica (Table 01-9). -/
def inReplica (s : State) : Bool := decide (s.op = .guard ∨ s.op = .service)

/-- `NF` is energised (R460, R483). -/
def nfEnergised (s : State) : Bool :=
  decide (s.core = .running) && s.clk.wosc && !s.clk.woscTripped && inReplica s && !s.pw.failing && !s.pw.heldStart

/-- This node is caller of the most recently evaluated epoch. -/
def isCaller (s : State) : Bool :=
  inReplica s && decide (s.repl.rep.call.caller = some s.node) && s.repl.reseed.isNone

/-! ## Status codes (Table 02-13 and the chapters' tables) -/

namespace Status

def ok := 0x0000
def acceptedPending := 0x0001
def lenRange := 0x0010
def opcodeUnknown := 0x0011
def paramRange := 0x0012
def crcBad := 0x0013
def seqReused := 0x0014
def queueFull := 0x0015
def subscribersFull := 0x0016
def notPermittedPort := 0x0020
def keyRequired := 0x0021
def fuseSealed := 0x0022
def fuseVerify := 0x0023
def fuseConditions := 0x0024
def injNotAllowed := 0x0026
def injCaller := 0x0027
def regionBusy := 0x0030
def superseded := 0x0031
def resourceConflict := 0x0032
def stagingFull := 0x0033
def sessionUnknown := 0x0034
def contentCrc := 0x0035
def signatureBad := 0x0036
def imageForeign := 0x0037
def stageMismatch := 0x0038
def nodeTableInvalid := 0x0039
def updateRunning := 0x003A
def channelRetired := 0x0040
def guardActive := 0x0041
def profileUnavailable := 0x0042
def epochLoad := 0x0043
def frozen := 0x0050
def recorderLost := 0x0051
def noFabricTime := 0x0052
def stationUnreachable := 0x0060
def notCaller := 0x0061
def shelveDenied := 0x0070
def tagUnused := 0x0071
def notInReplica := 0x0072
def descriptorInvalid := 0x0073
def edgeInvalid := 0x0074
def watchNotBound := 0x0080
def pathBudget := 0x0090
def updateBudget := 0x00A0
def epochSize := 0x00A1
def snapTooSoon := 0x00A2
def snapBusy := 0x00A3
def snapNone := 0x00A4
def channelInvalid := 0x00B0
def checkBusy := 0x00B1
def instrumentSilent := 0x00C0
def loopUnavailable := 0x00C1
def dioInvalid := 0x00D0
def dioNotHost := 0x00D1
def pageUnknown := 0x00E0
def panelUnavailable := 0x00E1
def displayInvalid := 0x00E2
def internalFault := 0x00F0

end Status

end Sys2Proof.Machine
end

