-- ==== Sys2Proof/Machine/Ops.lean ====
section
/-! DEFINITION. The operations every block shares: replies, notifications, records, frames, free values and
changes of the operating state. -/

namespace Sys2Proof.Machine

abbrev Out := Host.Outcome State Fault Refusal

/-! ## Free values -/

/-- Take a free value and advance the counter (log entry 4, DESIGN CHOICE). -/
def State.takeFree (s : State) : Nat × State := (Config.freeWord s.fresh, { s with fresh := s.fresh + 1 })

/-! ## Rings -/

/-- Raise the highest number of descriptors in use of a ring (R69). -/
def State.ringUsed (s : State) (q n : Nat) : State :=
  { s with ports.high := upd s.ports.high q (max n) }

/-- Count a refusal, release or drop of a ring (R68). -/
def State.ringDrop (s : State) (q : Nat) : State :=
  { s with ports.drops := upd s.ports.drops q fun n => sat32 (n + 1) }

/-- Place a reply packet on a port's outbound ring Q08 to Q15; behind 256 others it waits for a descriptor (R68). -/
def State.pushOut (s : State) (port : Nat) (o : OutPkt) : State :=
  let rs := upd s.ports.outRings port (· ++ [o])
  { s with ports.outRings := rs }.ringUsed (8 + port) (min 256 (nth rs port).length)

/-! ## Notifications (R46 to R52) -/

/-- Position of a notification ring among Q16, Q17, Q18, Q19, Q31. -/
def ringSlot (q : Nat) : Nat := if q = 31 then 4 else q - 16

/-- The ring of a notification opcode (Table 02-6). -/
def notifRing (op : Nat) : Nat :=
  if op < 0xC040 then 16 else if op < 0xC080 then 17 else if op < 0xC0C0 then 18
  else if op < 0xC0F0 then 19 else 31

/-- A subscription includes a ring. -/
def Subscription.has (u : Subscription) (i : Nat) : Bool := u.mask.toNat.testBit i

/-- A subscriber not yet sent the oldest descriptor of a full ring loses it (R52); `n` is 0 for one that was not for
it. -/
def Subscription.lose (u : Subscription) (i first n : Nat) : Subscription :=
  if u.has i && decide (nth u.read i ≤ first) then
    { u with lost := sat16 (u.lost + n), read := upd u.read i fun _ => first + 1 }
  else u

/-- Put a notification on its ring; a full ring releases its oldest (R52). -/
def State.pushNotif (s : State) (n : Notif) : State :=
  let q := notifRing n.opcode
  let i := ringSlot q
  let r : NotifRing := nth s.ports.notifs i
  if r.items.length < 256 then
    let r' : NotifRing := { r with items := r.items ++ [n] }
    { s with ports.notifs := upd s.ports.notifs i fun _ => r' }.ringUsed q r'.items.length
  else
    let r' : NotifRing := { first := r.first + 1, items := r.items.drop 1 ++ [n] }
    let lost := if ((r.items.head?).bind (·.only)).isSome then 0 else 1
    let us : List Subscription := s.ports.subs.map fun u => u.lose i r.first lost
    ({ s with ports.notifs := upd s.ports.notifs i fun _ => r', ports.subs := us }.ringUsed q 256).ringDrop q

/-- Place a notification, while some subscription includes its ring (R51, R52). -/
def State.placeNotif (s : State) (n : Notif) : State :=
  if s.ports.subs.any fun u => u.has (ringSlot (notifRing n.opcode)) then s.pushNotif n else s

/-! ## Records (R15, R406, R580) -/

/-- Stated length of each record type the node writes (R579 and the chapters' tables). -/
def recordLength : Nat → Nat
  | 0x0001 => 40 | 0x0002 => 40 | 0x0003 => 40 | 0x0004 => 48 | 0x0005 => 36 | 0x0006 => 40 | 0x0007 => 32
  | 0x0008 => 40 | 0x0021 => 40 | 0x0030 => 40 | 0x0031 => 48 | 0x0032 => 40 | 0x0033 => 40 | 0x0034 => 40
  | 0x0100 => 56 | 0x0101 => 48 | 0x0102 => 36 | 0x0103 => 48 | 0x0104 => 48 | 0x0105 => 44 | 0x0106 => 40
  | 0x0110 => 36 | 0x0111 => 36 | 0x0112 => 40 | 0x0113 => 40 | 0x0114 => 40 | 0x0115 => 36
  | 0x0300 => 40 | 0x0301 => 44 | 0x0302 => 44 | 0x0303 => 56 | 0x0304 => 40 | 0x0305 => 52 | 0x0306 => 64
  | 0x0310 => 40 | 0x0311 => 40 | 0x0312 => 52 | 0x0313 => 44 | 0x0314 => 44 | 0x0315 => 40 | 0x0316 => 36
  | 0x0317 => 48 | 0x0318 => 36 | 0x0320 => 44 | 0x0321 => 40
  | 0x0401 => 36 | 0x0402 => 44 | 0x0403 => 48 | 0x0404 => 36 | 0x0405 => 32 | 0x0406 => 36 | 0x0407 => 40
  | 0x0408 => 36
  | 0x0500 => 44 | 0x0501 => 40 | 0x0502 => 44 | 0x0503 => 40 | 0x0504 => 40
  | 0x0520 => 44 | 0x0521 => 36 | 0x0522 => 32 | 0x0523 => 32 | 0x0524 => 32 | 0x0525 => 32
  | 0x0540 => 60 | 0x0541 => 48
  | t => if (0x0201 ≤ t ∧ t ≤ 0x0215) ∨ (0x0221 ≤ t ∧ t ≤ 0x022F) ∨ (0x0601 ≤ t ∧ t ≤ 0x0604) then 48 else 40

/-- Whether a record is class A (R413, Table 14-3), from its type and body. -/
def classA (type : Nat) (body : Bytes) : Bool :=
  (type == 0x0100 && (u8 body 10 == 1 || u8 body 10 == 2)) || type == 0x0304 || type == 0x0401
    || type == 0x0402 || (type == 0x0320 && (u8 body 4 == 1 || u8 body 4 == 3 || u8 body 4 == 4))
    || type == 0x0321

/-- Put an item behind the recorder, in order of production; nothing is produced without the core. -/
def State.enqueue (s : State) (i : QItem) : State :=
  if s.core = .running then { s with rcd.queue := s.rcd.queue ++ [i] } else s

/-- A record of a type with its body padded to the stated length (R580), produced now. -/
def mkRec (s : State) (type : Nat) (body : Bytes) (notif : Option (Nat × Nat × Bytes) := none) : QRec :=
  { type := type, len := recordLength type, body := padTo (recordLength type - 26) body, op := s.tm.op,
    notif := notif.map fun n => (notifRing n.1, n.1, n.2.1, n.2.2) }

/-- Write a record. -/
def State.log (s : State) (type : Nat) (body : Bytes) : State := s.enqueue (.own (mkRec s type body))

/-- Write a record and, once it is committed, send a notification carrying the epoch given (R15, R46). -/
def State.logNotifyAt (s : State) (type : Nat) (body : Bytes) (op epoch : Nat) (nbody : Bytes) : State :=
  s.enqueue (.own (mkRec s type body (some (op, epoch, nbody))))

/-- Write a record with the current epoch and send its notification. -/
def State.logNotify (s : State) (type : Nat) (body : Bytes) (op : Nat) (nbody : Bytes) : State :=
  s.logNotifyAt type body op (epochField s) nbody

/-- A record whose body is the epoch followed by the notification body (chapters 05 to 20). -/
def State.logEvent (s : State) (type op : Nat) (body : Bytes) : State :=
  s.logNotify type (le 4 (epochField s) ++ body) op body

/-- A notification without a record, at once. -/
def State.notify (s : State) (op : Nat) (body : Bytes) : State :=
  if s.core = .running then
    s.placeNotif { opcode := op, epoch := epochField s, locator := 0xFFFFFFFF, body := body }
  else s

/-! ## Operating state (R48) -/

/-- Change the operating state, sending STATE_CHANGE when its code changes (R48). -/
def State.setOp (s : State) (o : OpState) : State :=
  if s.op = o then s
  else
    let w := if s.rcd.witnessOnly then 1 else 0
    let s' := { s with op := o }
    s'.notify 0xC0F0 (le 1 o.code ++ le 1 s.op.code ++ le 1 w ++ zeros 1)

/-! ## Replies (R42 to R45) -/

/-- Ports that share a table of originators, and its size (R41). -/
def tableOf (port : Nat) : Nat × Nat := if port ≤ 1 then (port, 256) else if port = 2 then (2, 1) else (3, 4096)

/-- A window is that of an originator. A relay origin is one originator across `F0` to `F3` (R41). -/
def Window.isOf (w : Window) (port : Nat) (o : Originator) : Bool :=
  (tableOf w.port).1 == (tableOf port).1 && decide (w.orig = o)

/-- Remember the reply sent for an acting command in its originator's window (R39). -/
def State.storeReply (s : State) (c : Cmd) (pkt : Bytes) : State :=
  { s with ports.windows := s.ports.windows.map fun w =>
      if w.isOf c.port c.orig = true then
        { w with entries := w.entries.map fun e =>
            if e.seq = c.seq ∧ e.crc = c.crc then { e with reply := some pkt } else e }
      else w }

/-- The reply packet of a command (R42). -/
def replyPacket (s : State) (c : Cmd) (opcode status : Nat) (data : Bytes) (flags : Nat) : Bytes :=
  packet (opcode + 0x8000) c.seq.toNat (s.node * 64 + c.slot) flags (le 2 status ++ data)

/-- Send a reply: place it on the reply ring of the command's port and remember it. -/
def State.replyF (s : State) (c : Cmd) (opcode status : Nat) (data : Bytes) (flags : Nat) : State :=
  let p := replyPacket s c opcode status data flags
  (s.storeReply c p).pushOut c.port { dest := c.orig, origPort := c.origPort, pkt := p }

/-- A reply without flags. -/
def State.reply (s : State) (c : Cmd) (opcode status : Nat) (data : Bytes := []) : State :=
  s.replyF c opcode status data 0

/-- A completion of a command first answered ACCEPTED_PENDING (R43): COMPLETION is bit 18. -/
def State.complete (s : State) (c : Cmd) (opcode status : Nat) (data : Bytes := []) : State :=
  s.replyF c opcode status data 1

/-- Fill limit in bytes of payload of the port a command came by (R45, R56). -/
def fillLimit (s : State) (c : Cmd) : Nat :=
  let port := if 3 ≤ c.port ∧ c.port ≤ 6 then c.origPort else c.port
  let node := if 3 ≤ c.port ∧ c.port ≤ 6 then c.origNode else s.node
  if port ≤ 1 then min 4080 (mtuOf s node port - 48) else 4080

/-- What an opcode answers: the state its execution leaves, a status, data and flags. -/
structure Answer where
  st     : State
  status : Nat := Status.ok
  data   : Bytes := []
  flags  : Nat := 0

/-- A refusal: nothing executed (R37). -/
def refuse (s : State) (status : Nat) (data : Bytes := []) : Answer := { st := s, status, data }

/-- Run an opcode's work on an admitted command and reply (R42). Without a running core no command port
answers (R452), and a slot other than 0 is refused (R66). -/
def runOpcode (opcode : Nat) (c : Cmd) (s : State) (f : State → Answer) : Out :=
  if s.core = .running then
    if c.slot = 0 then
      let a := f s
      .next (a.st.replyF c opcode a.status a.data a.flags)
    else .next (s.reply c opcode Status.paramRange)
  else .next s

/-- Run an opcode whose reply is due later or is placed by its own work. -/
def runSilent (opcode : Nat) (c : Cmd) (s : State) (f : State → State) : Out :=
  if s.core = .running then
    if c.slot = 0 then .next (f s) else .next (s.reply c opcode Status.paramRange)
  else .next s

/-- Whole entries of `size` bytes that fit beside a head of `head` bytes (R45). -/
def fit (s : State) (c : Cmd) (head size : Nat) : Nat := (fillLimit s c - head) / size

/-! ## Frames (R216, R220, R224) -/

/-- Class of a frame type (Table 08-5); none for a type not listed. -/
def frameClass : Nat → Option Nat
  | 0x01 | 0x02 | 0x03 | 0x04 | 0x08 | 0x09 | 0x0A | 0x0B | 0x0C => some 0
  | 0x10 | 0x11 | 0x12 => some 1
  | 0x20 => some 2
  | 0x30 | 0x31 | 0x32 => some 3
  | _ => none

/-- Class in which a frame is sent: that of its type, or for a type not listed the class bits of its header (R217). -/
def Frame.class (f : Frame) : Nat := (frameClass f.type).getD f.cls

/-- Bytes of a frame with its header check and CRC-32C, both with the TTL taken as 0 (Table 08-4, R216). -/
def Frame.bytes (f : Frame) : Bytes :=
  let flags := f.class + (if f.trunk then 4 else 0)
  let head (ttl : Nat) := le 1 f.type ++ le 1 flags ++ le 1 ttl ++ [1] ++ le 2 f.origin ++ le 2 f.dest
    ++ le 2 f.inc ++ zeros 2 ++ le 4 f.seq ++ le 2 f.body.length
  let chk := le 2 (crc16 (head 0))
  head f.ttl ++ chk ++ f.body ++ le 4 (crc32c (head 0 ++ chk ++ f.body))

/-- Descriptors in use on an outbound fabric ring. -/
def outUsed (s : State) (cls : Nat) : Nat := (nth s.fab.out cls).length

/-- Place a frame on Q20 to Q23. -/
def State.pushFrame (s : State) (cls : Nat) (t : TxFrame) : State :=
  let o := upd s.fab.out cls (· ++ [t])
  { s with fab.out := o }.ringUsed (20 + cls) (nth o cls).length

/-- Originate a frame that is not link-local: on both segment ports with TTL 63, and from a bridge on its
trunk ports with TRUNK set where it concerns other segments (R220, R224, R250). -/
def State.originate (s : State) (type dest : Nat) (body : Bytes) (trunkToo : Bool := true) : State :=
  let cls := (frameClass type).getD 0
  let f : Frame :=
    { type, dest, body, ttl := 63, origin := s.node, inc := s.tm.powerCount % 0x10000, seq := s.fab.frameSeq }
  let s1 := { s with fab.frameSeq := (s.fab.frameSeq + 1) % 0x100000000 }.pushFrame cls { ports := [0, 1], frame := f }
  if trunkToo && decide (bridgeRole s ≠ 0) && (dest == 0xFFFF || segOf dest != segOf s.node) then
    s1.pushFrame cls { ports := [2, 3], frame := { f with trunk := true } }
  else s1

/-- Originate a segment aggregate on the trunk ports only (R250). -/
def State.originateTrunk (s : State) (type : Nat) (body : Bytes) : State :=
  let f : Frame := { type, body, trunk := true, origin := s.node, inc := s.tm.powerCount % 0x10000,
                     seq := s.fab.frameSeq }
  { s with fab.frameSeq := (s.fab.frameSeq + 1) % 0x100000000 }.pushFrame ((frameClass type).getD 0)
    { ports := [2, 3], frame := f }

/-- Send a link-local frame on one port, TTL 1 (R222). Hellos, syncs and delay frames are formed by the port's
own logic and never enter Q20 (R228). -/
def State.sendLocal (s : State) (type port : Nat) (body : Bytes) : State :=
  let f : Frame := { type, dest := 0xFFFE, ttl := 1, body, origin := s.node,
                     inc := s.tm.powerCount % 0x10000, seq := s.fab.frameSeq }
  let s1 := { s with fab.frameSeq := (s.fab.frameSeq + 1) % 0x100000000 }
  if 0x09 ≤ type ∧ type ≤ 0x0C then { s1 with fab.transit := s1.fab.transit ++ [{ ports := [port], frame := f }] }
  else s1.pushFrame ((frameClass type).getD 0) { ports := [port], frame := f }

end Sys2Proof.Machine
end

