-- ==== Sys2Proof/Machine/Tags.lean ====
section
/-! DEFINITION. Conditions of one tag in one epoch (chapter 04): deviation, rate, RAW with hysteresis, delays,
overrides, transitions and their causes. -/

namespace Sys2Proof.Machine

/-- A tag while an epoch is evaluated: its descriptor, its state so far, the state codes with which it enters step 1
(after the reset of R117), those after step 7 of E - 1, and the events of E (R132). -/
structure TagWork where
  tag   : Nat
  d     : Desc
  dyn   : TagDyn
  was   : List AlarmState
  prior : List AlarmState := []
  /-- R117 reset the tag in E. -/
  wasReset : Bool := false
  wasSuppressed : Bool := false
  oosSet     : Bool := false
  oosCleared : Bool := false
  shelve     : Bool := false
  unshelve   : Bool := false
  expired    : Bool := false
  /-- Slots whose state ALARM.ACK or ALARM.RESET moved. -/
  acked  : List Nat := []
  resets : List Nat := []
  /-- Slots whose QUAL went from 0 to 1, and from 1 to 0, in step 5. -/
  onset  : List Nat := []
  offset : List Nat := []
  deriving DecidableEq, Repr, Inhabited

/-- Configuration of a slot. -/
def TagWork.cfg (w : TagWork) (i : Nat) : CondCfg := nth w.d.conds i
def TagWork.cond (w : TagWork) (i : Nat) : Cond := nth w.dyn.conds i

/-- A value fits a tag's type (R93, Table 04-1): finite when ANALOGUE, 0 or 1 when DIGITAL, 0 to 15 when MULTISTATE. -/
def fitsType (type : Nat) (v : Word) : Bool :=
  match type with
  | 1 => F32.finite v
  | 2 => decide (v.toNat ≤ 1)
  | 3 => decide (v.toNat ≤ 15)
  | _ => false

/-- The value as a binary32: an integer value is converted once (R105). -/
def numeric (type : Nat) (v : Word) : Word := if type = 1 then v else F32.ofInt v.toNat

/-- Deviation (R102): none where the reference is BAD or unused (R103). -/
def deviation (d : Desc) (v : Word) (other : Nat → Option (Nat × TagDyn)) : Option Word :=
  if d.devRef = 0xFFFFFFFF then some (F32.sub v d.devSet)
  else match other d.devRef with
    | some (ty, r) => if ty = 0 || isBad r.quality then none else some (F32.sub v (numeric ty r.value))
    | none => none

/-- RAW of a limit with its clear threshold (R101, Table 04-9): rising tests. -/
def rawHigh (was : Bool) (v limit band : Word) : Bool :=
  if was then !F32.lt v (F32.sub limit band) else F32.le limit v

def rawLow (was : Bool) (v limit band : Word) : Bool :=
  if was then !F32.lt (F32.add limit band) v else F32.le v limit

/-- RATE clears at half its limit. -/
def half : Word := 0x3F000000

/-- RAW of a condition from its previous RAW (Tables 04-4 and 04-9); `rated` says a rate was computed in this
epoch, without which RATE conditions keep RAW (R104). -/
def rawTest (d : Desc) (kind : Nat) (was : Bool) (dyn : TagDyn) (dev : Option Word) (rated : Bool) : Bool :=
  match kind with
  | 1 => rawHigh was dyn.value (nth d.limits 0) d.deadband
  | 2 => rawHigh was dyn.value (nth d.limits 1) d.deadband
  | 3 => rawLow was dyn.value (nth d.limits 2) d.deadband
  | 4 => rawLow was dyn.value (nth d.limits 3) d.deadband
  | 5 => match dev with
    | some x => rawHigh was x d.devLimit d.deadband
    | none => was
  | 6 => match dev with
    | some x => rawLow was x (F32.neg d.devLimit) d.deadband
    | none => was
  | 7 => if rated then
      (if was then !F32.lt dyn.rate (F32.mul d.rateLimit half) else F32.le d.rateLimit dyn.rate) else was
  | 8 => if rated then
      (if was then !F32.lt (F32.mul (F32.neg d.rateLimit) half) dyn.rate
       else F32.le dyn.rate (F32.neg d.rateLimit)) else was
  | 9 => isBad dyn.quality
  | k => if 0x0A ≤ k ∧ k ≤ 0x0D then (nth d.masks (k - 0x0A)).testBit dyn.value.toNat else false

/-- Delay-on and delay-off (R106). -/
def delayStep (raw : Bool) (don doff : Nat) (c : Cond) : Cond :=
  if !c.qual then
    if raw then
      let t := if !c.raw then don else c.timer
      if t = 0 then { c with raw, qual := true, timer := 0 } else { c with raw, timer := t - 1 }
    else { c with raw, timer := 0 }
  else
    if !raw then
      let t := if c.raw then doff else c.timer
      if t = 0 then { c with raw, qual := false, timer := 0 } else { c with raw, timer := t - 1 }
    else { c with raw, timer := 0 }

/-- The conditions that depend on the value (R103). -/
def valueBased (kind : Nat) : Bool := decide (kind ≠ 9)

/-- One condition in step 5. -/
def condStep (d : Desc) (dyn : TagDyn) (dev : Option Word) (rated : Bool) (k : CondCfg) (c : Cond) : Cond :=
  if k.kind = 0 then c
  else
    let bad := (valueBased k.kind && isBad dyn.quality) || ((k.kind == 5 || k.kind == 6) && dev.isNone)
    if bad then (if d.badClears then delayStep false k.don k.doff c else c)
    else delayStep (rawTest d k.kind c.raw dyn dev rated) k.don k.doff c

/-- Rate sampling (R104): the state and whether a rate was computed in E. -/
def rateStep (d : Desc) (e len : Nat) (dyn : TagDyn) : TagDyn × Bool :=
  if isBad dyn.quality then ({ dyn with rateArmed := false }, false)
  else if d.rateWindow = 0 then (dyn, false)
  else if !dyn.rateArmed then
    ({ dyn with rateRef := dyn.value, rateEpoch := e % 0x100000000, rateArmed := true }, false)
  else
    let n := (e + 0x100000000 - dyn.rateEpoch) % 0x100000000
    if d.rateWindow ≤ n then
      let dt := F32.div (F32.ofInt (n * len)) (F32.ofInt 1000000)
      let r := F32.div (F32.sub dyn.value dyn.rateRef) dt
      ({ dyn with rate := r, rateRef := dyn.value, rateEpoch := e % 0x100000000 }, true)
    else (dyn, false)

/-- Step 5 of R115 for one tag. -/
def TagWork.step5 (e len : Nat) (other : Nat → Option (Nat × TagDyn)) (w : TagWork) : TagWork :=
  let (dyn, rated) := rateStep w.d e len w.dyn
  let dev := deviation w.d dyn.value other
  let cs := dyn.conds.zipIdx.map fun p => condStep w.d dyn dev rated (nth w.d.conds p.2) p.1
  let onset := (List.range 8).filter fun i => !(nth w.dyn.conds i).qual && (nth cs i).qual
  let offset := (List.range 8).filter fun i => (nth w.dyn.conds i).qual && !(nth cs i).qual
  { w with dyn := { dyn with conds := cs }, onset, offset }

/-- The override governing a condition of the kind (R113). -/
def override (dyn : TagDyn) (kind : Nat) : Option AlarmState :=
  if dyn.oos then some .outOfService
  else if dyn.suppressed && kind != 9 then some .suppressed
  else if dyn.shelved then some .shelved
  else none

def AlarmState.isOverride : AlarmState → Bool
  | .shelved | .suppressed | .outOfService => true
  | _ => false

/-- Process transitions of priorities 1 to 3 (Table 04-10). -/
def processNext (latching qual : Bool) : AlarmState → AlarmState
  | .normal => if qual then .unack else .normal
  | .unack => if qual then .unack else if latching then .latched else .rtnUnack
  | .acked => if qual then .acked else if latching then .latched else .normal
  | .rtnUnack => if qual then .unack else .rtnUnack
  | .latched => if qual then .unack else .latched
  | x => x

/-- The state after step 7 (R110, R111, R113, R114). -/
def nextState (dyn : TagDyn) (k : CondCfg) (c : Cond) : AlarmState :=
  if k.kind = 0 then .normal
  else match override dyn k.kind with
    | some o => o
    | none =>
      if k.priority = 4 then (if c.qual then .acked else .normal)
      else if c.state.isOverride then (if c.qual then .unack else .normal)
      else processNext k.latching c.qual c.state

/-- Step 7 for one tag. -/
def TagWork.step7 (w : TagWork) : TagWork :=
  { w with dyn.conds := w.dyn.conds.zipIdx.map fun p =>
      { p.1 with state := nextState w.dyn (nth w.d.conds p.2) p.1 } }

/-- The cause of a transition (R132, Table 04-15), from the state with which the condition entered the epoch. After the
reset of R117 an override that still governs the condition is entered because of it, with CONFIG (log entry 92, DEDUCED). The cause
of a transition that no event of E caused is a free value (log entry 92). Of the flags only a change is an event: an
ALARM.UNSHELVE applied in the epoch in which the shelving expired changes none (log entry 93, DESIGN CHOICE). -/
def cause (e : Nat) (w : TagWork) (slot : Nat) (now : AlarmState) : Nat :=
  let was : AlarmState := nth w.was slot
  let crossed (o : AlarmState) := decide (was ≠ now) && (decide (was = o) || decide (now = o))
  let governed := now.isOverride
  if w.oosSet && crossed .outOfService then 1
  else if w.oosCleared && crossed .outOfService then 2
  else if !w.wasSuppressed && w.dyn.suppressed && crossed .suppressed then 3
  else if w.wasSuppressed && !w.dyn.suppressed && crossed .suppressed then 4
  else if w.shelve && crossed .shelved then 5
  else if w.unshelve && crossed .shelved then 6
  else if w.expired && crossed .shelved then 7
  else if w.acked.contains slot && !governed then 8
  else if w.resets.contains slot && !governed then 9
  else if !governed && (decide (was ≠ now) || w.onset.contains slot || w.offset.contains slot) then 10
  else if w.wasReset then 0
  else Config.openCause e (w.tag + slot * 0x40000) % 256

/-- Body of an alarm transition (Table 04-14). -/
def transitionBody (tag slot : Nat) (now was : AlarmState) (prio cause kind : Nat) (dyn : TagDyn) : Bytes :=
  le 4 (tag + slot * 0x40000) ++ le 1 now.code ++ le 1 was.code ++ le 1 prio ++ le 1 cause ++ le 4 dyn.value.toNat
    ++ le 1 dyn.quality.toNat ++ le 1 kind ++ zeros 2 ++ le 8 dyn.stamp

/-! ## Operator actions on one tag (R112, R123 to R125) -/

/-- Slots a mask selects; zero selects all. -/
def selects (mask i : Nat) : Bool := mask = 0 || mask.testBit i

/-- ALARM.ACK on the selected slots: the work and how many conditions moved. -/
def TagWork.ack (w : TagWork) (mask : Nat) : TagWork × Nat :=
  let moves i := selects mask i && (w.cfg i).kind != 0 && (w.cfg i).priority != 4
    && (decide ((w.cond i).state = .unack) || decide ((w.cond i).state = .rtnUnack))
  let ms := (List.range 8).filter moves
  ({ w with
      acked := w.acked ++ ms
      dyn.conds := w.dyn.conds.zipIdx.map fun p =>
        if moves p.2 then { p.1 with state := if p.1.state = .unack then .acked else .normal } else p.1 },
   ms.length)

/-- ALARM.RESET on the selected slots. -/
def TagWork.reset (w : TagWork) (mask : Nat) : TagWork × Nat :=
  let moves i := selects mask i && (w.cfg i).kind != 0 && (w.cfg i).priority != 4
    && decide ((w.cond i).state = .latched)
  let ms := (List.range 8).filter moves
  ({ w with
      resets := w.resets ++ ms
      dyn.conds := w.dyn.conds.zipIdx.map fun p => if moves p.2 then { p.1 with state := .normal } else p.1 },
   ms.length)

/-- ALARM.SHELVE until a deadline; a tag already shelved takes the new deadline (R124). -/
def TagWork.doShelve (w : TagWork) (deadline : Nat) : TagWork × Nat :=
  ({ w with dyn.shelved := true, dyn.deadline := deadline % 0x100000000, shelve := w.shelve || !w.dyn.shelved },
   if w.dyn.shelved then 0 else 1)

/-- ALARM.UNSHELVE; of a tag that is not shelved it changes nothing (log entry 93). -/
def TagWork.doUnshelve (w : TagWork) : TagWork × Nat :=
  if w.dyn.shelved then ({ w with dyn.shelved := false, unshelve := true }, 1) else (w, 0)

def TagWork.setOos (w : TagWork) (on : Bool) : TagWork × Nat :=
  if w.dyn.oos = on then (w, 0)
  else ({ w with dyn.oos := on, oosSet := w.oosSet || on, oosCleared := w.oosCleared || !on }, 1)

end Sys2Proof.Machine
end

