-- ==== Sys2Proof/Machine/Groups.lean ====
section
/-! DEFINITION. Groups, suppression edges, first-out and flood folding (chapter 05): step 6 of R115 over all
tags, and the group state derived from the conditions. -/

namespace Sys2Proof.Machine

/-- Tags under evaluation, ascending. -/
abbrev Works := List TagWork

def Works.find (ws : Works) (i : Nat) : Option TagWork := ws.find? (·.tag == i)

def Works.map1 (ws : Works) (i : Nat) (f : TagWork → TagWork) : Works :=
  ws.map fun w => if w.tag = i then f w else w

/-- The tags of a group. -/
def Works.group (ws : Works) (g : Nat) : Works := ws.filter (·.d.group == g)

/-- Groups with a used tag, ascending. -/
def Works.groups (ws : Works) : List Nat := ws.foldl (fun acc w => ins acc w.d.group) []

/-! ## Suppression (R141 to R144) -/

/-- The source test of an edge (Table 05-3, R142). -/
def sourceTest (ws : Works) (e : Edge) : Bool :=
  match e.kind with
  | 1 => match ws.find e.source with
    | some w => (w.cond e.slot).qual
    | none => false
  | 2 => match ws.find e.source with
    | some w =>
      (w.d.type == 2 || w.d.type == 3) && (!isBad w.dyn.quality || e.badKeeps) && e.mask.testBit w.dyn.value.toNat
    | none => false
  | 3 => (ws.group (e.source % 4096)).any fun w =>
      (List.range 8).any fun i => (w.cfg i).kind != 0 && e.mask.testBit (w.cfg i).priority && (w.cond i).qual
  | _ => false

/-- Activity of an edge and its new hold counter (R143). -/
def edgeStep (src : Bool) (hold hc : Nat) : Bool × Nat :=
  if src then (true, 0xFFFF)
  else
    let h := if hc = 0xFFFF then hold else hc
    if 0 < h then (true, h - 1) else (false, 0)

/-- Every edge of E: hold counters that are not 0 and the active edges. -/
def edgesStep (ws : Works) (edges : List (Nat × Edge)) (holds : List (Nat × Nat)) : List (Nat × Nat) × List Nat :=
  let rs := edges.map fun p =>
    let t := sourceTest ws p.2
    (p.1, edgeStep (if p.2.invert then !t else t) p.2.hold ((look holds p.1).getD 0))
  ((rs.filter fun r => r.2.2 != 0).map fun r => (r.1, r.2.2), (rs.filter fun r => r.2.1).map (·.1))

/-- Sub-step 1 of R151: DESIGN_SUPPRESSED of every tag. -/
def suppress (ws : Works) (edges : List (Nat × Edge)) (active : List Nat) : Works :=
  let targets := (edges.filter fun p => active.contains p.1).map fun p => p.2.target
  ws.map fun w => { w with wasSuppressed := w.dyn.suppressed, dyn.suppressed := targets.contains w.tag }

/-! ## Episodes (R148 to R156) -/

/-- A participating condition (R148). -/
def TagWork.participates (w : TagWork) (i : Nat) : Bool :=
  w.d.participate && (w.cfg i).kind != 0 && decide (1 ≤ (w.cfg i).priority ∧ (w.cfg i).priority ≤ 3)

def Role.isHead : Role → Bool
  | .head | .headFlood => true
  | _ => false

/-- Not hidden by an override that keeps a condition out of first-out and floods (R152, R154). -/
def TagWork.counts (w : TagWork) (i : Nat) : Bool :=
  w.participates i && !w.dyn.oos && !w.dyn.shelved && (!w.dyn.suppressed || (w.cfg i).kind == 9)

/-- A group event of an epoch (Table 05-7); the group's transition is computed after step 7. -/
inductive GroupEvent where
  | episodeEnd (g : Nat) (flood : Bool) (head : Nat) (age : Nat)
  | firstOut (g head stamp prio : Nat)
  | floodStart (g head count age : Nat)
  deriving DecidableEq, Repr, Inhabited

/-- The marked condition of a tag as index and slot (R149). -/
def headCond (w : TagWork) : Nat :=
  match (List.range 8).find? fun i => (w.cond i).mark with
  | some i => w.tag + i * 0x40000
  | none => w.tag

/-- Clear role, age and mark of a tag. -/
def TagWork.release (w : TagWork) : TagWork :=
  { w with dyn.role := .none, dyn.age := 0, dyn.conds := w.dyn.conds.map fun c => { c with mark := false } }

/-- Sub-steps 2 to 4 of R151 for one group. -/
def episodeEnd (ws : Works) (g : Nat) : Works × List GroupEvent :=
  let ms := ws.group g
  let quiet := ms.all fun w => (List.range 8).all fun i =>
    !w.participates i || decide (nth w.prior i = .normal) || (nth w.prior i).isOverride
  match ms.find? fun w => w.dyn.role.isHead with
  | some h =>
    if quiet then
      (ws.map fun w => if w.d.group = g ∧ w.dyn.role ≠ .none then w.release else w,
       [.episodeEnd g (decide (h.dyn.role = .headFlood)) (headCond h) h.dyn.age])
    else
      (ws.map fun w =>
        if w.d.group = g then
          if w.dyn.role = .folded && w.prior.all (· == .normal) then { w with dyn.role := .none }
          else if w.dyn.role.isHead then { w with dyn.age := min (w.dyn.age + 1) 16383 }
          else w
        else w, [])
  | none => (ws.map fun w => if w.d.group = g ∧ w.dyn.role = .folded then { w with dyn.role := .none } else w, [])

/-- Lexicographic order of candidates' keys: stamp, priority, tag, slot (R152). -/
def keyBefore (a b : Nat × Nat × Nat × Nat) : Bool :=
  if a.1 ≠ b.1 then decide (a.1 < b.1)
  else if a.2.1 ≠ b.2.1 then decide (a.2.1 < b.2.1)
  else if a.2.2.1 ≠ b.2.2.1 then decide (a.2.2.1 < b.2.2.1)
  else decide (a.2.2.2 < b.2.2.2)

/-- The lowest key of a list. -/
def lowest : List (Nat × Nat × Nat × Nat) → Option (Nat × Nat × Nat × Nat)
  | [] => none
  | k :: ks => match lowest ks with
    | none => some k
    | some m => some (if keyBefore m k then m else k)

/-- Sub-step 5 of R151 for one group (R152, R153). -/
def firstOut (ws : Works) (g : Nat) : Works × List GroupEvent :=
  let ms := ws.group g
  if ms.any fun w => w.dyn.role.isHead then (ws, [])
  else
    let cands := ms.flatMap fun w =>
      ((List.range 8).filter fun i => w.onset.contains i && w.counts i).map fun i =>
        (w.dyn.stamp, (w.cfg i).priority, w.tag, i)
    match lowest cands with
    | none => (ws, [])
    | some (st, pr, t, i) =>
      (ws.map1 t fun w =>
        { w with dyn.role := .head, dyn.age := 0, dyn.conds := upd w.dyn.conds i fun c => { c with mark := true } },
       [.firstOut g (t + i * 0x40000) st pr])

/-- The flood count of a group (R154). -/
def floodCount (ws : Works) (g : Nat) : Nat :=
  ((ws.group g).map fun w => (List.range 8).countP fun i => (w.cond i).qual && w.counts i).sum

/-- Sub-step 6 of R151 for one group. -/
def flood (ws : Works) (g : Nat) : Works × List GroupEvent :=
  match (ws.group g).find? fun w => decide (w.dyn.role = .head) with
  | some h =>
    let n := floodCount ws g
    if h.d.floodThr ≠ 0 ∧ h.dyn.age < h.d.floodWin ∧ h.d.floodThr ≤ n then
      (ws.map1 h.tag fun w => { w with dyn.role := .headFlood }, [.floodStart g (headCond h) n h.dyn.age])
    else (ws, [])
  | none => (ws, [])

/-- Sub-step 7 of R151 for one group (R155). -/
def fold (ws : Works) (g : Nat) : Works :=
  if (ws.group g).any fun w => decide (w.dyn.role = .headFlood) then
    ws.map fun w =>
      if w.d.group = g ∧ w.dyn.role = .none
          ∧ (List.range 8).any (fun i => (w.cond i).qual && w.counts i
              && ((w.cfg i).priority == 2 || (w.cfg i).priority == 3))
          ∧ !(List.range 8).any (fun i => (w.cfg i).kind != 0 && (w.cfg i).priority == 1 && (w.cond i).qual) then
        { w with dyn.role := .folded }
      else w
  else ws

/-- Run a sub-step over every group. -/
def perGroup (f : Works → Nat → Works × List GroupEvent) (ws : Works) : Works × List GroupEvent :=
  ws.groups.foldl (fun acc g => let r := f acc.1 g; (r.1, acc.2 ++ r.2)) (ws, [])

/-- Step 6 of R115: sub-steps 1 to 7 (R151). -/
def step6 (ws : Works) (edges : List (Nat × Edge)) (holds : List (Nat × Nat)) :
    Works × List (Nat × Nat) × List Nat × List GroupEvent :=
  let (hs, act) := edgesStep ws edges holds
  let w1 := suppress ws edges act
  let (w2, e2) := perGroup episodeEnd w1
  let (w3, e3) := perGroup firstOut w2
  let (w4, e4) := perGroup flood w3
  let w5 := w4.groups.foldl fold w4
  (w5, hs, act, e2 ++ e3 ++ e4)

/-! ## Group state (R137, R138) -/

def inUnack (a : AlarmState) : Bool := decide (a = .unack ∨ a = .rtnUnack)
def inAcked (a : AlarmState) : Bool := decide (a = .acked ∨ a = .latched)

/-- Group state code from the states of its conditions. -/
def groupCode (states : List AlarmState) : Nat :=
  if states.any inUnack then 1 else if states.any inAcked then 2 else 0

/-- Group priority: the lowest code among annunciated conditions; 0 when NORMAL. -/
def groupPriority (l : List (AlarmState × Nat)) : Nat :=
  let ps := (l.filter fun p => inUnack p.1 || inAcked p.1).map (·.2)
  if ps.isEmpty then 0 else ps.foldl min 4

/-- States and priorities of a group's non-empty conditions. -/
def groupConds (ws : Works) (g : Nat) : List (AlarmState × Nat) :=
  (ws.group g).flatMap fun w =>
    ((List.range 8).filter fun i => (w.cfg i).kind != 0).map fun i => ((w.cond i).state, (w.cfg i).priority)

/-- Groups and states of the non-empty conditions of used tags, by the descriptors of the state they are taken from. -/
def priorConds (s : State) (tags : List Nat) : List (Nat × AlarmState) :=
  tags.flatMap fun t =>
    let d := desc s t
    ((List.range 8).filter fun i => (nth d.conds i).kind != 0).map fun i => (d.group, (nth (tagDyn s t).conds i).state)

/-- Codes after E - 1 of a group's non-empty conditions, of the conditions after step 7 of E - 1. -/
def groupWas (prior : List (Nat × AlarmState)) (g : Nat) : List AlarmState :=
  (prior.filter fun p => p.1 == g).map (·.2)

/-- The group reflashes (R138). -/
def reflashes (ws : Works) (prior : List (Nat × AlarmState)) (g : Nat) : Bool :=
  groupCode (groupWas prior g) != 0 && (ws.group g).any fun w =>
    decide (w.dyn.role ≠ .folded) && (List.range 8).any fun i =>
      (w.cfg i).kind != 0 && decide ((w.cond i).state = .unack) && decide (nth w.was i ≠ .unack)

/-- Groups whose events and transition an epoch may show: those with a used tag after E - 1 or in E, ascending. -/
def eventGroups (ws : Works) (prior : List (Nat × AlarmState)) : List Nat :=
  prior.foldl (fun acc p => ins acc p.1) ws.groups

def GroupEvent.group : GroupEvent → Nat
  | .episodeEnd g _ _ _ => g
  | .firstOut g _ _ _ => g
  | .floodStart g _ _ _ => g

/-- The items of a group's events in the order of R163. -/
def groupItems (s : State) (e : Nat) (ws : Works) (prior : List (Nat × AlarmState)) (evs : List GroupEvent) (g : Nat) :
    List QItem :=
  let item (type op : Nat) (nb extra : Bytes) :=
    QItem.own (mkRec s type (le 4 e ++ nb ++ extra) (some (op, e, nb)))
  let mine := evs.filter (·.group == g)
  let ends := mine.filterMap fun ev => match ev with
    | .episodeEnd g fl h a => some (item 0x0105 0xC004
        (le 2 g ++ le 1 (if fl then 1 else 0) ++ zeros 1 ++ le 4 h ++ le 2 a ++ zeros 2) [])
    | _ => none
  let firsts := mine.filterMap fun ev => match ev with
    | .firstOut g h st pr => some (item 0x0103 0xC002 (le 2 g ++ zeros 2 ++ le 4 h ++ le 8 st) (le 1 pr))
    | _ => none
  let floods := mine.filterMap fun ev => match ev with
    | .floodStart g h n a => some (item 0x0104 0xC003
        (le 2 g ++ zeros 2 ++ le 4 h ++ le 4 n ++ le 2 a ++ zeros 2) [])
    | _ => none
  let now := groupCode ((groupConds ws g).map (·.1))
  let was := groupCode (groupWas prior g)
  let rf := reflashes ws prior g
  let trans := if now ≠ was ∨ rf then
      [QItem.note 16 0xC001 e (le 2 g ++ le 1 now ++ le 1 was ++ le 1 (groupPriority (groupConds ws g))
        ++ le 1 (if rf then 1 else 0) ++ zeros 2)]
    else []
  ends ++ firsts ++ floods ++ trans

end Sys2Proof.Machine
end

