-- ==== Sys2Proof/Machine/CallLogic.lean ====
section
/-! DEFINITION. The call step (chapter 07): watch actions, dead-man supervision, stages, caller election and
call events of one epoch. -/

namespace Sys2Proof.Machine

/-- What the call step of E reads beside the call state: the epoch, the tags after step 8, values of tags after
E - 1, the groups that called in E - 1, who is absent in E and in all of E, E - 1, E - 2, and who sealed E and E - 1
with ELIGIBLE. -/
structure CallIn where
  e       : Nat
  works   : Works
  before  : List (Nat × TagDyn)
  mapped  : Nat → Bool
  absent  : List Nat
  absent3 : List Nat
  elig    : List Nat
  lastElig : List Nat

/-- A call event as record and notification (R208). -/
def callItem (s : State) (e type op : Nat) (body : Bytes) : QItem :=
  .own (mkRec s type (le 4 e ++ body) (some (op, e, body)))

def watchChange (s : State) (e a event : Nat) (ar : WatchArea) (tk t origin : Nat) : QItem :=
  callItem s e 0x0112 0xC012
    (le 1 a ++ le 1 event ++ le 1 ar.kind ++ le 1 ar.holder ++ le 1 tk ++ le 1 t ++ le 2 origin ++ zeros 2)

/-- Apply CALL.SET_WATCH at application (R191): the state, the changed count and the event. -/
def setWatch (s : State) (e : Nat) (c : Call) (a : Action) : Call × Nat × List QItem :=
  let p := a.payload
  let n := u8 p 1
  let tk := u8 p 2
  let t := u8 p 3
  let st := u8 p 4
  let ar := nth c.areas n
  let set (x : WatchArea) : Call := { c with areas := upd c.areas n fun _ => x }
  if !(areaCfg s n).used then (c, 0, [])
  else match u8 p 0 with
    | 1 =>
      if st = stationOf s ar.kind ar.holder then
        let x := { ar with offer := some (tk, t, e + offerWindow s) }
        (set x, 1, [watchChange s e n 1 x tk t a.origin])
      else (c, 0, [])
    | 2 =>
      match ar.offer with
      | some (ok, ot, _) =>
        if ok = tk ∧ ot = t ∧ st = stationOf s tk t then
          let x := { ar with kind := tk, holder := t, offer := none }
          (set x, 1, [watchChange s e n 2 x tk t a.origin])
        else (c, 0, [])
      | none => (c, 0, [])
    | 3 =>
      match ar.offer with
      | some (ok, ot, _) =>
        if st = stationOf s ar.kind ar.holder then
          let x := { ar with offer := none }
          (set x, 1, [watchChange s e n 3 x ok ot a.origin])
        else (c, 0, [])
      | none => (c, 0, [])
    | _ => (c, 0, [])

/-- Offers at or past their deadline lapse (R191). -/
def lapseOffers (s : State) (e : Nat) (c : Call) : Call × List QItem :=
  let lapses (ar : WatchArea) : Bool := match ar.offer with
    | some (_, _, d) => atOrAfter32 e d
    | none => false
  ({ c with areas := c.areas.map fun ar => if lapses ar then { ar with offer := none } else ar },
   (c.areas.zipIdx.filter fun p => lapses p.1).map fun p =>
     let o := p.1.offer.getD (0, 0, 0)
     watchChange s e p.2 4 { p.1 with offer := none } o.1 o.2.1 0xFFFF)

/-- The station itself holds an area in use (R195). -/
def holdsArea (s : State) (c : Call) (st : Nat) : Bool :=
  c.areas.zipIdx.any fun p => (areaCfg s p.2).used && p.1.kind == 0 && p.1.holder == st

def deadmanItem (s : State) (e st event deadline : Nat) : QItem :=
  callItem s e 0x0113 0xC013 (le 1 st ++ le 1 event ++ zeros 2 ++ le 4 deadline ++ zeros 2)

/-- A reset tag goes from 0 to 1 between E - 1 and E (R195). -/
def resetByTag (i : CallIn) (tag : Nat) : Bool :=
  tag != 0xFFFFFFFF
    && decide (((look i.before tag).map fun d => d.value).getD 0 = 0)
    && (match i.works.find tag with
        | some w => decide (w.dyn.value = 1)
        | none => false)

/-- The station is supervised in E (R195). -/
def supervised (s : State) (c : Call) (st : Nat) : Bool := holdsArea s c st && (stationCfg s st).p != 0

/-- Supervision of one station in step 2: new deadline and events (R195). -/
def deadmanStep (s : State) (i : CallIn) (c : Call) (cmd : Bool) (st : Nat) (d : Option Nat) :
    Option Nat × List QItem :=
  let k := stationCfg s st
  let runs := supervised s c st
  match d with
  | none => (if runs then some (i.e + k.p) else none, [])
  | some dl =>
    let expired := atOrAfter32 (i.e - 1) dl
    if !runs then (none, if expired then [deadmanItem s i.e st 5 dl] else [])
    else
      let byTag := resetByTag i k.reset
      if cmd || byTag then
        (some (i.e + k.p), if expired then [deadmanItem s i.e st (if cmd then 3 else 4) (i.e + k.p)] else [])
      else if i.e % 0x100000000 = dl % 0x100000000 then (some dl, [deadmanItem s i.e st 2 dl])
      else if (i.e + k.w) % 0x100000000 = dl % 0x100000000 ∧ k.w ≠ 0 then (some dl, [deadmanItem s i.e st 1 dl])
      else (some dl, [])

/-- Callable conditions of an area: tag, slot, priority, whether the condition became callable in E, and whether its tag is
folded (R188, R196). `mapped` says which groups called in E - 1. -/
def callables (s : State) (ws : Works) (mapped : Nat → Bool) (a : Nat) : List (Nat × Nat × Nat × Bool × Bool) :=
  (ws.filter fun w => groupArea s w.d.group == some a).flatMap fun w =>
    ((List.range 8).filter fun i =>
      (w.cfg i).kind != 0 && ((w.cfg i).priority == 1 || (w.cfg i).priority == 2) && inUnack (w.cond i).state).map
      fun i => (w.tag, i, (w.cfg i).priority, !(inUnack (nth w.was i) && mapped w.d.group),
        decide (w.dyn.role = .folded))

/-- Stage of one area (R194) with its events (R194, R196). -/
def stageStep (s : State) (i : CallIn) (deadman : List (Option Nat)) (a : Nat) (ar : WatchArea) :
    WatchArea × List QItem :=
  let k := areaCfg s a
  if !k.used then
    ({ ar with stage := 0, cause := 0, alarmStage := 0, since := none },
     if ar.stage = 0 then [] else
       [callItem s i.e 0x0110 0xC010 (le 1 a ++ le 1 0 ++ le 1 ar.stage ++ le 1 1 ++ zeros 2)])
  else
    let cs := callables s i.works i.mapped a
    let again := (cs.filter fun x => x.2.2.2.1 && !x.2.2.2.2 && decide (2 ≤ ar.stage)).map fun x =>
      QItem.note 16 0xC014 i.e (le 1 a ++ zeros 3 ++ le 4 (x.1 + x.2.1 * 0x40000))
    let since := if cs.isEmpty then none else if ar.alarmStage = 0 then some i.e else ar.since
    let dt := (i.e + 0x100000000 - (since.getD 0) % 0x100000000) % 0x100000000
    let t1 := if ar.kind = 1 ∨ (stationCfg s ar.holder).node ∈ i.absent then 0 else k.t1
    let timed := if dt < t1 then 1 else if k.t2 = 0 ∨ dt < t1 + k.t2 then 2 else 3
    let held := if cs.isEmpty then 0 else max timed ar.alarmStage
    let emerg := if cs.any fun x => x.2.2.1 == 1 then 3 else 0
    let alarm := max held emerg
    let dm := if ar.kind = 0 then
        (match nth deadman ar.holder with
         | some d => if atOrAfter32 i.e d then 3 else 0
         | none => 0) else 0
    let stage := max alarm dm
    let cause := if held = stage then 1 else if emerg = stage then 2 else 3
    let ev := if stage ≠ ar.stage then
        [callItem s i.e 0x0110 0xC010 (le 1 a ++ le 1 stage ++ le 1 ar.stage ++ le 1 cause ++ zeros 2)] else []
    ({ ar with stage, alarmStage := alarm, since
               cause := if stage = 0 then 0 else if stage ≠ ar.stage then cause else ar.cause },
     again ++ ev)

/-- The election of R198. -/
def elect (absent absent3 elig : List Nat) : List Nat → Option Nat
  | [] => none
  | n :: ns =>
    if n ∈ absent3 then elect absent absent3 elig ns
    else if n ∈ absent then none
    else if n ∈ elig then some n
    else elect absent absent3 elig ns

/-- Reason of a change of caller (R208): 1 absence, 2 eligibility cleared, 3 eligibility set. A node elected where none was caller
had its bit set in E, or had it in E - 1 already and stood behind an absent node. -/
def callerReason (i : CallIn) (old new : Option Nat) : Nat :=
  match old with
  | none => if new.any fun n => decide (n ∈ i.lastElig) then 1 else 3
  | some o => if o ∈ i.absent then 1 else if !(o ∈ i.elig) then 2 else if new.isNone then 1 else 3

/-- Apply the CALL.SET_WATCH actions in order. -/
def watchActions (s : State) (e : Nat) (acts : List Action) (c : Call) :
    Call × List QItem × List (Nat × Nat × Nat) :=
  acts.foldl (fun (acc : Call × List QItem × List (Nat × Nat × Nat)) a =>
    if a.opcode = 0x0440 then
      let r := setWatch s e acc.1 a
      (r.1, acc.2.1 ++ r.2.2, acc.2.2 ++ [(a.origin, a.number, r.2.1)])
    else acc) (c, [], [])

/-- The call step of E (R193): new call state, events in order, and the changed count of each CALL action. -/
def callStep (s : State) (i : CallIn) (c : Call) (acts : List Action) : Call × List QItem × List (Nat × Nat × Nat) :=
  let r1 := watchActions s i.e acts c
  let (c2, lapsed) := lapseOffers s i.e r1.1
  let dmActs := acts.filter fun a => a.opcode == 0x0441
  let counts := dmActs.map fun a =>
    (a.origin, a.number, if supervised s c2 (u8 a.payload 0) then 1 else 0)
  let dm := c2.deadman.zipIdx.map fun p =>
    deadmanStep s i c2 (dmActs.any fun a => u8 a.payload 0 == p.2) p.2 p.1
  let deadman := dm.map (·.1)
  let st := c2.areas.zipIdx.map fun p => stageStep s i deadman p.2 p.1
  let caller := elect i.absent i.absent3 i.elig (callerList s)
  let ce := if caller ≠ c.caller then
      [callItem s i.e 0x0111 0xC011 (le 2 (caller.getD 0xFFFF) ++ le 2 (c.caller.getD 0xFFFF)
        ++ le 1 (callerReason i c.caller caller) ++ zeros 1)] else []
  ({ areas := st.map (·.1), deadman, caller },
   r1.2.1 ++ lapsed ++ dm.flatMap (·.2) ++ st.flatMap (·.2) ++ ce,
   r1.2.2 ++ counts)

/-- Activation of the call region (R192): offers cancelled, deadlines restarted, holders that no longer exist
replaced; a supervision that stops from the expired state says so (R195). `wasUsed` says which areas were in use before. -/
def activateCall (s : State) (e : Nat) (wasUsed : List Bool) (c : Call) : Call × List QItem :=
  let rs : List (WatchArea × List QItem) := c.areas.zipIdx.map fun p =>
    let k := areaCfg s p.2
    let ar : WatchArea := { p.1 with offer := none }
    let exists_ : Bool := if ar.kind = 0 then decide (ar.holder < 64) else decide (ar.holder < 32)
    if k.used && (!nth wasUsed p.2 || !exists_) then
      let x := { ar with kind := k.kind, holder := k.holder }
      (x, if x.kind = ar.kind ∧ x.holder = ar.holder then [] else [watchChange s e p.2 5 x 0xFF 0xFF 0xFFFF])
    else (ar, [])
  let c1 : Call := { c with areas := rs.map fun r => r.1 }
  let next (st : Nat) : Option Nat :=
    if holdsArea s c1 st && (stationCfg s st).p != 0 then some (e + (stationCfg s st).p) else none
  let stops (p : Option Nat × Nat) : List QItem := match p.1, next p.2 with
    | some dl, none => if atOrAfter32 (e - 1) dl then [deadmanItem s e p.2 5 dl] else []
    | _, _ => []
  ({ c1 with deadman := c1.deadman.zipIdx.map fun p => next p.2 },
   (rs.flatMap fun r => r.2) ++ c.deadman.zipIdx.flatMap stops)

/-- Initial call state: each area in use has its initial holder and no offer (R479). -/
def initialCall (s : State) : Call :=
  { areas := (List.range 16).map fun a =>
      let k := areaCfg s a
      if k.used then { kind := k.kind, holder := k.holder } else {} }

/-- CALL.STATUS bytes 28 to 543 (R207, R263). -/
def callBytes (s : State) (c : Call) : Bytes :=
  le 2 (flagBits ((List.range 16).map fun a => (areaCfg s a).used)) ++ zeros 2
    ++ (c.areas.flatMap fun ar =>
      le 1 ar.kind ++ le 1 ar.holder ++ le 1 ar.stage ++ le 1 ar.cause ++ le 4 (ar.since.getD 0xFFFFFFFF)
        ++ (match ar.offer with
            | some (k, t, d) => le 1 k ++ le 1 t ++ zeros 2 ++ le 4 d
            | none => le 1 0xFF ++ zeros 3 ++ le 4 0xFFFFFFFF))
    ++ (c.deadman.flatMap fun d => le 4 (d.getD 0xFFFFFFFF))

end Sys2Proof.Machine
end

