-- ==== Sys2Proof/Machine/Eval.lean ====
section
/-! DEFINITION. Evaluation of one epoch (R115) over the replicated state: inputs, activation of regions,
steps 1 to 8, the call step, membership, snapshots and the digest. It emits nothing itself: it answers the
items in their order (R16: the result depends on the replicated inputs alone). -/

namespace Sys2Proof.Machine

/-- The inputs of an epoch beside the replicated state. -/
structure EpochIn where
  e       : Nat
  frames  : List CFrame := []
  /-- Members declared absent in E, and what the seals of E say. -/
  declared  : List Nat := []
  elig      : List Nat := []
  departing : List Nat := []
  reseeding : List Nat := []
  /-- ISLAND: own tags only, from the node's own results (R31). -/
  island  : Bool := false
  own     : List Upd := []
  /-- Founding hold: steps 1 and 2 only (R479). -/
  hold    : Bool := false

/-- Outcome of an action at application (R126, R581): origin, number, status, changed count and appended data. -/
structure ActResult where
  origin : Nat
  number : Nat
  status : Nat := 0
  changed : Nat := 0
  extra  : Bytes := []
  deriving DecidableEq, Repr, Inhabited

/-- What evaluating an epoch gives. -/
structure Evald where
  st      : State
  items   : List QItem
  results : List ActResult
  works   : Works

/-! ## Inputs -/

/-- Counted frames of E from origins present in E; join frames from any origin (R260). -/
def admitted (s : State) (i : EpochIn) : List CFrame :=
  i.frames.filter fun f => decide (f.epoch = i.e) && (match f.body with
    | .join _ => true
    | _ => decide (f.origin ∈ s.repl.rep.members) && !decide (f.origin ∈ i.declared))

/-- The later of two entries of one tag (R262): by stamp, then by frame sequence, then by place. The new entry
comes later in the order of frames. -/
def laterUpd (a b : Nat × Upd) : Nat × Upd :=
  if a.2.stamp < b.2.stamp then b
  else if a.2.stamp = b.2.stamp then (if a.1 ≤ b.1 then b else a)
  else a

/-- The entry a tag of a type takes in step 1; one whose value does not fit is discarded (R93). -/
def chosen (fs : List CFrame) (tag type : Nat) : Option Upd :=
  let es := fs.flatMap fun f => match f.body with
    | .updates us => (us.filter fun u => u.tag == tag && fitsType type u.value).map fun u => (f.seq, u)
    | _ => []
  match es with
  | [] => none
  | x :: xs => some (xs.foldl laterUpd x).2

/-- Whole actions of E, in the order of R119: stamp, origin, order of execution (by frame sequence). -/
def actionBefore (a b : Nat × Action) : Bool :=
  if a.2.stamp ≠ b.2.stamp then decide (a.2.stamp < b.2.stamp)
  else if a.2.origin ≠ b.2.origin then decide (a.2.origin < b.2.origin)
  else decide (a.1 ≤ b.1)

def insertAction (x : Nat × Action) : List (Nat × Action) → List (Nat × Action)
  | [] => [x]
  | y :: ys => if actionBefore x y then x :: y :: ys else y :: insertAction x ys

/-- The parts of an action held, by index. -/
def partsOf (fs : List CFrame) (origin number : Nat) : List (Nat × Bytes) :=
  fs.foldl (fun acc f => match f.body with
    | .part a ix _ => if f.origin = origin ∧ a.number = number then put acc ix a.payload else acc
    | _ => acc) []

def actionsOf (fs : List CFrame) : List Action :=
  let firsts := fs.filterMap fun f => match f.body with
    | .part a 0 n => some (f.seq, a, n)
    | _ => none
  let whole := firsts.filterMap fun x =>
    let ps := partsOf fs x.2.1.origin x.2.1.number
    if ps.length = x.2.2 then some (x.1, { x.2.1 with payload := ps.flatMap fun p => p.2 }) else none
  (whole.foldl (fun acc x => insertAction x acc) []).map fun x => x.2

/-- Nodes joined by frames counted in E. -/
def joinsOf (fs : List CFrame) : List Nat :=
  fs.foldl (fun acc f => match f.body with
    | .join n => ins acc n
    | _ => acc) []

/-! ## Activation of replicated regions (R117, R118, R146, R192, R520) -/

/-- Flip the selector of a region (R505). -/
def Cfg.flip (c : Cfg) (r : Nat) : Cfg :=
  let w := (nth c.selector (r / 16)).toNat % 65536 ^^^ 2 ^ (r % 16)
  { c with selector := upd c.selector (r / 16) fun _ => BitVec.ofNat 32 (w + 65536 * (65535 - w)) }

/-- Transitions to NORMAL of a tag reset at activation (R117), with the value, quality and stamp of the epoch (R131). A tag that
becomes unused has its transitions too, with its old descriptor and its last values (log entry 91, DESIGN CHOICE). -/
def configItems (s : State) (e tag : Nat) (d : Desc) (dyn : TagDyn) (was : List AlarmState) : List QItem :=
  (List.range 8).filterMap fun i =>
    let a : AlarmState := nth was i
    if a = .normal then none
    else
      let k : CondCfg := nth d.conds i
      let b := transitionBody tag i .normal a k.priority 0 k.kind dyn
      some (.own (mkRec s 0x0100 (le 4 e ++ b ++ zeros 2) (some (0xC000, e, b))))

/-- A tag's state reset at activation under its new descriptor. -/
def resetTag (d : Desc) (dyn : TagDyn) : TagDyn :=
  { dyn with
    conds := List.replicate 8 {}, rateArmed := false, role := .none, age := 0
    shelved := dyn.shelved && decide (d.shelveLimit ≠ 0) }

/-- Tags whose descriptor bytes 4 to 111 change when a tag region activates (R117). -/
def changedTags (old new : State) (r : Nat) : List Nat :=
  let lo := 4096 * (r - 2)
  let inR := fun t => decide (lo ≤ t ∧ t < lo + 4096)
  let tags := (((usedTags old).filter inR) ++ ((usedTags new).filter inR)).foldl ins []
  tags.filter fun t => decide (sub (descBytes old t) 4 108 ≠ sub (descBytes new t) 4 108)

/-- Items of a region's activation, given the dynamic state of a tag in the epoch (after steps 1 and 2). -/
abbrev Items := (Nat → TagDyn) → List QItem

/-- Activate one region: the state with the new copy active, and the items (R520). -/
def activateRegion (s : State) (e r : Nat) : State × Items :=
  let old := s
  let s1 := { s with cfg := { s.cfg.flip r with staged := s.cfg.staged.filter (· != r) } }
  let d := dirEntry s1 (selected s1 r) r
  let act := QItem.own (mkRec s1 0x0500
    (le 4 e ++ le 1 r ++ le 1 1 ++ zeros 2 ++ le 4 d.version ++ le 4 d.crc ++ zeros 2)
    (some (0xC0FA, e, le 1 2 ++ le 1 r ++ zeros 2 ++ le 4 e)))
  if 2 ≤ r ∧ r ≤ 65 then
    let changed := changedTags old s1 r
    let newTags := changed.foldl (fun acc t =>
      if (desc s1 t).type = 0 then acc.filter (·.1 != t)
      else put acc t (resetTag (desc s1 t) ((look acc t).getD {}))) s.repl.rep.tags
    let em := changed.foldl (fun acc t => put acc t (List.replicate 8 AlarmState.normal)) s.repl.emitted
    ({ s1 with repl.rep.tags := newTags, repl.emitted := em },
     fun now => [act]
      ++ (changed.flatMap fun t =>
        configItems s1 e t (desc old t) (if (desc s1 t).type = 0 then tagDyn old t else now t)
          ((look s.repl.emitted t).getD (List.replicate 8 .normal)))
      ++ [QItem.own (mkRec s1 0x0102 (le 4 e ++ le 1 (r - 2) ++ zeros 1 ++ le 2 changed.length))])
  else if 66 ≤ r ∧ r ≤ 81 then
    let lo := 65536 * (r - 66)
    let inR := fun x => decide (lo ≤ x ∧ x < lo + 65536)
    let n := (s.repl.rep.active.filter inR).length
    ({ s1 with
        repl.rep.holds := s.repl.rep.holds.filter fun h => !inR h.1
        repl.rep.active := s.repl.rep.active.filter fun x => !inR x },
     fun _ => [act, QItem.own (mkRec s1 0x0106 (le 4 e ++ le 1 (r - 66) ++ zeros 3 ++ le 4 n))])
  else if r = 1 then
    let used := (List.range 16).map fun a => (areaCfg old a).used
    let (c, its) := activateCall s1 e used s.repl.rep.call
    ({ s1 with repl.rep.call := c }, fun _ => [act] ++ its)
  else if r = 0 then
    let l0 := epochLen old
    let l1 := epochLen s1
    let rescale (t : TagDyn) : TagDyn :=
      if t.shelved then
        { t with deadline :=
            (e + ceilDiv ((t.deadline + 0x100000000 - e % 0x100000000) % 0x100000000 * l0) l1) % 0x100000000 }
      else t
    let s2 := if l0 = l1 then s1 else
      { s1 with repl.rep.tags := s1.repl.rep.tags.map fun p => (p.1, rescale p.2) }
    if s2.lanes.profile.accepts l1 then (s2, fun _ => [act])
    else
      let np : Profile := if Profile.standard.accepts l1 then .standard
        else if Profile.fast.accepts l1 then .fast else .quiet
      ({ s2 with lanes.profile := np, lanes.running := np, lanes.next := none },
       fun _ => [act, QItem.own (mkRec s2 0x0034 (le 4 e ++ le 1 np.code ++ le 1 s.lanes.profile.code ++ le 1 2
         ++ zeros 1 ++ le 4 l1))])
  else (s1, fun _ => [act])

/-- The activation due at E, in ascending region number (R520). -/
def activateDue (s : State) (e : Nat) : State × Items :=
  match s.repl.rep.scheduled with
  | some (ea, rs, _, _) =>
    if ea = e then
      let regs := rs.foldl (fun acc p => ins acc p.1) []
      let r := regs.foldl (fun (acc : State × Items) x =>
        let y := activateRegion acc.1 e x
        (y.1, fun now => acc.2 now ++ y.2 now)) (s, fun _ => [])
      ({ r.1 with repl.rep.scheduled := none, lanes.trigger := true }, r.2)
    else (s, fun _ => [])
  | none => (s, fun _ => [])

/-! ## Steps 1 to 4 -/

/-- Tags evaluated: every used tag, or the node's own in ISLAND (R31). -/
def evaluatedTags (s : State) (i : EpochIn) : List Nat := if i.island then ownedTags s else usedTags s

/-- Works of the tags evaluated; `s0` is the state before an activation of E. -/
def startWorks (s0 s : State) (i : EpochIn) : Works :=
  (evaluatedTags s i).map fun t =>
    let dyn := tagDyn s t
    { tag := t, d := desc s t, dyn := dyn, was := dyn.conds.map (·.state), prior := (tagDyn s0 t).conds.map (·.state)
      wasReset := decide (sub (descBytes s0 t) 4 108 ≠ sub (descBytes s t) 4 108) }

/-- Steps 1 to 3 for one tag. -/
def step123 (s : State) (i : EpochIn) (fs : List CFrame) (w : TagWork) : TagWork :=
  let u := if i.island then (i.own.filter (·.tag == w.tag)).getLast? else chosen (fs.filter (·.origin == w.d.node)) w.tag w.d.type
  let w1 := match u with
    | some x => { w with dyn.value := x.value, dyn.quality := x.quality, dyn.stamp := x.stamp, dyn.updated := true }
    | none => { w with dyn.updated := false }
  let ownerAbsent := !i.island &&
    (!decide (w.d.node ∈ s.repl.rep.members) || decide (w.d.node ∈ i.declared))
  let w2 := if ownerAbsent then { w1 with dyn.quality := qOwnerAbsent } else w1
  if !i.hold && w2.dyn.shelved && atOrAfter32 i.e w2.dyn.deadline then
    { w2 with dyn.shelved := false, expired := true }
  else w2

/-- Entries of a payload after its 4-byte head (R122). -/
def entries (p : Bytes) (size : Nat) : List Bytes :=
  (List.range (u16 p 0)).map fun i => sub p (4 + size * i) size

/-- Apply a per-tag action to the tag an entry names. -/
def onTag (ws : Works) (t : Nat) (f : TagWork → TagWork × Nat) : Works × Nat :=
  match ws.find t with
  | some w => (ws.map1 t fun _ => (f w).1, (f w).2)
  | none => (ws, 0)

/-- Apply an ALARM action over its entries: works and changed count (R123 to R125, R162). -/
def alarmAction (len e : Nat) (ws : Works) (a : Action) : Works × Nat :=
  let each (size : Nat) (f : Bytes → TagWork → TagWork × Nat) : Works × Nat :=
    (entries a.payload size).foldl (fun (acc : Works × Nat) b =>
      let r := onTag acc.1 (u32 b 0 % 0x40000) (f b)
      (r.1, acc.2 + r.2)) (ws, 0)
  match a.opcode with
  | 0x0340 => each 4 fun b w => w.ack (u32 b 0 / 0x40000 % 256)
  | 0x0345 => each 4 fun b w => w.reset (u32 b 0 / 0x40000 % 256)
  | 0x0341 => each 8 fun b w => w.doShelve (e + ceilDiv (u32 b 4 * 1000000) len)
  | 0x0342 => each 4 fun _ w => w.doUnshelve
  | 0x0343 => each 4 fun _ w => w.setOos true
  | 0x0344 => each 4 fun _ w => w.setOos false
  | 0x0346 =>
    (entries a.payload 4).foldl (fun (acc : Works × Nat) b =>
      let g := u32 b 0 % 4096
      let bundle := (acc.1.filter fun w => w.d.group == g && decide (w.dyn.role ≠ .none)).map (·.tag)
      if (acc.1.group g).any fun w => w.dyn.role.isHead then
        bundle.foldl (fun (acc2 : Works × Nat) t =>
          let r := onTag acc2.1 t fun w => w.ack 0
          (r.1, acc2.2 + r.2)) acc
      else acc) (ws, 0)
  | _ => (ws, 0)

/-- OPERATOR_ACTION (R133). -/
def operatorItem (s : State) (e : Nat) (a : Action) (changed : Nat) : QItem :=
  .own (mkRec s 0x0101 (le 4 e ++ le 2 a.opcode ++ le 2 a.origin ++ le 1 a.port ++ zeros 1
    ++ le 2 (u16 a.payload 0) ++ le 2 (sat16 changed)
    ++ sub ((a.payload.drop 4).take (if a.opcode = 0x0341 then 8 else 4)) 0 8))

/-- What step 4 carries from action to action. -/
structure ActState where
  rep   : Replica
  works : Works
  items : List QItem := []
  late  : List QItem := []
  res   : List ActResult := []

/-- Apply one action in step 4; CALL actions wait for the call step. -/
def applyAction (s : State) (e : Nat) (x : ActState) (a : Action) : ActState :=
  let len := epochLen s
  let done (st ch : Nat) (ex : Bytes) : List ActResult :=
    x.res ++ [{ origin := a.origin, number := a.number, status := st, changed := ch, extra := ex }]
  if 0x0340 ≤ a.opcode ∧ a.opcode ≤ 0x0346 then
    let r := alarmAction len e x.works a
    { x with works := r.1, late := x.late ++ [operatorItem s e a r.2], res := done 0 r.2 [] }
  else if a.opcode = 0x0B41 then
    let new := sint 8 (u64 a.payload 0) - (a.stamp : Int)
    let old := x.rep.sysOffset
    let n := x.rep.offsetEpoch + 1
    let body := le 4 e ++ le 4 n ++ leInt 8 new ++ leInt 8 old ++ le 1 (if new < old then 1 else 0) ++ zeros 1
      ++ le 2 a.origin
    { x with
      rep := { x.rep with sysOffset := new, offsetEpoch := n }
      late := x.late ++ [.own (mkRec s 0x0303 body
        (some (0xC0F4, e, le 1 4 ++ zeros 1 ++ le 2 (s.fab.master.getD 0xFFFF))))]
      res := done 0 1 [] }
  else if a.opcode = 0x0D44 then
    match x.rep.scheduled with
    | some _ => { x with res := done Status.updateRunning 0 [] }
    | none =>
      let n := u16 a.payload 0
      let rs := (List.range n).map fun i => (u8 a.payload (4 + 8 * i), u32 a.payload (8 + 8 * i))
      let ea := e + ceilDiv 2000000 len
      let newL := if rs.any (·.1 == 0) then
          (let l := u32 (copyBytes s (1 - selected s 0) 0 0 4) 0; if l = len then 0 else l) else 0
      let body := le 4 e ++ le 4 ea ++ le 1 n ++ zeros 1 ++ le 2 a.origin ++ le 1 a.port ++ zeros 1 ++ le 4 newL
      { x with
        rep := { x.rep with scheduled := some (ea, rs, a.origin, a.port) }
        late := x.late ++ [.own (mkRec s 0x0502 body
          (some (0xC0FA, e, le 1 4 ++ le 1 ((rs.head?.map (·.1)).getD 0) ++ zeros 2 ++ le 4 ea)))]
        res := done 0 n (le 4 ea) }
  else if a.opcode = 0x1040 then
    let sn := x.rep.snap
    match sn.slots.findIdx? (·.1 == 0) with
    | none => { x with res := done Status.snapBusy 0 [] }
    | some k =>
      let t := u32 a.payload 0
      let id := sn.nextId
      { x with
        rep := { x.rep with snap :=
          { nextId := if id = 65535 then 1 else id + 1
            slots := upd sn.slots k fun _ => (id, t, (t + 60000000 / len) % 0x100000000) } }
        res := done 0 1 (le 2 id ++ zeros 2) }
  else x

/-! ## Step 8 -/

/-- Transitions of one tag against the codes last emitted, in slot order (R115, R131). -/
def transitionItems (s : State) (e : Nat) (was : List AlarmState) (w : TagWork) : List QItem :=
  (List.range 8).filterMap fun i =>
    let a : AlarmState := nth was i
    let b := (w.cond i).state
    if a = b then none
    else
      let k := w.cfg i
      let body := transitionBody w.tag i b a k.priority (cause e w i b) k.kind w.dyn
      some (.own (mkRec s 0x0100 (le 4 e ++ body ++ zeros 2) (some (0xC000, e, body))))

/-- State codes last emitted for a tag. -/
def emittedOf (s : State) (t : Nat) : List AlarmState := (look s.repl.emitted t).getD (List.replicate 8 .normal)

/-! ## Membership (R252) -/

/-- A node is absent in an epoch of the history: not a member, or declared (R252). -/
def absentIn (h : Nat × List Nat × List Nat) (n : Nat) : Bool :=
  !decide (n ∈ h.2.1) || decide (n ∈ h.2.2)

/-- Members removed for three absences, each in an epoch of its membership. -/
def thriceAbsent (hist : List (Nat × List Nat × List Nat)) (n : Nat) : Bool :=
  decide (3 ≤ hist.length) && (hist.take 3).all fun h => decide (n ∈ h.2.1) && decide (n ∈ h.2.2)

/-- MEMBERSHIP_EVENT body (R279). -/
def memberEvent (event node e : Nat) : Bytes := le 1 event ++ zeros 1 ++ le 2 node ++ le 4 e

/-- M(E + 1) with the records of removals and the notifications. -/
def nextMembers (s : State) (i : EpochIn) (joins : List Nat) (hist : List (Nat × List Nat × List Nat)) :
    List Nat × List QItem :=
  let m := s.repl.rep.members
  let dep := m.filter fun n => decide (n ∈ i.departing)
  let gone := m.filter fun n => !decide (n ∈ dep) && thriceAbsent hist n
  let kept := m.filter fun n => !decide (n ∈ dep) && !decide (n ∈ gone)
  let added := joins.filter fun n => !decide (n ∈ kept)
  let rm (n reason first : Nat) : QItem :=
    .own (mkRec s 0x0311 (le 4 i.e ++ le 2 n ++ le 1 reason ++ zeros 1 ++ le 4 first)
      (some (0xC0F5, i.e, memberEvent (if reason = 1 then 2 else 3) n (i.e + 1))))
  (added.foldl ins kept,
   dep.map (rm · 1 (i.e + 1)) ++ gone.map (rm · 2 (i.e - 2))
     ++ added.map fun n => QItem.note 31 0xC0F5 i.e (memberEvent 1 n (i.e + 1)))

/-! ## The digest (R263) -/

/-- CRC-32C of the replicated directory (R507). -/
def directoryCrc (s : State) : Nat :=
  crc32c ((List.range 82).flatMap fun r =>
    match activeBank s r with
    | some b => le 1 r ++ le 4 (dirEntry s b r).version ++ le 4 (dirEntry s b r).crc
    | none => [])

/-- Snapshot state as its 22 bytes (R275). -/
def SnapState.bytes (x : SnapState) : Bytes :=
  le 2 x.nextId ++ x.slots.flatMap fun p => le 2 p.1 ++ le 4 p.2.1 ++ le 4 p.2.2

/-- The byte stream of the digest. -/
def digestBytes (s : State) : Bytes :=
  ((List.range 262144).flatMap fun t => match look s.repl.rep.tags t with
    | some d => d.bytes
    | none => zeros 64)
  ++ ((List.range 1048576).flatMap fun x => le 2 ((look s.repl.rep.holds x).getD 0))
  ++ le 2 (s.repl.rep.call.caller.getD 0xFFFF) ++ callBytes s s.repl.rep.call
  ++ leInt 8 s.repl.rep.sysOffset ++ le 4 s.repl.rep.offsetEpoch ++ s.repl.rep.snap.bytes
  ++ le 4 (directoryCrc s)

def digest (s : State) : Nat := crc64 (digestBytes s)

/-- Digest epochs: one every second (R263). -/
def digestEpoch (s : State) (e : Nat) : Bool := decide (e % (1000000 / epochLen s) = 0)

/-- A suppression edge as held in the tag store: the image's bytes with the hold counter in bytes 14 and 15 (R141). -/
def storeEdge (s : State) (r : Replica) (x : Nat) : Bytes := (edgeBytes s x).take 14 ++ le 2 ((look r.holds x).getD 0)

/-! ## One epoch -/

/-- Evaluate E: activation, steps 1 to 8, call step, membership and snapshots. In ISLAND a deviation reference owned by another
node counts as unused (R103; log entry 94, DESIGN CHOICE); of an epoch of the founding hold the operator actions are dropped
(R479; log entry 95, DESIGN CHOICE). -/
def evalCore (s0 : State) (i : EpochIn) : Evald :=
  let (s, actItems) : State × Items := if i.island then (s0, fun _ => []) else activateDue s0 i.e
  let fs := admitted s i
  let w0 := startWorks s0 s i
  let prior := priorConds s0 (evaluatedTags s0 i)
  let before := s.repl.rep.tags
  let w3 := w0.map (step123 s i fs)
  let now (t : Nat) : TagDyn := match Works.find w3 t with
    | some w => w.dyn
    | none => tagDyn s t
  let acts := if i.island ∨ i.hold then [] else actionsOf fs
  let a4 := acts.foldl (applyAction s i.e) { rep := s.repl.rep, works := w3 }
  let len := epochLen s
  let hist := ((i.e, s.repl.rep.members, i.declared) :: s.repl.rep.absents).take 3
  let absent3 := (callerList s).filter fun n => hist.all fun h => absentIn h n
  let named := (usedNodes s ++ callerList s ++ (List.range 64).map fun st => (stationCfg s st).node).foldl ins []
  let absent := named.filter fun n => absentIn (i.e, s.repl.rep.members, i.declared) n
  let edges := (usedEdges s).map fun x => (x, edge s x)
  let other (t : Nat) : Option (Nat × TagDyn) :=
    match a4.works.find t with
    | some w => some (w.d.type, w.dyn)
    | none => none
  let w5 := if i.hold then a4.works else a4.works.map (TagWork.step5 i.e len other)
  let (w6, hs, act, evs) := if i.hold then (w5, s.repl.rep.holds, s.repl.rep.active, [])
    else step6 w5 edges s.repl.rep.holds
  let w7 := if i.hold then w6 else w6.map TagWork.step7
  let trans := w7.flatMap fun w => transitionItems s i.e (emittedOf s w.tag) w
  let groups := (eventGroups w7 prior).flatMap fun g => groupItems s i.e w7 prior evs g
  -- in ISLAND a caller with two lanes runs the call step for itself alone (R201)
  let alone := i.island && (callerList s).contains s.node && decide (2 ≤ laneCount s)
  let ci : CallIn :=
    { e := i.e, works := w7, before, mapped := fun g => (groupArea s0 g).isSome
      absent := if i.island then [] else absent
      absent3 := if i.island then (callerList s).filter (· != s.node) else absent3
      elig := if i.island then [s.node] else i.elig
      lastElig := s0.repl.rep.lastElig }
  let (call, callItems, counts) := if i.hold then (a4.rep.call, [], [])
    else if i.island && !alone then ({ a4.rep.call with caller := none }, [], [])
    else callStep s ci a4.rep.call acts
  let callRes := counts.map fun x => ({ origin := x.1, number := x.2.1, changed := x.2.2 } : ActResult)
  let (mem, memItems) := if i.island then (s.repl.rep.members, []) else nextMembers s i s.repl.rep.joins hist
  let free (p : Nat × Nat × Nat) : Nat × Nat × Nat :=
    if p.1 ≠ 0 ∧ atOrAfter32 i.e p.2.2 then (0, 0, 0) else p
  let tags := w7.foldl (fun acc w => put acc w.tag w.dyn) s.repl.rep.tags
  let rep : Replica :=
    { a4.rep with
      tags, holds := hs, active := act, call, members := mem, absents := hist, joins := joinsOf fs, lastElig := i.elig
      snap := { a4.rep.snap with slots := a4.rep.snap.slots.map free } }
  { st := { s with repl.rep := rep, repl.lastReseed := i.reseeding }
    items := actItems now ++ trans ++ groups ++ a4.late ++ memItems ++ callItems
    results := a4.res ++ callRes
    works := w7 }

/-- Remember the codes emitted (R180, R269, R270). -/
def State.markEmitted (s : State) (ws : Works) : State :=
  { s with repl.emitted := ws.foldl (fun acc w => put acc w.tag (w.dyn.conds.map (·.state))) s.repl.emitted }

/-- The founding state (R479). -/
def foundingReplica (s : State) (founder : Nat) : Replica :=
  { tags := (usedTags s).map fun t => (t, { quality := qOwnerAbsent })
    call := initialCall s
    members := [founder] }

end Sys2Proof.Machine
end

