-- ==== Sys2Proof/Machine/Lanes.lean ====
section
/-! DEFINITION. Lanes, profiles and GUARD (chapter 06): disagreement, charges, retirement, the clean-epoch
count, and the boundary at which GUARD is entered and left. -/

namespace Sys2Proof.Machine

def laneMask (s : State) : Nat := s.lanes.inService.toNat

/-- Three charge epochs, oldest first, 0xFFFF_FFFF where none. -/
def chargeBytes (s : State) (lane : Nat) : Bytes :=
  let l : List Nat := nth s.lanes.last3 lane
  ((List.range 3).flatMap fun i => le 4 (l.getD i 0xFFFFFFFF))

/-- LANE_EVENT (R186). -/
def laneEvent (s : State) (event lanes : Nat) : Bytes := le 1 event ++ le 1 lanes ++ le 1 (laneMask s) ++ zeros 1

/-- Lanes in service that are not about to retire. -/
def lanesLeft (s : State) : Nat :=
  (List.range 3).countP fun l => s.lanes.inService.toNat.testBit l && !s.lanes.retiring.any (·.1 == l)

/-- Mark a lane for retirement at the next boundary (R177). -/
def State.retireNext (s : State) (lane reason e : Nat) : State :=
  if s.lanes.retiring.any (·.1 == lane) || !s.lanes.inService.toNat.testBit lane then s
  else { s with lanes.retiring := s.lanes.retiring ++ [(lane, reason, e)] }

/-- Charge a lane one disagreement in E; the third within 1,000 epochs retires it, but never the last (R175). -/
def State.chargeLane (s : State) (e lane : Nat) : State :=
  let l : List Nat := nth s.lanes.last3 lane
  let l' := (l ++ [e]).drop (l.length + 1 - 3)
  let s1 := { s with
    lanes.charges := upd s.lanes.charges lane fun n => sat32 (n + 1)
    lanes.last3 := upd s.lanes.last3 lane fun _ => l' }
  let close := decide (l'.length = 3) &&
    decide ((e + 0x100000000 - (nth l' 0) % 0x100000000) % 0x100000000 < 1000)
  if close && decide (1 < lanesLeft s) then s1.retireNext lane 1 e else s1

/-! ## Which lanes evaluate a unit (R165, R168, R169, R171) -/

/-- Lanes of a 3-bit mask. -/
def lanesOf (m : Nat) : List Nat := (List.range 3).filter fun l => m.testBit l

/-- The lane that owns a tag in SPLIT. -/
def splitOwner (tag : Nat) : Nat := if tag ≤ 87381 then 0 else if tag ≤ 174763 then 1 else 2

/-- A tag lies in the cross-check block of E. -/
def inBlock (e tag : Nat) : Bool := tag / 4096 == e % 64

/-- The tag by which a unit is shared out: a tag unit's own, an edge unit's target (R169); none for a group unit. -/
def unitTag (s : State) (unit : Nat) : Option Nat :=
  match unit / 0x40000000 with
  | 0 => some (unit % 0x40000)
  | 1 => some (edge s (unit % 0x100000)).target
  | _ => none

/-- The lanes whose results of a unit are held against one another in E (R168, R169). -/
def evaluators (s : State) (e unit : Nat) : List Nat :=
  match arrangement s with
  | 1 => (lanesOf (laneMask s)).take 2
  | 2 | 4 => lanesOf (laneMask s)
  | 3 => match unitTag s unit with
    | some t => if inBlock e t then [splitOwner t, (splitOwner t + 1) % 3] else []
    | none => lanesOf (laneMask s)
  | _ => []

/-- The disputes that the arrangement can have in E: on a unit that two lanes or more evaluate, with the lanes of the
minority among them (R169, R171 to R173). -/
def judged (s : State) (e : Nat) (r : EvalReport) : EvalReport :=
  { r with disputes := r.disputes.filterMap fun d =>
      let ls := evaluators s e d.unit.toNat
      let m := (lanesOf d.minority.toNat).filter (ls.contains ·)
      if ls.isEmpty ∨ (m.isEmpty ∧ !d.allDiffer ∧ arrangement s ≠ 2) then none
      else some { d with minority := BitVec.ofNat 3 ((m.map (2 ^ ·)).sum) } }

/-- No majority in the arrangement (R171, R172, R173). -/
def noMajority (arr : Nat) (r : EvalReport) : Bool :=
  match arr with
  | 1 | 3 => decide (4096 < r.disputes.length) || r.disputes.any (·.allDiffer)
  | 4 => r.disputes.any (·.allDiffer)
  | 2 => decide (4096 < r.disputes.length) || r.disputes.any fun d => !d.retryAgrees
  | _ => false

/-- The lanes that failed the idle check: it is run by the third lane of COMPARED only (R170, Table 06-1). -/
def idleFailed (s : State) (r : EvalReport) : Nat :=
  if arrangement s = 1 then r.selfTestFail.toNat &&& 4 else 0

/-- A failed idle check is charged, and retires the lane at once (R170, R177). -/
def State.failIdle (s : State) (e failed : Nat) : State :=
  (lanesOf failed).foldl (fun acc l => acc.retireNext l 2 e) s

/-- Account for the report of an evaluated epoch: records, charges, retirement marks and the clean count
(R174 to R177). -/
def State.laneReport (s : State) (e : Nat) (r : EvalReport) : State :=
  let arr := arrangement s
  let minority := r.disputes.foldl (fun acc d => acc ||| d.minority.toNat) 0
  let charged := if arr = 2 then 0 else minority
  let failed := idleFailed s r
  let s1 := if r.disputes.isEmpty ∨ arr = 5 ∨ arr = 0 then s else
    let d0 : Dispute := r.disputes.headD default
    let body := le 4 e ++ le 1 minority ++ le 1 arr ++ le 4 r.disputes.length ++ le 4 d0.unit.toNat
    s.logNotifyAt 0x0030 body 0xC0F2 e (laneEvent s 1 minority)
  let s2 := (lanesOf (charged ||| failed)).foldl (fun acc l => acc.chargeLane e l) s1
  let s3 := s2.failIdle e failed
  let disputed := !r.disputes.isEmpty && decide (arr ≠ 5 ∧ arr ≠ 0)
  let clean := !disputed && decide (charged = 0 ∧ failed = 0) && !s3.lanes.trigger
  { s3 with
    lanes.clean := if clean then min 100 (s3.lanes.clean + 1) else 0
    lanes.trigger := s3.lanes.trigger || disputed || decide (failed ≠ 0) }

/-- An epoch without a majority: nothing is committed, the node withdraws and re-seeds; the lanes in the minority of the
units that were resolved or voted are charged (R171, R173, R174). -/
def State.laneNoMajority (s : State) (e : Nat) (r : EvalReport) : State :=
  let arr := arrangement s
  let d0 : Dispute := r.disputes.headD default
  let minority := r.disputes.foldl (fun acc d => acc ||| d.minority.toNat) 0
  let body := le 4 e ++ le 1 arr ++ zeros 1 ++ le 4 r.disputes.length ++ le 4 d0.unit.toNat
  let s1 := s.logNotifyAt 0x0032 body 0xC0F2 e (laneEvent s 2 minority)
  let failed := r.selfTestFail.toNat &&& laneMask s
  let idle := idleFailed s r
  let lost := (r.disputes.take (if arr = 4 then r.disputes.length else 4096)).foldl
    (fun acc d => if d.allDiffer then acc else acc ||| d.minority.toNat) 0
  let s2 := if arr ≠ 2 then ((lanesOf (lost ||| idle)).foldl (fun acc l => acc.chargeLane e l) s1).failIdle e idle
    else if failed = 0 then (lanesOf (laneMask s)).foldl (fun acc l => acc.chargeLane e l) s1
    else s1.failIdle e failed
  { s2 with lanes.clean := 0, lanes.trigger := true }

/-- Retirement takes effect at the boundary, a trigger of R28 (R177). -/
def State.applyRetirements (s : State) : State :=
  s.lanes.retiring.foldl (fun (acc : State) x =>
    let m := laneMask acc - 2 ^ x.1
    let a1 := { acc with lanes.inService := BitVec.ofNat 3 m, lanes.trigger := true }
    let body := le 4 x.2.2 ++ le 1 x.1 ++ le 1 x.2.1 ++ le 1 (laneCount a1) ++ zeros 1 ++ chargeBytes a1 x.1
    a1.logNotify 0x0031 body 0xC0F2 (laneEvent a1 3 (2 ^ x.1)))
    { s with lanes.retiring := [] }

/-- Whether a profile runs at L with the lanes in service (R27, Table 06-2). -/
def profileAvailable (s : State) (p : Profile) : Bool :=
  p.accepts (epochLen s) && (decide (p ≠ .fast) || decide (laneCount s = 3))

/-- Milliseconds since the power cycle's start. -/
def msSince (s : State) (t : Nat) : Nat := (t - s.tm.cycleStart) / 1000

/-- First entry into SERVICE after a POWER_UP (R476). -/
def State.reachService (s : State) : State :=
  if s.pw.serviceReached then s
  else
    let ms := msSince s s.tm.now
    { s with pw.serviceReached := true, pw.startToService := ms }.log 0x0006
      (le 4 (epochField s) ++ le 4 (msSince s s.pw.guardAt) ++ le 4 ms)

/-- Enter GUARD; a change of profile that waited is in the configured profile (R29). -/
def State.enterGuard (s : State) : State :=
  let s1 := { s with lanes.clean := 0, lanes.trigger := false, lanes.next := none }
  (if s.op = .guard then s1 else { s1 with pw.guardAt := s.tm.now }).setOp .guard

/-- The epoch boundary for lanes and profiles: GUARD is entered by a member that comes from START, and on a trigger (R28, R176, R177, R179, R183). -/
def State.guardBoundary (s : State) : State :=
  let s1 := s.applyRetirements
  if !inReplica s1 then
    if s1.repl.member ∧ s1.op = .start then s1.enterGuard
    else { s1 with lanes.trigger := false, lanes.running := s1.lanes.next.getD s1.lanes.running, lanes.next := none }
  else if s1.lanes.trigger then s1.enterGuard
  else match s1.op with
    | .guard =>
      if 100 ≤ s1.lanes.clean ∧ profileAvailable s1 s1.lanes.profile then
        ({ s1 with lanes.running := s1.lanes.profile }.setOp .service).reachService
      else s1
    | _ => match s1.lanes.next with
      | some p => { s1 with lanes.running := p, lanes.next := none }
      | none => s1

end Sys2Proof.Machine
end

