-- ==== Sys2Proof/Machine/Recorder.lean ====
section
/-! DEFINITION. The event recorder (chapter 14): the five dies with rotating parity, areas and blocks, records,
folding, freezing, witness copies, reading, and the REC opcodes. -/

namespace Sys2Proof.Machine

/-! ## Dies and parity (R399, R400, R424) -/

def stripe (w : Nat) : Nat := w / 4
def parityDie (w : Nat) : Nat := stripe w % 5
/-- Die holding a data position of a stripe. -/
def dataDie (st k : Nat) : Nat := if k < st % 5 then k else k + 1
def wordDie (w : Nat) : Nat := dataDie (stripe w) (w % 4)

def Recorder.dieWord (r : Recorder) (d st : Nat) : Nat := leNat ((nth r.dies d).readBytes (4 * st) 4)

def Recorder.setDieWord (r : Recorder) (d st v : Nat) : Recorder :=
  if nth r.lost d then r
  else { r with dies := upd r.dies d fun m => m.writeBytes (4 * st) (le 4 v) }

/-- The exclusive OR of a stripe's words on every die but one. -/
def Recorder.others (r : Recorder) (d st : Nat) : Nat :=
  ((List.range 5).filter (· != d)).foldl (fun acc e => acc ^^^ r.dieWord e st) 0

/-- Logical word `w`, rebuilt from the other four dies when its die is lost or is `avoid` (R402, R424). -/
def Recorder.word (r : Recorder) (avoid : Option Nat) (w : Nat) : Nat :=
  let d := wordDie w
  if nth r.lost d || avoid == some d then r.others d (stripe w) else r.dieWord d (stripe w)

/-- Write one logical word: data word, then parity from the intended data (R400, R424). -/
def Recorder.setWord (r : Recorder) (w v : Nat) : Recorder :=
  let st := stripe w
  let par := ((List.range 4).filter (· != w % 4)).foldl (fun acc k => acc ^^^ r.word none (4 * st + k)) v
  (r.setDieWord (wordDie w) st v).setDieWord (parityDie w) st par

/-- A byte of the logical space. -/
def Recorder.byte (r : Recorder) (avoid : Option Nat) (a : Nat) : Byte :=
  BitVec.ofNat 8 (r.word avoid (a / 4) / 256 ^ (a % 4))

/-- `n` logical bytes. -/
def Recorder.bytes (r : Recorder) (avoid : Option Nat) (a n : Nat) : Bytes :=
  (List.range n).map fun i => r.byte avoid (a + i)

/-- Write bytes word by word, keeping the bytes of a word that are not written. -/
def Recorder.setBytes (r : Recorder) (a : Nat) : Bytes → Recorder
  | [] => r
  | b :: bs =>
    let old := r.word none (a / 4)
    let sh := 256 ^ (a % 4)
    let v := old - old / sh % 256 * sh + b.toNat * sh
    (r.setWord (a / 4) v).setBytes (a + 1) bs

/-! ## Areas (R403 to R405, Table 14-1) -/

/-- The four areas by partition code. -/
inductive AreaId where
  | own | wit (side : Nat) | gasp
  deriving DecidableEq, Repr, Inhabited

def AreaId.ofCode : Nat → AreaId
  | 0 => .own | 1 => .wit 0 | 2 => .wit 1 | _ => .gasp

def AreaId.base : AreaId → Nat
  | .own => 0 | .wit side => 0x03C00000 + 0x200000 * side | .gasp => 0x10000

def AreaId.blocks : AreaId → Nat
  | .own => 960 | .wit _ => 32 | .gasp => 3

def Recorder.area (r : Recorder) : AreaId → Area
  | .own => r.own | .wit side => nth r.wit side | .gasp => r.gaspArea

def Recorder.setArea (r : Recorder) (i : AreaId) (a : Area) : Recorder :=
  match i with
  | .own => { r with own := a }
  | .wit side => { r with wit := upd r.wit side fun _ => a }
  | .gasp => { r with gaspArea := a }

/-- Read bytes of an area; the last-gasp log lies in its own store. -/
def Recorder.read (r : Recorder) (i : AreaId) (avoid : Option Nat) (a n : Nat) : Bytes :=
  match i with
  | .gasp => r.gasp.readBytes a n
  | _ => r.bytes avoid a n

def Recorder.writeArea (r : Recorder) (i : AreaId) (a : Nat) (bs : Bytes) : Recorder :=
  match i with
  | .gasp => { r with gasp := r.gasp.writeBytes a bs }
  | _ => r.setBytes a bs

def blockOf (i : AreaId) (a : Nat) : Nat := (a - i.base) / 65536
def blockStart (i : AreaId) (b : Nat) : Nat := i.base + 65536 * (b % i.blocks) + 16

/-- The next generation, 0xFFFF_FFFF skipped (R404). -/
def nextGen (g : Nat) : Nat := if g + 1 ≥ 0xFFFFFFFF then 0 else g + 1

/-- Zero every word of a block on every die in service; the block's stripes hold nothing else. -/
def Recorder.zeroBlock (r : Recorder) (i : AreaId) (b : Nat) : Recorder :=
  let a := i.base + 65536 * b
  match i with
  | .gasp => { r with gasp := r.gasp.clear a 65536 }
  | _ => { r with dies := r.dies.map fun m => m.clear (a / 4) 16384 }

/-- Prepare a block (R405): the oldest and floor cursors leave it, it is zeroed, and its header written. -/
def Recorder.prepare (r : Recorder) (i : AreaId) (b powerCount : Nat) : Recorder :=
  let a := r.area i
  let g := nextGen a.gen
  let held := (look a.counts b).getD 0 != 0
  let onward := blockStart i (b + 1)
  let a' : Area :=
    { a with
      gen := g
      oldest := if held && blockOf i a.oldest == b then onward else a.oldest
      floor := if held && blockOf i a.floor == b then onward else a.floor
      counts := put a.counts b 0
      gens := put a.gens b g
      ready := true }
  let hdr := le 4 g ++ le 4 (0xFFFFFFFF - g) ++ le 4 powerCount ++ zeros 4
  ((r.setArea i a').zeroBlock i b).writeArea i (i.base + 65536 * b) hdr

/-- Prepare the first block of an area that has none (R404: the metadata of a recorder never opened). -/
def Recorder.openArea (r : Recorder) (i : AreaId) (powerCount : Nat) : Recorder :=
  if (r.area i).gens.isEmpty then
    let r1 := r.prepare i 0 powerCount
    let p := blockStart i 0
    r1.setArea i { r1.area i with write := p, oldest := p, floor := p, ready := false }
  else r

/-- Where a record of a length goes, from the write position (R403). -/
def placeAt (i : AreaId) (write len : Nat) : Nat :=
  if 65536 < (write - i.base) % 65536 + len then blockStart i (blockOf i write + 1) else write

/-- The position after a record; a block filled to its end is left for the next (log entry 9, DEDUCED). -/
def after (i : AreaId) (pos len : Nat) : Nat :=
  if (pos - i.base) % 65536 + len = 65536 then blockStart i (blockOf i pos + 1) else pos + len

/-! ## Records (R406 to R408) -/

/-- The repeat word: count in the low half, its complement in the high half. -/
def repeatWord (n : Nat) : Nat := n % 65536 + 65536 * (65535 - n % 65536)

/-- A record's bytes (Table 14-2). -/
def recordBytes (type len op powerCount reps : Nat) (body : Bytes) : Bytes :=
  let head := le 2 len ++ le 2 type ++ le 6 op ++ le 4 powerCount
  let b := padTo (len - 26) body
  head ++ le 4 (repeatWord reps) ++ b ++ le 4 (crc32c (head ++ b)) ++ le 4 0x5A3CC3A5

/-- A record is valid (R406); `room` is what is left of its block. -/
def recordValid (b : Bytes) (room : Nat) : Bool :=
  let n := u16 b 0
  decide (28 ≤ n ∧ n ≤ 1024 ∧ n % 4 = 0 ∧ n ≤ room) && u32 b (n - 4) == 0x5A3CC3A5
    && u32 b (n - 8) == crc32c (sub b 0 14 ++ sub b 18 (n - 26))
    && decide (u16 b 14 + u16 b 16 = 65535)

/-- Write a record at the write position of an area and move the cursor (R405, R407). -/
def Recorder.append (r : Recorder) (i : AreaId) (powerCount : Nat) (bs : Bytes) : Recorder :=
  let a := r.area i
  let pos := placeAt i a.write bs.length
  let moved := decide (blockOf i pos ≠ blockOf i a.write)
  let r1 := if moved && !a.ready then r.prepare i (blockOf i pos) powerCount else r
  let r2 := r1.writeArea i pos bs
  let a2 := r2.area i
  let nxt := after i pos bs.length
  let leftBlock := decide (blockOf i nxt ≠ blockOf i pos)
  let a3 : Area :=
    { a2 with
      write := nxt
      newest := some pos
      counts := put a2.counts (blockOf i pos) ((look a2.counts (blockOf i pos)).getD 0 + 1)
      ready := a2.ready && !moved && !leftBlock }
  let r3 := r2.setArea i a3
  if !a3.ready && decide (32768 < (nxt - i.base) % 65536) then
    r3.prepare i ((blockOf i nxt + 1) % i.blocks) powerCount
  else r3

/-- Whether a record folds into the newest of the own log (R408). -/
def foldsInto (newest : Bytes) (type len powerCount : Nat) (body : Bytes) : Bool :=
  u16 newest 2 == type && u16 newest 0 == len
    && decide (sub newest 22 (len - 30) = sub body 4 (len - 30))
    && !classA type body && !classA (u16 newest 2) (sub newest 18 (len - 26))
    && u32 newest 10 == powerCount && decide (u16 newest 14 < 65535)

/-! ## Committing (R407, R408, R413, R420, R425) -/

/-- Split a record for WITNESS frames, 232 B a part (Table 09-10). -/
def witnessParts (num : Nat) (bs : Bytes) : List Bytes :=
  let n := ceilDiv bs.length 232
  (List.range n).map fun i =>
    le 1 1 ++ le 1 i ++ le 1 n ++ zeros 1 ++ le 4 num ++ (bs.drop (232 * i)).take 232

/-- The nearest member of M(E) in a ring direction of the segment (R272). -/
def nearestMember (s : State) (side : Nat) : Option Nat :=
  (beyond s side).find? fun n => n ∈ s.repl.rep.members

/-- Send a WITNESS frame, or let it wait behind what waits for a descriptor of Q21 (R273). -/
def State.sendWitness (s : State) (dest : Nat) (body : Bytes) : State :=
  if s.rcd.witWait.isEmpty && s.repl.outActs.isEmpty && decide (outUsed s 1 < 256) then s.originate 0x12 dest body
  else { s with rcd.witWait := s.rcd.witWait ++ [(s.repl.outActs.length, dest, body)] }

def State.sendParts (s : State) (dest : Nat) (parts : List Bytes) : State :=
  parts.foldl (fun acc b => acc.sendWitness dest b) s

/-- Send a committed class-A record to the two ring neighbours, or keep it until the node is a member (R272,
R413). -/
def State.witness (s : State) (bs : Bytes) : State :=
  if s.repl.member then
    let h0 := nearestMember s 0
    let h1 := nearestMember s 1
    match h0, h1 with
    | none, none => s
    | _, _ =>
      let hs := [h0, h1].filterMap id
      let parts := witnessParts s.rcd.witNum bs
      let s1 := hs.dedup.foldl (fun acc h => acc.sendParts h parts) s
      { s1 with
        rcd.witNum := (s.rcd.witNum + 1) % 0x100000000
        rcd.witOut := s1.rcd.witOut ++
          [{ num := s.rcd.witNum, bytes := bs, ack := [h0.isNone, h1.isNone],
             holder := [h0.getD 0xFFFF, h1.getD 0xFFFF], sent := s.tm.now, tries := 0 }] }
  else { s with rcd.witHeld := s.rcd.witHeld ++ [bs] }

/-- Place the notification of a record at its locator (R15, R46). -/
def State.noteOf (s : State) (r : QRec) (locator : Nat) : State :=
  match r.notif with
  | some (_, op, ep, body) => s.placeNotif { opcode := op, epoch := ep, locator := locator, body := body }
  | none => s

/-- The newest record's bytes of the own log. -/
def newestBytes (s : State) : Option (Nat × Bytes) :=
  s.rcd.own.newest.map fun a =>
    let n := u16 (s.rcd.bytes none a 2) 0
    (a, s.rcd.bytes none a n)

/-- Commit a record to the own log or fold it, and place its notification. -/
def State.commitOwn (s : State) (r : QRec) : State :=
  let fresh : State :=
    let bs := recordBytes r.type r.len r.op s.tm.powerCount r.rep r.body
    let pos := placeAt .own s.rcd.own.write r.len
    let s1 := { s with rcd := s.rcd.append .own s.tm.powerCount bs }
    let s2 := if classA r.type r.body then s1.witness bs else s1
    s2.noteOf r pos
  match newestBytes s with
  | some (a, nb) =>
    if foldsInto nb r.type r.len s.tm.powerCount r.body && decide (r.rep = 0) then
      let s1 := { s with rcd := s.rcd.setBytes (a + 14) (le 4 (repeatWord (u16 nb 14 + 1))) }
      s1.noteOf r a
    else fresh
  | none => fresh

/-- Whether a record folds into the newest staged record (R420). -/
def foldsStaged (last r : QRec) : Bool :=
  last.type == r.type && last.len == r.len && decide (last.body.drop 4 = r.body.drop 4)
    && !classA r.type r.body && !classA last.type last.body && decide (last.rep < 65535)

/-- Stage a record during a freeze (R420). -/
def State.stage (s : State) (f : Freeze) (r : QRec) : State :=
  match f.staged.getLast? with
  | some l =>
    if foldsStaged l r then
      let staged := f.staged.dropLast ++ [{ l with rep := l.rep + 1 }]
      let s1 := { s with rcd.freeze := some { f with staged } }
      -- the record folded into lies just before the cursor, or ends the block before it
      let stop := if f.cursor % 65536 = 16 then (if f.cursor = 16 then 960 * 65536 else f.cursor - 16) else f.cursor
      s1.noteOf r (stop - l.len)
    else place l.len
  | none => place 0
where
  place (_ : Nat) : State :=
    let bs := recordBytes r.type r.len r.op s.tm.powerCount 0 r.body
    if f.used + r.len ≤ 262144 then
      let pos := placeAt .own f.cursor r.len
      let f' := { f with staged := f.staged ++ [r], used := f.used + r.len, cursor := after .own pos r.len }
      let s1 := { s with rcd.freeze := some f' }
      (if classA r.type r.body then s1.witness bs else s1).noteOf r pos
    else
      let f' := { f with lost := f.lost + 1, lostBytes := f.lostBytes + r.len,
                         lostType := if f.lost = 0 then r.type else f.lostType }
      let s1 := { s with rcd.freeze := some f' }
      (if classA r.type r.body then s1.witness bs else s1).noteOf r 0xFFFFFFFF

/-- Commit one record for the own log, as the recorder's state has it (R420, R425); in WITNESS-ONLY the last-gasp log
takes class-A records, and WITNESS_UNFILED (R415). -/
def State.commitRec (s : State) (r : QRec) : State :=
  if s.rcd.witnessOnly then
    if classA r.type r.body ∨ r.type = 0x0408 then
      let bs := recordBytes r.type r.len r.op s.tm.powerCount 0 r.body
      let s1 := { s with rcd := (s.rcd.openArea .gasp s.tm.powerCount).append .gasp s.tm.powerCount bs }
      (if classA r.type r.body then s1.witness bs else s1).noteOf r 0xFFFFFFFF
    else s.noteOf r 0xFFFFFFFF
  else match s.rcd.freeze with
    | some f => s.stage f r
    | none => s.commitOwn r

/-- Send the acknowledgement of a witness record filed (R272, R414). -/
def State.ackWitness (s : State) (origin num : Nat) : State :=
  s.sendWitness origin (le 1 2 ++ zeros 3 ++ le 4 num)

/-- Commit what stands at the head of the queue. Pages are handed to Q28 by `render`. -/
def State.commitItem (s : State) (render : Pages → State → State) : QItem → State
  | .own r => s.commitRec r
  | .witness part origin inc num r =>
    if s.rcd.witnessOnly then s
    else
      let bs := recordBytes r.type r.len r.op s.tm.powerCount 0 r.body
      let i := AreaId.wit (part - 1)
      let s1 := { s with
        rcd := { (s.rcd.openArea i s.tm.powerCount).append i s.tm.powerCount bs with
                 filed := (origin, inc, num) :: s.rcd.filed } }
      s1.ackWitness origin num
  | .note _ op ep body => s.placeNotif { opcode := op, epoch := ep, locator := 0xFFFFFFFF, body := body }
  | .pages ps => render ps s

/-! ## Freezing (R420, R421) -/

/-- RECORDER_EVENT (R426). -/
def recorderEvent (event die value : Nat) : Bytes := le 1 event ++ le 1 die ++ zeros 2 ++ le 4 value

/-- End a freeze: staged records, OVERFLOW when any was lost, RECORDER_THAWED with the cause (R421). -/
def State.thaw (s : State) (cause : Nat) : State :=
  match s.rcd.freeze with
  | none => s
  | some f =>
    -- the class-A records among the staged were witnessed when staged
    let s0 := { s with rcd.freeze := none }
    let s1 := f.staged.foldl (fun (acc : State) r =>
      let bs := recordBytes r.type r.len r.op s.tm.powerCount r.rep r.body
      { acc with rcd := acc.rcd.append .own s.tm.powerCount bs }) s0
    let s2 := if f.lost = 0 then s1 else
      s1.commitRec (mkRec s1 0x0404 (le 4 f.lost ++ le 4 f.lostBytes ++ le 2 f.lostType)
        (some (0xC080, epochField s1, recorderEvent 6 0xFF f.lost)))
    s2.commitRec (mkRec s2 0x0406
      (le 1 cause ++ zeros 1 ++ le 4 f.staged.length ++ le 4 ((s.tm.now - f.start) / 1000))
      (some (0xC080, epochField s2, recorderEvent 4 0xFF f.staged.length)))

/-! ## Die loss (R401, R424, R425) -/

/-- Write errors of a die in the last 3,600 s of operating time. -/
def recentErrors (s : State) (d : Nat) : List Nat :=
  (nth s.rcd.errors d).filter fun t => decide (s.tm.op < t + 36000000)

def lostBody (s : State) (d reason : Nat) : Bytes :=
  le 4 (epochField s) ++ le 1 d ++ le 1 reason ++ le 1 (s.rcd.lost.count false) ++ zeros 1
    ++ le 2 (recentErrors s d).length

/-- Lose a die: the controller goes on degraded, or enters WITNESS-ONLY at the second (R424, R425). Its
record goes ahead of what waits in the queue. -/
def State.loseDie (s : State) (d reason : Nat) : State :=
  if nth s.rcd.lost d || s.rcd.witnessOnly then s
  else
    let s1 := { s with rcd.lost := upd s.rcd.lost d fun _ => true }
    if s1.rcd.witnessOnly then
      let staged := (s.rcd.freeze.map fun f => f.staged.length).getD 0
      let s2 := { s1 with rcd.freeze := none }
      let r := mkRec s2 0x0402 (lostBody s2 d reason ++ le 4 staged ++ zeros 2)
        (some (0xC080, epochField s2, recorderEvent 2 d staged))
      (s2.commitRec r).notify 0xC0F0 (le 1 s.op.code ++ le 1 s.op.code ++ le 1 1 ++ zeros 1)
    else
      s1.commitRec (mkRec s1 0x0401 (lostBody s1 d reason) (some (0xC080, epochField s1, recorderEvent 1 d 0)))

/-- Take the accesses of one write: errors and silent dies reported by the hardware, and the dies lost by
them (R401). -/
def State.dieHealth (s : State) (errs : List Nat) (silent : BitVec 5) : State :=
  let s1 := { s with
    rcd.errors := s.rcd.errors.zipIdx.map fun p =>
      if p.2 ∈ errs then (p.1 ++ List.replicate (errs.count p.2) s.tm.op) else p.1
    rcd.silent := s.rcd.silent.zipIdx.map fun p => if silent.toNat.testBit p.2 then p.1 + 1 else 0 }
  (List.range 5).foldl (fun acc d =>
    if 3 ≤ nth acc.rcd.silent d then acc.loseDie d 2
    else if 16 ≤ (recentErrors acc d).length then acc.loseDie d 3
    else acc) s1

/-- A word still wrong after its third write: the first word of the newest record on the die holds a free
value, its parity the intended one (R400). -/
def State.spoil (s : State) (d : Nat) : State :=
  match s.rcd.own.newest with
  | none => s
  | some a =>
    let n := u16 (s.rcd.bytes none a 2) 0
    match ((List.range (n / 4)).map (a / 4 + ·)).find? fun w => wordDie w == d with
    | none => s
    | some w =>
      let f := s.takeFree
      { f.2 with rcd := f.2.rcd.setDieWord d (stripe w) (f.1 % 0x100000000) }

/-! ## Reading (R402, R416 to R418) -/

/-- A record read through R402: as it stands, or with each die in turn rebuilt. -/
def readRecord (r : Recorder) (i : AreaId) (a : Nat) : Option Bytes :=
  let room := 65536 - (a - i.base) % 65536
  let tries : List (Option Nat) :=
    match i with
    | .gasp => [none]
    | _ => if r.lost.count true = 0 then none :: (List.range 5).map some else [none]
  tries.findSome? fun avoid =>
    let n := u16 (r.read i avoid a 2) 0
    let b := r.read i avoid a (min n 1024)
    if recordValid b room then some b else none

/-- Length at a position, 0 where nothing was written. -/
def lengthAt (r : Recorder) (i : AreaId) (a : Nat) : Nat := u16 (r.read i none a 2) 0

def genAt (r : Recorder) (i : AreaId) (a : Nat) : Nat := (look (r.area i).gens (blockOf i a)).getD 0

/-- The reading loop of R418: positions and records from `cur` up to the write cursor, in at most `room`
bytes. Answers the records, the position reached and whether an invalid record was found. -/
def readLoop (r : Recorder) (i : AreaId) (w : Nat) : Nat → Nat → Nat → List Bytes → List Bytes × Nat × Bool
  | 0, cur, _, acc => (acc.reverse, cur, false)
  | fuel + 1, cur, room, acc =>
    if cur = w then (acc.reverse, cur, false)
    else
      let off := (cur - i.base) % 65536
      let n := lengthAt r i cur
      if off < 16 || n == 0 || decide (65536 < off + n) then
        -- a cursor just past a block's end has offset 0 of the next block
        let nxt := if off = 0 then cur + 16 else blockStart i (blockOf i cur + 1)
        readLoop r i w fuel nxt room acc
      else match readRecord r i cur with
        | none => (acc.reverse, cur, true)
        | some b =>
          if room < b.length then (acc.reverse, cur, false)
          else readLoop r i w fuel (after i cur b.length) (room - b.length) (b :: acc)

/-- Record starts of a block, for judging whether an address is the start of a record (R416). -/
def startsFrom (r : Recorder) (i : AreaId) (target : Nat) : Nat → Nat → Bool
  | 0, _ => false
  | fuel + 1, a =>
    if a = target then true
    else
      let n := lengthAt r i a
      if n < 28 || decide (target < a) || decide (65536 < (a - i.base) % 65536 + n) then false
      else startsFrom r i target fuel (a + n)

/-- Order of cursors by generation (R404, R105) and address. -/
def cursorBefore (g1 a1 g2 a2 : Nat) : Bool :=
  if g1 = g2 then decide (a1 < a2) else atOrAfter32 g2 g1

/-- A cursor as read: special forms resolved to an address; `none` when it is none of the forms of R416. The
Bool says it is older than the oldest cursor. -/
def resolveCursor (r : Recorder) (i : AreaId) (g a : Nat) : Option (Nat × Nat × Bool) :=
  let ar := r.area i
  let oldGen := genAt r i ar.oldest
  let inArea := decide (i.base ≤ a ∧ a < i.base + 65536 * i.blocks)
  if g = 0xFFFFFFFF ∧ a = 0xFFFFFFFF then
    let f := if i = .gasp then ar.oldest else ar.floor
    some (genAt r i f, f, false)
  else if !inArea then none
  else
    let g' := if g = 0xFFFFFFFF then genAt r i a else g
    let blk := i.base + 65536 * blockOf i a
    let endOfBlock := decide ((a - i.base) % 65536 = 0 ∧ a ≠ i.base)
    let isStart := decide (a = ar.write) || startsFrom r i a 3000 (blk + 16)
    if genAt r i a == g' && isStart then some (g', a, cursorBefore g' a oldGen ar.oldest)
    else if endOfBlock && genAt r i (a - 1) == g' then some (g', a, false)
    else if cursorBefore g' a oldGen ar.oldest then some (g', a, true)
    else none

/-- Records from a position to the write cursor, by the blocks' counts (R419, R422). -/
def recordsFrom (r : Recorder) (i : AreaId) (start : Nat) : Nat :=
  let ar := r.area i
  let b0 := blockOf i start
  let b1 := blockOf i ar.write
  let n := if b0 ≤ b1 then b1 - b0 else i.blocks + b1 - b0
  let whole := ((List.range n).map fun k => (look ar.counts ((b0 + k) % i.blocks)).getD 0).sum
    + (look ar.counts b1).getD 0
  let before := (readLoop r i start 4000 (i.base + 65536 * b0 + 16) 65536 []).1.length
  if start = i.base + 65536 * b0 + 16 then whole else whole - before

/-! ## Opcodes -/

/-- REC.INFO reply (R419) without its status; also a block of the shadow bank. -/
def recInfoData (s : State) : Bytes :=
  let r := s.rcd
  let cur (i : AreaId) (a : Nat) := le 4 (genAt r i a) ++ le 4 a
  let st := if r.witnessOnly then 2 else if r.lost.count true = 0 then 0 else 1
  le 1 st ++ le 1 (flagBits [r.freeze.isSome]) ++ (r.lost.flatMap fun l => le 1 (if l then 1 else 0)) ++ zeros 3
    ++ cur .own r.own.write ++ cur .own r.own.oldest ++ cur .own r.own.floor
    ++ le 4 (recordsFrom r .own r.own.floor)
    ++ cur (.wit 0) (nth r.wit 0).write ++ cur (.wit 1) (nth r.wit 1).write
    ++ le 4 ((r.gaspArea.counts.map (·.2)).sum)
    ++ le 4 ((r.freeze.map fun f => f.used).getD 0) ++ le 4 ((r.freeze.map fun f => f.lost).getD 0)
    ++ le 4 ((r.freeze.map fun f => (f.until_ - s.tm.now) / 1000).getD 0)
    ++ ((List.range 5).flatMap fun d => le 2 (sat16 (recentErrors s d).length)) ++ zeros 2

def execRecInfo (c : Cmd) (s : State) : Out :=
  runOpcode 0x0801 c s fun s =>
    if c.payload.length ≠ 0 then refuse s Status.paramRange else { st := s, data := recInfoData s }

/-- REC.READ (R417, R418). -/
def execRecRead (c : Cmd) (s : State) : Out :=
  runOpcode 0x0802 c s fun s =>
    let p := c.payload
    let part := u8 p 0
    if p.length ≠ 12 || decide (3 < part) || !allZero p 1 3 then refuse s Status.paramRange
    else if part < 3 && s.rcd.witnessOnly then refuse s Status.recorderLost
    else
      let i := AreaId.ofCode part
      match resolveCursor s.rcd i (u32 p 4) (u32 p 8) with
      | none => refuse s Status.paramRange
      | some (g, a, old) =>
        let ar := s.rcd.area i
        let oldGen := genAt s.rcd i ar.oldest
        let a1 := if old then ar.oldest else a
        let skipped := if old then (oldGen + 0x100000000 - g) % 0x100000000 else 0
        let belowFloor := decide (i ≠ .gasp)
          && cursorBefore (genAt s.rcd i a1) a1 (genAt s.rcd i ar.floor) ar.floor
        let a2 := if belowFloor then ar.floor else a1
        let room := fillLimit s c - 28
        let (recs, nxt, bad) := readLoop s.rcd i ar.write 70000 a2 room []
        let flags := flagBits [old, belowFloor, s.rcd.freeze.isSome,
          decide (s.rcd.lost.count true = 1)]
        let data := le 1 flags ++ zeros 1 ++ le 2 recs.length ++ zeros 2
          ++ le 4 (genAt s.rcd i a2) ++ le 4 a2 ++ le 4 (genAt s.rcd i nxt) ++ le 4 nxt ++ le 4 skipped
          ++ recs.flatten
        { st := s, status := if bad then Status.internalFault else Status.ok, data
          flags := if nxt ≠ ar.write then 2 else 0 }

/-- REC.FREEZE (R420). -/
def execRecFreeze (c : Cmd) (s : State) : Out :=
  runOpcode 0x0840 c s fun s =>
    let p := c.payload
    let d := u16 p 0
    if p.length ≠ 4 || !allZero p 2 2 then refuse s Status.paramRange
    else if s.rcd.freeze.isSome then refuse s Status.frozen
    else if s.rcd.witnessOnly then refuse s Status.recorderLost
    else if d < 1 || decide (60 < d) then refuse s Status.paramRange
    else
      let f : Freeze := { until_ := s.tm.now + d * 1000000, start := s.tm.now, staged := [], used := 0, lost := 0,
                          lostBytes := 0, lostType := 0, cursor := s.rcd.own.write }
      let s1 := { s with rcd.freeze := some f }
      { st := s1.commitRec (mkRec s1 0x0405
          (le 2 d ++ le 2 c.origNode ++ le 1 c.origPort ++ zeros 1)
          (some (0xC080, epochField s1, recorderEvent 3 0xFF 0))) }

/-- REC.THAW (R421): OK whether or not a freeze runs. -/
def execRecThaw (c : Cmd) (s : State) : Out :=
  runOpcode 0x0841 c s fun s =>
    if c.payload.length ≠ 0 then refuse s Status.paramRange else { st := s.thaw 1 }

/-- TIME_ANCHOR (R412): fabric time with the system offset, offset epoch, master and map in force. -/
def anchorBody (s : State) : Bytes :=
  le 8 ((fabUs s).getD 0) ++ leInt 8 s.repl.rep.sysOffset ++ le 4 s.repl.rep.offsetEpoch
    ++ le 2 (s.fab.master.getD 0xFFFF)
    ++ (match s.tm.wallMap with
        | some (w, f) => leInt 8 w ++ le 8 f
        | none => le 8 0x8000000000000000 ++ zeros 8)

def State.anchor (s : State) : State :=
  if s.tm.fab.isSome then
    { s with tm.anchorDue := s.tm.op + 36000000 }.log 0x0306 (anchorBody s)
  else s

/-- REC.CLEAR (R422). The CLEARED record is written at once, as the next record of the partition. -/
def execRecClear (c : Cmd) (s : State) : Out :=
  runOpcode 0x0842 c s fun s =>
    let p := c.payload
    let part := u8 p 0
    if p.length ≠ 4 || !allZero p 1 3 then refuse s Status.paramRange
    else if s.rcd.freeze.isSome then refuse s Status.frozen
    else if s.rcd.witnessOnly then refuse s Status.recorderLost
    else if 2 < part then refuse s Status.paramRange
    else
      let i := AreaId.ofCode part
      let ar := s.rcd.area i
      let count := recordsFrom s.rcd i ar.floor
      let body := le 4 (epochField s) ++ le 4 count ++ le 2 c.origNode ++ le 1 c.origPort ++ zeros 1
        ++ le 4 (genAt s.rcd i ar.floor) ++ le 4 ar.floor
      let r := mkRec s 0x0403 body
      let bs := recordBytes r.type r.len r.op s.tm.powerCount 0 r.body
      let pos := placeAt i ar.write r.len
      let r1 := (s.rcd.openArea i s.tm.powerCount).append i s.tm.powerCount bs
      let s1 := { s with rcd := r1.setArea i { r1.area i with floor := pos } }
      let loc := if part = 0 then pos else 0xFFFFFFFF
      let s2 := s1.placeNotif { opcode := 0xC080, epoch := epochField s1, locator := loc,
                                body := recorderEvent 5 part count }
      { st := if part = 0 then s2.anchor else s2
        data := zeros 2 ++ le 4 count ++ le 4 (genAt r1 i pos) ++ le 4 pos }

/-- TIME.SET_WALLMAP (R412). -/
def execTimeSetWallmap (c : Cmd) (s : State) : Out :=
  runOpcode 0x0B40 c s fun s =>
    if c.payload.length ≠ 8 then refuse s Status.paramRange
    else match fabUs s with
      | none => refuse s Status.noFabricTime
      | some t =>
        let w := sint 8 (u64 c.payload 0)
        let prev := s.tm.wallMap.map fun m => m.1 + ((t : Int) - m.2)
        let dir := match prev with
          | some v => if w < v then 1 else 0
          | none => 0
        let body := leInt 8 w ++ le 8 t
          ++ (match prev with | some v => leInt 8 v | none => le 8 0x8000000000000000)
          ++ le 1 dir ++ le 1 c.origPort
        { st := { s with tm.wallMap := some (w, t) }.log 0x0305 body }

/-! ## Events of the recorder -/

/-- Commit the next queued record (R407), then place its notification. The hardware's report says which dies
had write errors and which did not answer. -/
def State.recordWrite (s : State) (render : Pages → State → State) (errs : List Nat) (silent : BitVec 5) : State :=
  if s.rcd.isOpen then
    match s.rcd.queue with
    | [] => s
    | i :: q =>
      let s1 := ({ s with rcd.queue := q }).commitItem render i
      let s2 := errs.foldl (fun acc d => acc.spoil d) s1
      s2.dieHealth errs silent
  else s

/-- Commit everything that waits, in order (R15). -/
def State.commitAll (s : State) (render : Pages → State → State) : State :=
  if s.rcd.isOpen then
    s.rcd.queue.foldl (fun acc i => acc.commitItem render i) { s with rcd.queue := [] }
  else s

/-- FREEZE_EXPIRY (R421): the freeze's duration has run. -/
def execFreezeExpiry (s : State) : Out :=
  .next (match s.rcd.freeze with
    | some f => if s.core = .running ∧ f.until_ ≤ s.tm.now then s.thaw 2 else s
    | none => s)

/-- OPERATING_TIME_PERSIST (R410, R231): every second, alternately into copies A and B, with fabric time. -/
def State.persistTime (s : State) : State :=
  let n := s.tm.persistSeq + 1
  let copy := some (s.tm.op, n, s.tm.powerCount)
  let s1 := if n % 2 = 1 then { s with tm.copyA := copy } else { s with tm.copyB := copy }
  { s1 with tm.persistSeq := n % 0x100000000, tm.persistDue := s.tm.now + 1000000
            tm.fabPersist := (fabUs s).getD s.tm.fabPersist }

def execOperatingTimePersist (s : State) : Out :=
  .next (if s.core = .running ∧ s.tm.persistDue ≤ s.tm.now then s.persistTime else s)

/-- TIME_ANCHOR every 3,600 s of operating time (R412). -/
def execTimeAnchor (s : State) : Out :=
  .next (if s.core = .running ∧ s.tm.anchorDue ≤ s.tm.op then s.anchor else s)

end Sys2Proof.Machine
end

