-- ==== Sys2Proof/Machine/Replication.lean ====
section
/-! DEFINITION. Replication at this node (chapter 09): publishing, input slots, seals, votes, absence, input
completeness, digests, relays after the call step, and the outcome of evaluating an epoch. -/

namespace Sys2Proof.Machine

/-! ## Publishing (R242 to R246, R248) -/

/-- Replace the pending entry of a tag (R245). -/
def setPending (l : List Upd) (u : Upd) : List Upd := (l.filter (·.tag != u.tag)) ++ [u]

/-- What an owner publishes of a result: one that does not fit the tag's type becomes a BAD quality with the value held
(R93): BAD_CONVERSION (log entry 77, DEDUCED). -/
def fitted (s : State) (tag : Nat) (q : BitVec 8) (v : Word) : BitVec 8 × Word :=
  let d := desc s tag
  let held := ((look s.repl.results tag).map (·.2)).getD 0
  if fitsType d.type v then (q, v)
  else (if isBad q then q else qConversion, if fitsType d.type held then held else 0)

/-- Remember a result and publish it when it differs from the last published (R242, R248). -/
def State.publishAs (s : State) (tag : Nat) (q : BitVec 8) (v : Word) : State :=
  let s1 := { s with repl.results := put s.repl.results tag (q, v) }
  match timeUs s with
  | none => s1
  | some t =>
    if (s.repl.member || decide (s.op = .island)) && decide (look s.repl.published tag ≠ some (q, v)) then
      { s1 with
        repl.pending := setPending s.repl.pending { tag, quality := q, value := v, stamp := t }
        repl.published := put s.repl.published tag (q, v) }
    else s1

/-- The owner's source produced a result: it is pending when it differs from the last published, stamped now
(R242); a node outside the replica only remembers it (R248). -/
def State.publish (s : State) (tag : Nat) (q : BitVec 8) (v : Word) : State :=
  let r := fitted s tag q v
  s.publishAs tag r.1 r.2

/-- Publish to every tag this node owns whose descriptor names a source (Table 04-2). -/
def State.publishSource (s : State) (kind ref : Nat) (q : BitVec 8) (v : Word) : State :=
  ((ownedTags s).filter fun t => (desc s t).srcKind == kind && (desc s t).srcRef == ref).foldl
    (fun acc t => acc.publish t q v) s

/-- A node diagnostic, source kind 0x04, quality GOOD (R466). -/
def State.diagnostic (s : State) (ref v : Nat) : State := s.publishSource 4 ref qGood (BitVec.ofNat 32 v)

/-- Republish every owned tag whose source has produced a result, in ascending index (R248). -/
def State.republishAll (s : State) : State :=
  match timeUs s with
  | none => s
  | some t =>
    let us := ((ownedTags s).filterMap fun i => (look s.repl.results i).map fun r =>
      let f := fitted s i r.1 r.2
      ({ tag := i, quality := f.1, value := f.2, stamp := t } : Upd))
    { s with
      repl.pending := us.foldl setPending s.repl.pending
      repl.published := us.foldl (fun acc u => put acc u.tag (u.quality, u.value)) s.repl.published
      repl.republish := false }

/-- Own counted frames of an epoch. -/
def ownCount (s : State) (e : Nat) : OwnCount :=
  (s.repl.own.find? (·.epoch == e)).getD { epoch := e, framed := 0, left0 := 0, left1 := 0, entries := 0 }

def State.setOwn (s : State) (o : OwnCount) : State :=
  { s with repl.own := o :: s.repl.own.filter (·.epoch != o.epoch) }

/-- Place a counted frame in its slot, or discard it as late or early (R260). While a transfer runs, every
frame for the epochs after E_r is kept (R267). -/
def State.placeCounted (s : State) (f : CFrame) : State :=
  let keep := { s with repl.frames := s.repl.frames ++ [f] }
  let byReq := match s.repl.req with
    | some r => decide (r.er < f.epoch)
    | none => false
  if byReq then keep
  else match s.repl.lastEval with
    | none => s
    | some x =>
      if f.epoch ≤ x then { s with repl.lateDiscards := sat32 (s.repl.lateDiscards + 1) }
      else if x + 8 < f.epoch then { s with repl.earlyDiscards := sat32 (s.repl.earlyDiscards + 1) }
      else keep

/-- Count a frame this node originated in E and put it in its own inputs. -/
def State.countOwn (s : State) (e seq n : Nat) (b : CBody) : State :=
  let o := ownCount s e
  (s.setOwn { o with framed := o.framed + 1, entries := o.entries + n, seqs := seq :: o.seqs }).placeCounted
    { epoch := e, origin := s.node, seq, body := b }

/-- A TAG_UPDATE entry (Table 09-1). -/
def Upd.bytes (u : Upd) : Bytes := le 4 (u.tag + u.quality.toNat * 0x40000) ++ le 4 u.value.toNat ++ le 8 u.stamp

/-- Pending entries in framing order: ascending stamp, then tag (R245). -/
def insertUpd (u : Upd) : List Upd → List Upd
  | [] => [u]
  | v :: vs => if u.stamp < v.stamp ∨ (u.stamp = v.stamp ∧ u.tag ≤ v.tag) then u :: v :: vs else v :: insertUpd u vs

def framingOrder (l : List Upd) : List Upd := l.foldl (fun acc u => insertUpd u acc) []

/-- Frame one TAG_UPDATE: up to 15 entries of one epoch, within the quota and while Q21 has a free descriptor
(R243 to R245). -/
def State.frameUpdates (s : State) : State :=
  match framingOrder s.repl.pending with
  | [] => s
  | u :: us =>
    let e := epochOf s u.stamp
    let room := (nodeEntry s s.node).quota - (ownCount s e).entries
    let batch := (u :: us.takeWhile fun v => epochOf s v.stamp == e).take (min 15 room)
    if batch.isEmpty || decide (256 ≤ outUsed s 1) then s
    else
      let seq := s.fab.frameSeq
      let s1 := s.originate 0x10 0xFFFF (batch.flatMap Upd.bytes)
      let s2 := { s1 with repl.pending := s1.repl.pending.filter fun v => !batch.contains v }
      s2.countOwn e seq batch.length (.updates batch)

/-- Frame every part of the oldest waiting action, when Q21 has room for all (R246, R273). -/
def State.frameAction (s : State) : State :=
  match s.repl.outActs with
  | [] => s
  | a :: rest =>
    let n := max 1 (ceilDiv a.payload.length 224)
    if 256 < outUsed s 1 + n then s
    else
      let e := epochOf s a.stamp
      let part (i : Nat) : Bytes := (a.payload.drop (224 * i)).take 224
      let s1 := { s with repl.outActs := rest, rcd.witWait := s.rcd.witWait.map fun w => (w.1 - 1, w.2) }
      (List.range n).foldl (fun (acc : State) i =>
        let body := le 8 a.stamp ++ le 2 a.opcode ++ le 2 a.number ++ le 1 i ++ le 1 n ++ le 1 a.port ++ zeros 1
          ++ part i
        let seq := acc.fab.frameSeq
        (acc.originate 0x11 0xFFFF body).countOwn e seq 0 (.part { a with payload := part i } i n)) s1

/-- The first of what waits for a descriptor of Q21 in the order produced (R273): a WITNESS frame before which no action
waits, or else the oldest action. -/
def State.frameNext (s : State) : State :=
  match s.rcd.witWait with
  | (0, dest, body) :: rest =>
    if 256 ≤ outUsed s 1 then s else { s with rcd.witWait := rest }.originate 0x12 dest body
  | _ => s.frameAction

/-- WITNESS frames that wait leave as descriptors free, up to the next waiting action (R273). -/
def State.frameWitness (s : State) : State :=
  (s.rcd.witWait.takeWhile fun w => w.1 == 0).foldl (fun (acc : State) _ => acc.frameNext) s

/-- TAG_UPDATE_FRAMING: frame what waits, actions and witness frames first, while there is room (R245, R246, R273). -/
def State.frameAll (s : State) : State :=
  let s0 := if s.repl.republish then s.republishAll else s
  let s1 := (List.range 256).foldl (fun acc _ => acc.frameNext) s0
  (List.range 256).foldl (fun acc _ => acc.frameUpdates) s1

/-- A member frames from its first epoch on, which it may begin in START (R269). -/
def framing (s : State) : Bool := s.repl.member && (inReplica s || decide (s.op = .start))

def execTagUpdateFraming (s : State) : Out :=
  .next (if s.core = .running ∧ framing s ∧ !s.pw.failing then s.frameAll else s)

/-- Re-stamp what is still pending from an ended epoch to the start of the next (R245, R246). -/
def State.restamp (s : State) (ended : Nat) : State :=
  let t := epochStart s (ended + 1)
  let stale := s.repl.pending.filter fun u => decide (epochOf s u.stamp ≤ ended)
  { s with
    repl.pending := s.repl.pending.map fun u => if epochOf s u.stamp ≤ ended then { u with stamp := t } else u
    repl.outActs := s.repl.outActs.map fun a => if epochOf s a.stamp ≤ ended then { a with stamp := t } else a
    repl.awaits := s.repl.awaits.map fun w =>
      if s.repl.outActs.any (fun a => a.number == w.number && decide (epochOf s a.stamp ≤ ended)) then
        { w with epoch := ended + 1 } else w
    repl.lateCarried := sat32 (s.repl.lateCarried + stale.length) }

/-! ## Operator actions of this node (R119, R126) -/

/-- Publish an acting command as an operator action stamped now. -/
def State.publishAction (s : State) (c : Cmd) (opcode : Nat) : State :=
  match fabUs s with
  | none => s.reply c opcode Status.notInReplica
  | some t =>
    let a : Action := { stamp := t, opcode, number := s.repl.actNumber, port := c.origPort, origin := s.node,
                        payload := c.payload }
    { s with
      repl.actNumber := (s.repl.actNumber + 1) % 0x10000
      repl.outActs := s.repl.outActs ++ [a]
      repl.awaits := s.repl.awaits ++
        [{ cmd := c, opcode, number := a.number, epoch := epochOf s t, sentAt := s.tm.now, pending := false }] }

/-- The 12-byte reply of R126. -/
def actionReply (e changed : Nat) (extra : Bytes) : Bytes := zeros 2 ++ le 4 e ++ le 4 changed ++ extra

/-- Reply to a waiting action, as a completion after ACCEPTED_PENDING. -/
def State.answer (s : State) (w : Await) (status changed : Nat) (extra : Bytes) : State :=
  let d := actionReply w.epoch changed extra
  if w.pending then s.complete w.cmd w.opcode status d else s.reply w.cmd w.opcode status d

/-- Every waiting action fails: the node leaves the replica (R126). -/
def State.failAwaits (s : State) : State :=
  s.repl.awaits.foldl (fun (acc : State) w => acc.answer w Status.internalFault 0xFFFFFFFF [])
    { s with repl.awaits := [], repl.outActs := [], rcd.witWait := s.rcd.witWait.map fun w => (0, w.2) }

/-- Answer the actions of this node that epoch E decided. -/
def State.answerAll (s : State) (e : Nat) (rs : List ActResult) : State :=
  let due := s.repl.awaits.filter fun w => decide (w.epoch ≤ e)
  due.foldl (fun (acc : State) w =>
    match rs.find? fun r => r.origin == s.node && r.number == w.number with
    | some r => acc.answer w r.status r.changed r.extra
    | none => acc.answer w Status.internalFault 0xFFFFFFFF [])
    { s with repl.awaits := s.repl.awaits.filter fun w => decide (e < w.epoch) }

/-- Actions whose epoch the node received by re-seed complete as OK, changed count unknown (R126). -/
def State.answerReseeded (s : State) (e : Nat) : State :=
  let due := s.repl.awaits.filter fun w => decide (w.epoch ≤ e)
  due.foldl (fun (acc : State) w => acc.answer w Status.ok 0xFFFFFFFF [])
    { s with repl.awaits := s.repl.awaits.filter fun w => decide (e < w.epoch) }

/-- ALARM_ACTION_PENDING: no evaluation within 400 ms of publishing (R126). -/
def execAlarmActionPending (s : State) : Out :=
  .next (
    if s.core = .running then
      let due (w : Await) : Bool := !w.pending && decide (w.sentAt + 400000 ≤ s.tm.now)
      (s.repl.awaits.filter due).foldl (fun (acc : State) w => acc.reply w.cmd w.opcode Status.acceptedPending)
        { s with repl.awaits := s.repl.awaits.map fun w => if due w then { w with pending := true } else w }
    else s)

/-! ## Leaving and re-seeding (R252, R258, R265, R270) -/

/-- A test ends at once with result 2 where the node ceases to be caller (R205); R203 has the relay again. -/
def State.endTests (s : State) (e : Nat) : State :=
  let s1 := (List.range 2).foldl (fun (acc : State) r =>
    if (nth s.repl.relays r).testEnd.isSome then acc.log 0x0115 (le 4 e ++ le 1 (r + 1) ++ le 1 2 ++ zeros 4) else acc) s
  { s1 with repl.relays := s.repl.relays.map fun r =>
      if r.testEnd.isSome then { r with on := r.driven, testEnd := none, testBad := false } else r }

/-- Both relays de-energised (R203). A running test ends with result 2 (R205). -/
def State.dropRelays (s : State) : State :=
  let s1 := s.endTests (epochField s)
  { s1 with
    repl.relays := s1.repl.relays.map fun r => { r with on := false, driven := false }
    repl.holdRelays := none, repl.wasCaller := false }

/-- Withdraw as caller, with the relays held as they stood: for two epochs, or while the place may be held when the node
was declared absent (R200). -/
def State.withdraw (s : State) (limit : Option Nat) : State :=
  if isCaller s then
    let s1 := s.endTests (epochField s)
    { s1 with repl.wasCaller := false, repl.holdRelays := some (s1.repl.relays.map (·.driven), limit) }
  else s

/-- Withdraw as caller and re-seed for a cause of R279; the node holds no evaluated state until it is caught up. -/
def State.startReseed (s : State) (cause : Nat) : State :=
  let s1 := s.withdraw (if cause = 5 then none else some (s.repl.cur + 1))
  { s1 with repl.reseed := some cause, repl.eligRun := 0, repl.searchDue := s.tm.now, repl.retryAt := s.tm.now
            lanes.trigger := true }

/-- Leave the replica for another operating state; in START the join steps begin again. Of the last seal the
eligibility bit stays to be read (R207). -/
def State.leaveTo (s : State) (o : OpState) : State :=
  let s1 := s.failAwaits.dropRelays
  { s1 with
    repl.member := false, repl.lastEval := none, repl.req := none, repl.reseed := none, repl.departing := false
    repl.frames := [], repl.seals := [], repl.aggs := [], repl.votes := [], repl.pending := [], repl.heldOut := []
    repl.eligRun := 0, repl.digestOk := none, repl.digestDue := none, repl.digests := []
    repl.sealed := none, repl.sealFlags := s1.repl.sealFlags &&& 1, repl.joinOf := []
    repl.searchDue := s.tm.now, repl.retryAt := s.tm.now
    fab.stepped := s.fab.stepped && decide (s.fab.outOfTol ≠ 10), fab.outOfTol := 0
    pw.step := if o = OpState.start then 7 else s.pw.step }.setOp o

/-- Leave the replica and return to START's join steps. -/
def State.leaveReplica (s : State) : State := s.leaveTo .start

/-- MEMBERSHIP_FAULT (R279). -/
def State.membershipFault (s : State) (e fault n : Nat) : State :=
  s.logNotifyAt 0x0316 (le 4 e ++ le 1 fault ++ zeros 1 ++ le 2 n) 0xC0F5 e
    (memberEvent (if fault = 1 then 4 else 8) n e)

/-! ## Seals, votes and absence (R249 to R257) -/

def sealOf (s : State) (e n : Nat) : Option SealIn := s.repl.seals.find? fun x => x.epoch == e && x.node == n

def aggsOf (s : State) (e seg : Nat) : List AggIn := s.repl.aggs.filter fun x => x.epoch == e && x.seg == seg

/-- Members beyond a segment port of any node of the segment, nearest first. -/
def beyondFrom (s : State) (n port : Nat) : List Nat :=
  if port = 0 then ringOf s n else (ringOf s n).reverse

/-- Segments beyond a trunk port of a bridge. -/
def trunkFrom (s : State) (n port : Nat) : List Nat :=
  let w := trunkWalk s n 63 n
  if port = 2 then w else w.reverse

/-- M(E) as the node has it: of an epoch of its history, or of the next epoch to evaluate. -/
def membersOf (s : State) (e : Nat) : List Nat :=
  match s.repl.rep.absents.find? (·.1 == e) with
  | some h => h.2.1
  | none => s.repl.rep.members

/-- Members a segment vote covers: the run of members of M(E) beyond the voter's port (R255). -/
def coveredBy (s : State) (v : Vote) : List Nat :=
  ((beyondFrom s v.voter v.port).filter fun n => decide (n ∈ membersOf s v.epoch)).take v.run

/-- A member of the own segment is absent in E by two covering votes (R256). -/
def votedAbsent (s : State) (e m : Nat) : Bool :=
  let vs := s.repl.votes.filter fun v => v.epoch == e && v.kind == 1
  vs.any (fun v => v.port == 0 && (coveredBy s v).contains m)
    && vs.any (fun v => v.port == 1 && (coveredBy s v).contains m)

/-- Segments with a member of M(E), in trunk order beyond a bridge's port. -/
def livingSegs (s : State) (e n port : Nat) : List Nat :=
  (trunkFrom s n port).filter fun g => (membersOf s e).any fun m => segOf m == g

/-- Segments a trunk vote covers (R257). -/
def coveredSegs (s : State) (v : Vote) : List Nat := (livingSegs s v.epoch v.voter v.port).take v.run

/-- A segment is cut off in E (R257): on each trunk ring with a bridge of it, covered from both sides. -/
def cutOff (s : State) (e seg : Nat) : Bool :=
  let bridges := (usedNodes s).filter fun n => segOf n == seg && (nodeEntry s n).role != 0
  let vs := s.repl.votes.filter fun v => v.epoch == e && v.kind == 3
  let covers (v : Vote) : Bool := (coveredSegs s v).contains seg
  !bridges.isEmpty && bridges.all fun b =>
    let ring := vs.filter fun v => (nodeEntry s v.voter).role == (nodeEntry s b).role
    ring.any (fun v => v.port == 2 && covers v) && ring.any (fun v => v.port == 3 && covers v)

/-- The own seal of E left neither segment port and no longer can: 50 µs have passed since the end of E and none waits
on Q20 (R247, R254). -/
def ownSilent (s : State) (e : Nat) : Bool :=
  let waits := match s.repl.sealed with
    | some (e', _, f) => e' == e && (nth s.fab.out 0).any fun t => decide (t.frame = f)
    | none => false
  decide (epochStart s (e + 1) + 50 < (fabUs s).getD 0) && !(ownCount s e).sealLeft && !waits

/-- A seal of E that counts as sealed: the own one once it has left on a segment port (R254). -/
def sealHeld (s : State) (e m : Nat) : Option SealIn :=
  if m = s.node ∧ (ownCount s e).sealLeft = false then none else sealOf s e m

/-- Members of M(E) declared absent in E (R252, R254, R256, R257), E the next epoch to evaluate. -/
def declaredAbsent (s : State) (e : Nat) : List Nat :=
  s.repl.rep.members.filter fun m =>
    if segOf m = segOf s.node then
      votedAbsent s e m || (decide (m = s.node) && ownSilent s e) || cutOff s e (segOf m)
    else
      cutOff s e (segOf m) || (aggsOf s e (segOf m)).any fun a => a.absent.toNat.testBit (posOf m)

/-- Flags and counted frames with which a member sealed E, when that is held. -/
def sealedAs (s : State) (e m : Nat) : Option (Nat × Nat) :=
  if segOf m = segOf s.node then (sealHeld s e m).map fun x => (x.flags.toNat, x.counted)
  else ((aggsOf s e (segOf m)).find? fun a => a.present.toNat.testBit (posOf m)).map fun a =>
    (flagBits [a.elig.toNat.testBit (posOf m), a.depart.toNat.testBit (posOf m), a.reseed.toNat.testBit (posOf m)],
     nth a.counted (posOf m))

/-- Two aggregates of a segment that differ (R251). -/
def aggsDiffer (s : State) (e seg : Nat) : Bool :=
  match aggsOf s e seg with
  | a :: rest => rest.any fun b => decide ({ b with bridge := a.bridge } ≠ a)
  | [] => false

/-- Counted frames of an origin held for E. -/
def heldCount (s : State) (e m : Nat) : Nat := s.repl.frames.countP fun f => f.epoch == e && f.origin == m

/-- What is missing of E (R253, R259, R261): 1 seal or absence, 2 counted frames, 3 aggregate, with the node or
segment, and the frames expected and held. -/
def missing (s : State) (e : Nat) : Option (Nat × Nat × Nat × Nat) :=
  let dec := declaredAbsent s e
  match (segments s).find? fun g => g != segOf s.node && aggsDiffer s e g with
  | some g => some (3, g, 0, 0)
  | none =>
    s.repl.rep.members.findSome? fun m =>
      if m ∈ dec then none
      else match sealedAs s e m with
        | none => if segOf m = segOf s.node then some (1, m, 0, 0) else some (3, segOf m, 0, 0)
        | some (_, n) => if heldCount s e m < n then some (2, m, n, heldCount s e m) else none

/-- Members whose seal of E carries a flag. -/
def flagged (s : State) (e bit : Nat) : List Nat :=
  let dec := declaredAbsent s e
  s.repl.rep.members.filter fun m => !decide (m ∈ dec) && (match sealedAs s e m with
    | some (f, _) => f.testBit bit
    | none => false)

/-- The founding epochs carry no inputs (R478). -/
def foundingEpoch (s : State) (e : Nat) : Bool :=
  match s.repl.founding.ef with
  | some f => decide (e = f ∨ e = f + 1)
  | none => false

/-- The founding hold, E_F to E_F + 101 (R479). -/
def inHold (s : State) (e : Nat) : Bool :=
  match s.repl.founding.ef with
  | some f => decide (f ≤ e ∧ e ≤ f + 101)
  | none => false

/-- The inputs of E as held. -/
def epochIn (s : State) (e : Nat) : EpochIn :=
  if foundingEpoch s e then { e, hold := true }
  else
    { e, frames := s.repl.frames.filter (·.epoch == e), declared := declaredAbsent s e
      elig := flagged s e 0, departing := flagged s e 1, reseeding := flagged s e 2, hold := inHold s e }

/-! ## Relays (R200, R201, R203, R204) -/

/-- Relays the caller energises from the stages of E (R203). -/
def callDrive (s : State) : List Bool :=
  (List.range 2).map fun r =>
    let m := relayMap s r
    s.repl.rep.call.areas.zipIdx.any fun p => m.1.testBit p.2 && decide (m.2 ≤ p.1.stage)
      && (areaCfg s p.2).used

def setRelays (s : State) (on : List Bool) : State :=
  { s with repl.relays := s.repl.relays.zipIdx.map fun p =>
      { p.1 with on := nth on p.2 || p.1.testEnd.isSome, driven := nth on p.2 } }

/-- Drive or withhold the relays after the call step of E (R200, R203). -/
def State.driveRelays (s : State) (e : Nat) (absent : Bool) : State :=
  let now := s.repl.relays.map (·.driven)
  if s.repl.rep.call.caller = some s.node then
    setRelays { s with repl.holdRelays := none, repl.wasCaller := true } (callDrive s)
  else
    let held : Option (List Bool × Option Nat) :=
      if s.repl.wasCaller then
        (if absent && s.repl.rep.call.caller.isNone then some (now, none) else some (now, some (e + 1)))
      else match s.repl.holdRelays with
        | some (st, some lim) => if e ≤ lim then some (st, some lim) else none
        | some (st, none) =>
          if s.repl.rep.call.caller.isSome then some (st, some (e + 1))
          else if absent && decide (3 ≤ s.repl.rep.absents.length)
              && s.repl.rep.absents.all (fun h => absentIn h s.node) then none
          else some (st, none)
        | none => none
    let s1 := s.endTests e
    match held with
    | some (st, lim) => setRelays { s1 with repl.holdRelays := some (st, lim), repl.wasCaller := false } st
    | none => setRelays { s1 with repl.holdRelays := none, repl.wasCaller := false } [false, false]

/-- A coil reading in µA: 0 good, 1 open, 2 short (R204); the sense current of a released coil is 2.0 ± 0.2 mA
(Table 22-11; log entry 16, DEDUCED). -/
def coilReading (on : Bool) (ua : Nat) : Nat :=
  if on then (if ua < 15000 then 1 else if 45000 < ua then 2 else 0)
  else (if ua < 1800 then 1 else if 2200 < ua then 2 else 0)

/-- Supervise one coil: three readings in a row make a fault, 100 good ones clear it (R204). -/
def State.coilStep (s : State) (e r ua : Nat) : State :=
  let x := nth s.repl.relays r
  let k := coilReading x.on ua
  let bad := if k = 0 then 0 else min 3 (x.bad + 1)
  let good := if k = 0 then min 100 (x.good + 1) else 0
  let s1 := { s with repl.relays := upd s.repl.relays r fun y =>
    { y with bad, good, testBad := y.testBad || (y.testEnd.isSome && (decide (y.fault ≠ 0) || decide (bad = 3))) } }
  let event (f : Nat) : State :=
    let b := le 1 (r + 1) ++ le 1 f ++ zeros 2 ++ le 4 (sat32 ua) ++ zeros 2
    { s1 with repl.relays := upd s1.repl.relays r fun y => { y with fault := f } }.logNotifyAt 0x0114
      (le 4 e ++ b) 0xC015 e b
  if x.fault = 0 ∧ bad = 3 then event k
  else if x.fault ≠ 0 ∧ good = 100 then event 0
  else s1

/-! ## Snapshots missed (R276) -/

/-- A node absent in a target epoch has no bank for it. -/
def State.missSnapshots (s : State) (e : Nat) : State :=
  s.repl.rep.snap.slots.zipIdx.foldl (fun (acc : State) p =>
    if p.1.1 ≠ 0 ∧ p.1.2.1 = e % 0x100000000 then
      { acc with repl.banks := upd acc.repl.banks p.2 fun _ => { id := p.1.1, target := p.1.2.1, bytes := [], absent := true } }
    else acc) s

/-- Snapshots of the epochs up to E_r that a requester did not latch (R277). -/
def State.missEarlier (s : State) (er : Nat) : State :=
  s.repl.rep.snap.slots.zipIdx.foldl (fun (acc : State) p =>
    let b : Bank := nth acc.repl.banks p.2
    if p.1.1 ≠ 0 ∧ atOrAfter32 er p.1.2.1 = true ∧ ¬ (b.id = p.1.1 ∧ b.target = p.1.2.1) then
      { acc with repl.banks := upd acc.repl.banks p.2 fun _ => { id := p.1.1, target := p.1.2.1, bytes := [], absent := true } }
    else acc) s

/-! ## Eligibility (R197, R204, R531) -/

def eligibleNow (s : State) : Bool :=
  inReplica s && decide (2 ≤ laneCount s) && decide (s.repl.digestOk ≠ some false) && s.repl.reseed.isNone
    && (List.range 2).all (fun r => (nth s.repl.relays r).fault == 0 || (relayMap s r).1 == 0)
    && s.inj.all Option.isNone && (callerList s).contains s.node

/-- ELIGIBLE in the next seal. -/
def eligibleBit (s : State) : Bool :=
  eligibleNow s && decide (500 ≤ s.repl.eligRun) && s.pw.prepareOff.isNone

/-! ## Output of an epoch (R15, R166, R180) -/

/-- Alarm transitions among items. -/
def transCount (its : List QItem) : Nat :=
  its.countP fun i => match i with
    | .own r => r.type == 0x0100
    | _ => false

/-- LANE_OUTPUT_DISCARDED and the re-seed that follows (R180). -/
def State.discardHeld (s : State) (cause : Nat) : State :=
  let first := ((s.repl.heldOut.head?).map (·.epoch)).getD 0xFFFFFFFF
  let last := ((s.repl.heldOut.getLast?).map (·.epoch)).getD 0xFFFFFFFF
  let n := (s.repl.heldOut.map (·.trans)).sum
  let s1 := { s with repl.heldOut := [], repl.emitted := s.repl.released }
  (s1.logNotify 0x0033 (le 4 first ++ le 4 last ++ le 4 n) 0xC0F2 (laneEvent s1 4 0)).startReseed cause

/-- Release held output of epochs up to `e` (R180). -/
def State.releaseHeld (s : State) (e : Nat) (render : Pages → State → State) : State :=
  let out := s.repl.heldOut.filter fun h => decide (h.epoch ≤ e)
  let s1 := { s with
    repl.heldOut := s.repl.heldOut.filter fun h => decide (e < h.epoch)
    repl.released := ((out.getLast?).map (·.codes)).getD s.repl.released }
  ((out.flatMap (·.items)).foldl (fun (acc : State) i => acc.enqueue i) s1).commitAll render

/-- Emit the items of E: at once, or held by a one-lane node outside ISLAND. -/
def State.emit (s : State) (e : Nat) (its : List QItem) (render : Pages → State → State) : State :=
  if laneCount s = 1 ∧ s.op ≠ .island then
    let h : HeldEpoch := { epoch := e, trans := transCount its, items := its, codes := s.repl.emitted, rep := s.repl.rep }
    let s1 := { s with repl.heldOut := s.repl.heldOut ++ [h] }
    if 4096 < (s1.repl.heldOut.map (·.trans)).sum then s1.discardHeld 6 else s1
  else
    let s1 := (its.foldl (fun (acc : State) i => acc.enqueue i) s).commitAll render
    { s1 with repl.released := s1.repl.emitted }

/-! ## Digests (R263, R264) -/

/-- Value held by the most, the lowest winning a tie. -/
def mostHeld (vs : List Nat) : Option Nat :=
  vs.foldl (fun acc v => match acc with
    | none => some v
    | some w =>
      if vs.count w < vs.count v ∨ (vs.count w = vs.count v ∧ v < w) then some v else some w) none

/-- After a digest epoch: compute and send the digest. -/
def State.sendDigest (s : State) (e : Nat) : State :=
  if digestEpoch s e && inReplica s then
    let d := digest s
    let s1 := s.originate 0x03 0xFFFF (le 4 e ++ zeros 4 ++ le 8 d)
    { s1 with repl.digests := s1.repl.digests ++ [(e, s.node, d)], repl.digestOf := membersOf s e
              repl.digestDue := some (e + ceilDiv 100000 (epochLen s)) }
  else s

/-- The comparison that falls due after evaluating E. -/
def State.compareDigest (s : State) (e : Nat) (render : Pages → State → State) : State :=
  if s.repl.digestDue = some e then
    let de := e - ceilDiv 100000 (epochLen s)
    let ds := s.repl.digests.filter fun d => d.1 == de && (decide (d.2.1 ∈ s.repl.digestOf) || d.2.1 == s.node)
    let own := (ds.find? (·.2.1 == s.node)).map (·.2.2)
    let ref := mostHeld (ds.map (·.2.2))
    let s1 := { s with repl.digestDue := none
                       repl.digests := s.repl.digests.filter fun d => decide (de ≤ d.1) }
    if own = ref then ({ s1 with repl.digestOk := some true }).releaseHeld de render
    else
      let n := ds.countP fun d => some d.2.2 == ref
      let body := le 4 de ++ le 8 (own.getD 0) ++ le 8 (ref.getD 0) ++ le 2 n ++ le 2 ds.length
      let s2 := { s1 with repl.digestOk := some false, repl.reference := some (de, ref.getD 0) }.logNotifyAt 0x0312
        body 0xC0F5 e (memberEvent 6 s.node de)
      if laneCount s = 1 then s2.discardHeld 1 else s2.startReseed 1
  else s

end Sys2Proof.Machine
end

