-- ==== Sys2Proof/Machine/AlarmCmds.lean ====
section
/-! DEFINITION. The TAG and ALARM opcodes (chapters 04 and 05). Reading commands read the evaluated state
(R127); acting commands are checked whole in the order of R120, then published (R119). -/

namespace Sys2Proof.Machine

/-! ## Reading tags (R128, R129) -/

/-- A tag entry (Table 04-13); an unused tag shows BAD_UNCONFIGURED. -/
def tagEntry (s : State) (t : Nat) : Bytes :=
  let d := desc s t
  if d.type = 0 then le 4 t ++ zeros 4 ++ le 1 qUnconfigured.toNat ++ zeros 11
  else
    let x := tagDyn s t
    le 4 t ++ le 4 x.value.toNat ++ le 1 x.quality.toNat ++ le 1 x.flags ++ le 1 d.type ++ zeros 1 ++ le 8 x.stamp

/-- Count, padding, length and reserved bits of a payload of entries (R122): `reserved` tells a bad entry. -/
def entriesOk (p : Bytes) (size maxCount : Nat) (reserved : Bytes → Bool) : Bool :=
  let n := u16 p 0
  decide (1 ≤ n ∧ n ≤ maxCount ∧ p.length = 4 + size * n) && allZero p 2 2
    && !(entries p size).any reserved

def execTagRead (c : Cmd) (s : State) : Out :=
  runOpcode 0x0201 c s fun s =>
    if !entriesOk c.payload 4 1019 (fun b => decide (0x40000 ≤ u32 b 0)) then refuse s Status.paramRange
    else
      let es := entries c.payload 4
      let k := min es.length (fit s c 8 20)
      { st := s
        data := zeros 2 ++ le 4 (evalField s) ++ (es.take k).flatMap fun b => tagEntry s (u32 b 0)
        flags := if k < es.length then 2 else 0 }

def execTagReadRange (c : Cmd) (s : State) : Out :=
  runOpcode 0x0202 c s fun s =>
    let a := u32 c.payload 0
    let n := u32 c.payload 4
    if c.payload.length ≠ 8 ∨ n = 0 ∨ 262144 < a + n then refuse s Status.paramRange
    else
      let k := min n (fit s c 12 20)
      { st := s
        data := zeros 2 ++ le 4 (evalField s) ++ le 4 (if k < n then a + k else 0xFFFFFFFF)
          ++ (List.range k).flatMap fun i => tagEntry s (a + i)
        flags := if k < n then 2 else 0 }

/-! ## Listing alarms, groups, bundles and edges (R130, R159 to R161) -/

/-- Entries of one tag that ALARM.LIST selects. -/
def listEntries (s : State) (states prios t : Nat) : List Bytes :=
  let d := desc s t
  let x := tagDyn s t
  (List.range 8).filterMap fun i =>
    let k : CondCfg := nth d.conds i
    let c : Cond := nth x.conds i
    if k.kind ≠ 0 ∧ states.testBit c.state.code ∧ prios.testBit k.priority then
      some (le 4 (t + i * 0x40000) ++ le 1 c.state.code ++ le 1 k.priority ++ le 1 x.quality.toNat ++ le 1 k.kind
        ++ le 4 x.value.toNat)
    else none

/-- Take whole tags' entries while they fit: the entries, and the first tag that did not fit. -/
def takeTags : List (Nat × List Bytes) → Nat → List Bytes → List Bytes × Option Nat
  | [], _, acc => (acc, none)
  | (t, es) :: rest, room, acc =>
    if room < es.length then (acc, some t) else takeTags rest (room - es.length) (acc ++ es)

def execAlarmList (c : Cmd) (s : State) : Out :=
  runOpcode 0x0301 c s fun s =>
    let p := c.payload
    let states := u16 p 4
    let prios := u8 p 6
    if p.length ≠ 8 ∨ states = 0 ∨ 255 < states ∨ prios = 0 ∨ prios % 2 = 1 ∨ 31 < prios ∨ u8 p 7 ≠ 0
        ∨ 262143 < u32 p 0 then refuse s Status.paramRange
    else
      let tags := ((usedTags s).filter fun t => decide (u32 p 0 ≤ t)).map fun t => (t, listEntries s states prios t)
      let r := takeTags tags (fit s c 16 12) []
      { st := s
        data := zeros 2 ++ le 4 (evalField s) ++ le 4 (r.2.getD 0xFFFFFFFF) ++ le 2 r.1.length ++ zeros 2
          ++ r.1.flatten
        flags := if r.2.isSome then 2 else 0 }

/-- The tags of a group with their descriptors and dynamic states. -/
def groupTags (s : State) (g : Nat) : List (Nat × Desc × TagDyn) :=
  ((usedTags s).map fun t => (t, desc s t, tagDyn s t)).filter fun x => x.2.1.group == g

/-- States and priorities of a group's conditions in the evaluated state (R137). -/
def groupNow (s : State) (g : Nat) : List (AlarmState × Nat) :=
  (groupTags s g).flatMap fun x =>
    ((List.range 8).filter fun i => (nth x.2.1.conds i).kind != 0).map fun i =>
      ((nth x.2.2.conds i).state, (nth x.2.1.conds i).priority)

/-- Episode indicator, age and head condition of a group (R159). -/
def episodeOf (s : State) (g : Nat) : Nat × Nat × Nat :=
  match (groupTags s g).find? fun x => x.2.2.role.isHead with
  | some x =>
    (if x.2.2.role = .headFlood then 2 else 1, x.2.2.age,
     match (List.range 8).find? fun i => (nth x.2.2.conds i).mark with
     | some i => x.1 + i * 0x40000
     | none => x.1)
  | none => (0, 0, 0xFFFFFFFF)

/-- An entry of ALARM.GROUP_LIST. -/
def groupEntry (s : State) (g : Nat) : Bytes :=
  let l := groupNow s g
  let ep := episodeOf s g
  le 2 g ++ le 1 (groupCode (l.map (·.1))) ++ le 1 (groupPriority l) ++ le 1 ep.1 ++ zeros 1 ++ le 2 ep.2.1
    ++ le 4 ep.2.2

def execAlarmGroupList (c : Cmd) (s : State) : Out :=
  runOpcode 0x0302 c s fun s =>
    let a := u16 c.payload 0
    let n := u16 c.payload 2
    if c.payload.length ≠ 4 ∨ n = 0 ∨ 4096 < a + n then refuse s Status.paramRange
    else
      let k := min n (fit s c 12 12)
      { st := s
        data := zeros 2 ++ le 4 (evalField s) ++ le 2 (if k < n then a + k else 0xFFFF) ++ le 2 k
          ++ (List.range k).flatMap fun i => groupEntry s (a + i)
        flags := if k < n then 2 else 0 }

def execAlarmBundle (c : Cmd) (s : State) : Out :=
  runOpcode 0x0303 c s fun s =>
    let g := u16 c.payload 0
    let a := u32 c.payload 4
    if c.payload.length ≠ 8 ∨ 4095 < g ∨ u16 c.payload 2 ≠ 0 ∨ 262143 < a then refuse s Status.paramRange
    else
      let ep := episodeOf s g
      let fs := if ep.1 = 0 then [] else
        ((groupTags s g).filter fun x => decide (x.2.2.role = .folded) && decide (a ≤ x.1)).map (·.1)
      let k := min fs.length (fit s c 24 4)
      { st := s
        data := zeros 2 ++ le 4 (evalField s) ++ le 4 ep.2.2 ++ le 1 ep.1 ++ zeros 1 ++ le 2 ep.2.1
          ++ le 4 (((fs.drop k).head?).getD 0xFFFFFFFF) ++ le 2 k ++ zeros 2 ++ (fs.take k).flatMap (le 4)
        flags := if k < fs.length then 2 else 0 }

def execAlarmEdges (c : Cmd) (s : State) : Out :=
  runOpcode 0x0304 c s fun s =>
    let t := u32 c.payload 0
    let a := u32 c.payload 4
    if c.payload.length ≠ 8 ∨ 262143 < t ∨ 1048575 < a then refuse s Status.paramRange
    else
      let es := (usedEdges s).filter fun x => decide (a ≤ x) && (edge s x).target == t
      let k := min es.length (fit s c 16 20)
      let act (x : Nat) : Nat := if s.repl.rep.active.contains x then 0x80000000 else 0
      { st := s
        data := zeros 2 ++ le 4 (evalField s) ++ le 4 (((es.drop k).head?).getD 0xFFFFFFFF) ++ le 2 k ++ zeros 2
          ++ (es.take k).flatMap fun x => le 4 (x + act x) ++ storeEdge s s.repl.rep x
        flags := if k < es.length then 2 else 0 }

/-! ## Acting commands (R119 to R126, R162) -/

/-- The operating states that execute a published acting command (R120). -/
def mayPublish (s : State) : Bool := inReplica s && s.tm.fab.isSome

/-- Run a published acting command: format, operating state, then the checks against replicated state; the
first failure is answered, else the command is published and answered after its epoch (R120, R126). -/
def runAction (opcode : Nat) (c : Cmd) (s : State) (format : Bytes → Bool) (check : State → Option Nat) : Out :=
  runSilent opcode c s fun s =>
    if !format c.payload then s.reply c opcode Status.paramRange
    else if !mayPublish s then s.reply c opcode Status.notInReplica
    else match check s with
      | some st => s.reply c opcode st
      | none => s.publishAction c opcode

def tagReserved (b : Bytes) : Bool := decide (0x40000 ≤ u32 b 0)
def maskReserved (b : Bytes) : Bool := decide (0x4000000 ≤ u32 b 0)
def shelveReserved (b : Bytes) : Bool := tagReserved b || decide (u32 b 4 < 60)
def groupReserved (b : Bytes) : Bool := decide (0x1000 ≤ u32 b 0)

/-- Some entry names a tag of type 0x00. -/
def unusedCheck (p : Bytes) (s : State) : Option Nat :=
  if (entries p 4).any fun b => (desc s (u32 b 0)).type == 0 then some Status.tagUnused else none

/-- The check of one ALARM.SHELVE entry against its tag (R124). -/
def shelveCheck1 (s : State) (b : Bytes) : Option Nat :=
  let d := desc s (u32 b 0)
  if d.type = 0 then some Status.tagUnused
  else if d.shelveLimit = 0 ∨ d.conds.any (fun k => k.kind != 0 && k.priority == 1) then some Status.shelveDenied
  else if d.shelveLimit * 60 < u32 b 4 then some Status.paramRange
  else none

def execAlarmAck (c : Cmd) (s : State) : Out :=
  runAction 0x0340 c s (fun p => entriesOk p 4 1019 maskReserved) fun _ => none

def execAlarmReset (c : Cmd) (s : State) : Out :=
  runAction 0x0345 c s (fun p => entriesOk p 4 1019 maskReserved) fun _ => none

def execAlarmShelve (c : Cmd) (s : State) : Out :=
  runAction 0x0341 c s (fun p => entriesOk p 8 509 shelveReserved) fun s =>
    (entries c.payload 8).findSome? (shelveCheck1 s)

def execAlarmUnshelve (c : Cmd) (s : State) : Out :=
  runAction 0x0342 c s (fun p => entriesOk p 4 1019 tagReserved) (unusedCheck c.payload)

def execAlarmSetOos (c : Cmd) (s : State) : Out :=
  runAction 0x0343 c s (fun p => entriesOk p 4 1019 tagReserved) (unusedCheck c.payload)

def execAlarmClearOos (c : Cmd) (s : State) : Out :=
  runAction 0x0344 c s (fun p => entriesOk p 4 1019 tagReserved) (unusedCheck c.payload)

def execAlarmAckBundle (c : Cmd) (s : State) : Out :=
  runAction 0x0346 c s (fun p => entriesOk p 4 1019 groupReserved) fun _ => none

end Sys2Proof.Machine
end

