-- ==== Sys2Proof/Machine/NodeCmds.lean ====
section
/-! DEFINITION. The NODE opcodes that observe, NODE.SUBSCRIBE and NODE.SET_PROFILE (chapters 02, 06, 16, 17 and
23). -/

namespace Sys2Proof.Machine

/-! ## NODE.IDENTIFY (R576) -/

def fuse (s : State) (w : Nat) : Word := nth s.sec.fuses w

/-- Integrator identifier (R80): copy 1, or all ones where the copies differ. -/
def integratorId (s : State) : Nat :=
  if fuse s 16 = fuse s 18 ∧ fuse s 17 = fuse s 19 then (fuse s 16).toNat + (fuse s 17).toNat * 0x100000000
  else 0xFFFFFFFFFFFFFFFF

def identifyData (s : State) : Bytes :=
  le 2 ((fuse s 22).toNat % 65536) ++ le 4 (fuse s 21).toNat ++ le 4 s.cfg.fwRelease ++ le 8 (integratorId s)
    ++ le 2 (if hasImage s then s.node else 0xFFFF) ++ le 1 (if s.sec.sealed then 1 else 0) ++ zeros 1
    ++ le 4 (if hasImage s then tableIdentity s else 0)

/-- An opcode without payload that returns data. -/
def runPlain (opcode : Nat) (c : Cmd) (s : State) (data : State → Bytes) : Out :=
  runOpcode opcode c s fun s =>
    if c.payload.length ≠ 0 then refuse s Status.paramRange else { st := s, data := data s }

def execNodeIdentify (c : Cmd) (s : State) : Out := runPlain 0x0101 c s identifyData

/-! ## Rings and subscriptions (R49 to R52, R69) -/

/-- Descriptors in use of each ring Q00 to Q31. -/
def ringsInUse (s : State) : List Nat :=
  s.ports.inRings.map List.length ++ s.ports.outRings.map (fun r => min 256 r.length)
    ++ (s.ports.notifs.take 4).map (fun r => r.items.length)
    ++ s.fab.out.map List.length ++ [0, 0, 0, 0]
    ++ [(s.disp.panels.map fun p => (if p.pending.isSome then 1 else 0) + (if p.clearAsked then 1 else 0)).sum,
        s.disp.panels.countP fun p => p.update.isSome, s.ana.q30.length]
    ++ ((s.ports.notifs.drop 4).take 1).map (fun r => r.items.length)

def ringStatusData (s : State) : Bytes :=
  let used := ringsInUse s
  (List.range 32).flatMap fun q =>
    le 2 (nth used q) ++ le 2 (max (nth s.ports.high q) (nth used q)) ++ le 4 (nth s.ports.drops q)

def execNodeRingStatus (c : Cmd) (s : State) : Out := runPlain 0x0104 c s ringStatusData

/-- The subscriptions of an originator. -/
def Subscription.isOf (u : Subscription) (port : Nat) (o : Originator) : Bool :=
  u.port == port && decide (u.orig = o)

/-- Positions after everything produced so far. -/
def readNow (s : State) : List Nat := s.ports.notifs.map fun r => r.first + r.items.length

/-- Replace the mask and restart the lease of a subscription; a ring newly included starts at `now`. -/
def Subscription.renew (u : Subscription) (m : BitVec 5) (stop : Nat) (now : List Nat) : Subscription :=
  { u with
    mask := m, leaseEnd := stop
    read := now.zipIdx.map fun p => if u.has p.2 then nth u.read p.2 else p.1 }

/-- NODE.SUBSCRIBE (R49, R50). A new subscriber, or a ring newly included, starts after what was produced
before; the notification count of a subscription goes on. -/
def execNodeSubscribe (c : Cmd) (s : State) : Out :=
  runOpcode 0x0103 c s fun s =>
    let mask := u16 c.payload 0
    let lease := u16 c.payload 2
    let mine (u : Subscription) : Bool := u.isOf c.port c.orig
    if c.payload.length ≠ 4 ∨ 2 < c.port then refuse s Status.paramRange
    else if mask = 0 then { st := { s with ports.subs := s.ports.subs.filter fun u => !mine u } }
    else if 31 < mask ∨ lease < 10 ∨ 600 < lease then refuse s Status.paramRange
    else
      let m := BitVec.ofNat 5 mask
      let stop := s.tm.now + lease * 1000000
      if s.ports.subs.any mine then
        let us := s.ports.subs.map fun u => if mine u then u.renew m stop (readNow s) else u
        { st := { s with ports.subs := us } }
      else if 8 ≤ s.ports.subs.length then refuse s Status.subscribersFull
      else
        let u : Subscription := { port := c.port, orig := c.orig, mask := m, leaseEnd := stop, count := 0, lost := 0,
                                  read := readNow s }
        { st := { s with ports.subs := s.ports.subs ++ [u] } }

/-! ## NODE.LANES and NODE.SET_PROFILE (R183, R185) -/

/-- Role of a lane in the arrangement (Table 06-4). -/
def laneRole (s : State) (l : Nat) : Nat :=
  if !s.lanes.inService.toNat.testBit l then 4
  else match arrangement s with
    | 1 => if l = 2 then 1 else 0
    | 2 => 0
    | 3 => 2
    | 4 => 3
    | 5 => 0
    | _ => 4

def lanesData (s : State) : Bytes :=
  zeros 2 ++ le 4 (epochField s) ++ le 1 (arrangement s) ++ le 1 (laneMask s) ++ le 2 s.lanes.clean
    ++ le 1 s.lanes.profile.code ++ le 1 s.op.code ++ zeros 2
    ++ (List.range 3).flatMap fun l =>
      le 1 (if s.lanes.inService.toNat.testBit l then 0 else 1) ++ le 1 (laneRole s l) ++ zeros 2
        ++ le 4 (nth s.lanes.charges l) ++ chargeBytes s l

def execNodeLanes (c : Cmd) (s : State) : Out := runPlain 0x0105 c s lanesData

/-- Record PROFILE_CHANGE (R186). -/
def State.profileRecord (s : State) (new old : Profile) (reason : Nat) : State :=
  s.log 0x0034 (le 4 (epochField s) ++ le 1 new.code ++ le 1 old.code ++ le 1 reason ++ zeros 1
    ++ le 4 (epochLen s))

/-- NODE.SET_PROFILE (R27, R29, R183). The configured profile is replaced at once; it runs from the next epoch boundary,
in GUARD from leaving it. -/
def execNodeSetProfile (c : Cmd) (s : State) : Out :=
  runOpcode 0x0140 c s fun s =>
    match Profile.ofCode (u8 c.payload 0) with
    | none => refuse s Status.paramRange
    | some p =>
      if c.payload.length ≠ 4 ∨ !allZero c.payload 1 3 then refuse s Status.paramRange
      else if !profileAvailable s p then refuse s Status.profileUnavailable
      else
        let s1 := if p = s.lanes.profile then s else s.profileRecord p s.lanes.profile 1
        let s2 := { s1 with lanes.profile := p }
        if s.op = .guard then { st := { s2 with lanes.next := none }, status := Status.guardActive }
        else { st := { s2 with lanes.next := some p } }

/-! ## NODE.STATUS (R484) -/

/-- Core restarts in the last 3,600 s of operating time (R482). -/
def recentRestarts (s : State) : List Nat := s.pw.restarts.filter fun t => decide (s.tm.op < t + 36000000)

def statusData (s : State) : Bytes :=
  let mv (x : Int) : Nat := (x / 10).toNat
  le 1 s.op.code
    ++ le 1 (flagBits [s.rcd.witnessOnly, !s.sec.sealed, s.pw.failing, nfEnergised s, isCaller s])
    ++ le 1 s.lanes.profile.code ++ le 1 (laneMask s) ++ le 1 s.pw.sup1 ++ le 1 s.pw.sup2
    ++ le 2 (mv s.pw.mv1) ++ le 2 (mv s.pw.mv2) ++ le 2 (s.pw.mvOr / 10)
    ++ le 1 s.pw.holdup ++ le 1 (nth s.ports.links 0 + 4 * nth s.ports.links 1)
    ++ le 6 s.tm.op ++ zeros 2 ++ le 4 s.tm.powerCount ++ le 8 ((fabUs s).getD 0) ++ le 4 (evalField s)
    ++ leInt 2 (satI16 s.sec.coreTemp) ++ leInt 2 (satI16 s.sec.boardTemp)
    ++ le 4 s.pw.dramCorrected ++ le 2 (sat16 s.pw.dramUncorrected) ++ le 1 (min 255 (recentRestarts s).length) ++ zeros 1
    ++ le 4 s.ports.badMarker ++ le 4 s.ports.svcTimeouts ++ le 4 s.ports.dgDrops ++ le 4 (sat32 s.pw.startToService)

def execNodeStatus (c : Cmd) (s : State) : Out := runPlain 0x0102 c s statusData

/-! ## NODE.CLOCKS (R462) -/

/-- Reference code (Table 16-4). -/
def refCode : Option Ref → Nat
  | some .xo => 0 | some (.fabric _) => 1 | some .bosc => 2 | none => 0xFF

def refPort : Option Ref → Nat
  | some (.fabric p) => p
  | _ => 0xFF

def clocksData (s : State) : Bytes :=
  let k := s.clk
  let retry := if k.ref = some .xo then 0 else sat16 (ceilDiv (k.xoRetryAt - s.tm.now) 1000)
  zeros 2 ++ le 8 ((fabUs s).getD 0) ++ le 1 (refCode k.ref) ++ le 1 (refPort k.ref) ++ le 1 k.ratio
    ++ le 1 (flagBits [k.xoStable, k.xoTripped, k.boscStable, k.boscTripped, k.woscTripped, k.pllLocked])
    ++ (match k.xoOffset with | some x => leInt 2 (satI16 x) | none => le 2 0x8000)
    ++ le 2 k.woscKhz ++ le 4 (sat32 k.forced) ++ le 4 (sat32 k.orderly) ++ le 4 (sat32 k.trips) ++ le 2 retry
    ++ zeros 2

def execNodeClocks (c : Cmd) (s : State) : Out := runPlain 0x0106 c s clocksData

end Sys2Proof.Machine
end

