-- ==== Sys2Proof/Machine/CallCmds.lean ====
section
/-! DEFINITION. The CALL opcodes and the end of a relay test (chapter 07). -/

namespace Sys2Proof.Machine

/-- CALL.STATUS (R207). -/
def callStatusData (s : State) : Bytes :=
  let r (i : Nat) : Relay := nth s.repl.relays i
  zeros 2 ++ le 4 (evalField s) ++ le 2 (s.repl.rep.call.caller.getD 0xFFFF) ++ le 1 (s.repl.sealFlags.toNat % 2)
    ++ le 1 (flagBits [(r 0).on, (r 1).on, (r 0).fault != 0, (r 1).fault != 0]) ++ callBytes s s.repl.rep.call

def execCallStatus (c : Cmd) (s : State) : Out := runPlain 0x0401 c s callStatusData

/-- The origin of a command matches a station's binding (R190). -/
def bound (s : State) (c : Cmd) (station : Nat) : Bool :=
  let k := stationCfg s station
  k.node == c.origNode && k.port == c.origPort

/-- Format of CALL.SET_WATCH (R206) for one action. That the area is in use is judged with the format (log entry 90, DESIGN
CHOICE). -/
def watchFormat (s : State) (action : Nat) (p : Bytes) : Bool :=
  p.length == 8 && u8 p 0 == action && decide (u8 p 1 < 16) && (areaCfg s (u8 p 1)).used
    && decide ((u8 p 2 = 0 ∧ u8 p 3 < 64) ∨ (u8 p 2 = 1 ∧ u8 p 3 < 32)) && decide (u8 p 4 < 64) && allZero p 5 3

/-- CALL.SET_WATCH (R190, R191): checked here, judged against the call state at its application. -/
def setWatchCmd (action : Nat) (c : Cmd) (s : State) : Out :=
  runAction 0x0440 c s (watchFormat s action) fun s =>
    if bound s c (u8 c.payload 4) then none else some Status.watchNotBound

def execCallSetWatchOffer (c : Cmd) (s : State) : Out := setWatchCmd 1 c s
def execCallSetWatchAccept (c : Cmd) (s : State) : Out := setWatchCmd 2 c s
def execCallSetWatchWithdraw (c : Cmd) (s : State) : Out := setWatchCmd 3 c s

/-- CALL.DEADMAN (R190, R195). -/
def execCallDeadman (c : Cmd) (s : State) : Out :=
  runAction 0x0441 c s (fun p => p.length == 4 && decide (u8 p 0 < 64) && allZero p 1 3) fun s =>
    if bound s c (u8 c.payload 0) then none else some Status.watchNotBound

/-- CALL.RELAY_TEST (R205): the relay is energised for 200 epochs. -/
def execCallRelayTest (c : Cmd) (s : State) : Out :=
  runOpcode 0x0442 c s fun s =>
    let r := u8 c.payload 0
    if c.payload.length ≠ 4 ∨ r = 0 ∨ 2 < r ∨ !allZero c.payload 1 3 then refuse s Status.paramRange
    else if !isCaller s then refuse s Status.notCaller
    else
      let start (x : Relay) : Relay :=
        { x with on := true, testEnd := some (s.repl.cur + 200), testBad := x.testBad && x.testEnd.isSome }
      { st := { s with repl.relays := upd s.repl.relays (r - 1) start } }

/-- RELAY_TEST (R208). -/
def State.relayTestRecord (s : State) (r result : Nat) : State :=
  s.log 0x0115 (le 4 (epochField s) ++ le 1 r ++ le 1 result ++ zeros 4)

/-- RELAY_TEST_END: the 200 epochs of a relay's test have run; R203 drives it again. -/
def execRelayTestEnd (relay : Nat) (s : State) : Out :=
  .next (
    let x : Relay := nth s.repl.relays (relay - 1)
    match x.testEnd with
    | some e =>
      if s.core = .running ∧ (relay = 1 ∨ relay = 2) ∧ e ≤ s.repl.cur then
        let on := isCaller s && nth (callDrive s) (relay - 1)
        let bad := x.testBad || decide (x.fault ≠ 0)
        let s1 := { s with repl.relays := upd s.repl.relays (relay - 1) fun y =>
          { y with on := on, testEnd := none, testBad := false } }
        s1.relayTestRecord relay (if bad then 1 else 0)
      else s
    | none => s)

end Sys2Proof.Machine
end

