-- ==== Sys2Proof/Machine/TimeSync.lean ====
section
/-! DEFINITION. Fabric time (chapter 08): link delay, time class, the master choice, steering, cold start, and
the TIME opcodes. -/

namespace Sys2Proof.Machine

/-! ## The clock unit's count -/

/-- The clock unit's count in ns: fabric time, or the local timebase before it is set (log entry 24, DEDUCED). -/
def clockNs (s : State) : Nat := s.tm.fab.getD (s.tm.now * 1000)

/-- The system runs QUIET (R229): L is 50 ms. -/
def quietSystem (s : State) : Bool := hasImage s && decide (s.cfg.len = 50000) && s.tm.fab.isSome

/-- Lit µs of fabric time before a phase of an epoch in QUIET (Table 08-7): dark from 5.0 to 24.0 ms. -/
def litPhase (r : Nat) : Nat := if r < 5000 then r else if r < 24000 then 5000 else r - 19000

/-- Lit time elapsed since an instant of the timebase (R230). -/
def litSince (s : State) (t : Nat) : Nat :=
  if quietSystem s then
    let f := (fabUs s).getD 0 - s.cfg.base.2
    let g := f - (s.tm.now - t)
    let lit (x : Nat) : Nat := x / 50000 * 31000 + litPhase (x % 50000)
    lit f - lit g
  else s.tm.now - t

/-- The clock unit and the fabric switch run: with the core, and while the core alone is in reset (R481). -/
def switchRuns (s : State) : Bool := decide (s.core = .running) || (decide (s.core = .held) && s.clk.pllLocked)

/-! ## Ports and delay (R232) -/

def fport (s : State) (p : Nat) : FabPort := nth s.fab.ports p

def State.setPort (s : State) (p : Nat) (f : FabPort → FabPort) : State :=
  { s with fab.ports := upd s.fab.ports p f }

def isUp (s : State) (p : Nat) : Bool := decide ((fport s p).state = .up)

def upPorts (s : State) : List Nat := (List.range 4).filter (isUp s)

/-- Insert into an ascending list of values, repeats kept. -/
def insInt (x : Int) : List Int → List Int
  | [] => [x]
  | y :: l => if x ≤ y then x :: y :: l else y :: insInt x l

/-- The median, the lower middle of an even number. -/
def medianLow (l : List Int) : Option Int :=
  let m := l.foldl (fun acc x => insInt x acc) []
  m[(m.length - 1) / 2]?

/-- The link delay in use; none while unknown. -/
def linkDelay (s : State) (p : Nat) : Option Int := medianLow ((fport s p).delays.take 8)

/-- Send DELAY_REQ on the UP ports on which a measurement is due (R232); t1 is taken as it leaves. One that falls due in
the dark phase is skipped (R230). -/
def execDelayMeasure (s : State) : Out :=
  .next (
    if switchRuns s = true then
      (List.range 4).foldl (fun (acc : State) p =>
        let x := fport acc p
        if acc.tm.now < x.delayDue then acc
        else
          let a1 := acc.setPort p fun y => { y with delayDue := acc.tm.now + 100000 }
          if x.state = .up then
            let n := (x.reqNum + 1) % 0x100000000
            let a2 := a1.setPort p fun y => { y with reqNum := n, reqOut := none }
            a2.sendLocal 0x0A p (le 4 n ++ zeros 4)
          else a1) s
    else s)

/-- States whose port sends and takes hellos and delay frames (R211); a DARK port from 24.0 ms of the epoch on (R230). -/
def linkFrames (s : State) (p : Nat) : Bool :=
  let x := (fport s p).state
  decide (x = .hello ∨ x = .up ∨ x = .miswired) || (decide (x = .dark) && !s.fab.dark)

/-- The transmitter is lit: not where QUIET has it off (Table 08-7, R230). -/
def lit (s : State) (p : Nat) : Bool := isUp s p || !s.fab.dark

/-- Transmit time of a frame's /S/, inserted as the frame leaves (Table 08-6). -/
def Frame.stamped (f : Frame) (ns : Nat) : Frame :=
  match f.type with
  | 0x09 => { f with body := f.body.take 8 ++ le 8 ns }
  | 0x0B => { f with body := f.body.take 16 ++ le 8 ns }
  | _ => f

/-- A DELAY_REQ leaves: t1 (R232). -/
def State.delayLeft (s : State) (p : Nat) (f : Frame) : State :=
  if f.type = 0x0A then s.setPort p fun y => { y with reqOut := some (u32 f.body 0, clockNs s) } else s

/-- Answer DELAY_REQ; t3 is inserted as the frame leaves. -/
def State.onDelayReq (s : State) (port : Nat) (f : Frame) (ns : Nat) : State :=
  if f.body.length = 8 ∧ linkFrames s port then
    s.sendLocal 0x0B port (le 4 (u32 f.body 0) ++ zeros 4 ++ le 8 ns ++ zeros 8)
  else s

/-- Take a DELAY_RESP to the request outstanding: one delay value. -/
def State.onDelayResp (s : State) (port : Nat) (f : Frame) (ns : Nat) : State :=
  match (fport s port).reqOut with
  | some (n, t1) =>
    if f.body.length = 24 ∧ u32 f.body 0 = n then
      let d : Int := (((ns : Int) - t1) - ((u64 f.body 16 : Int) - u64 f.body 8)) / 2
      s.setPort port fun y => { y with reqOut := none, delays := (d :: y.delays).take 8 }
    else s
  | none => s

/-! ## Time class and master (R233) -/

/-- Time synchronised. -/
def syncedFor (s : State) : Nat :=
  match s.fab.syncSince with
  | some t => s.tm.now - t
  | none => 0

def timeClass (s : State) : Nat :=
  let sync := decide (10000000 ≤ syncedFor s)
  match s.clk.ref with
  | some .xo =>
    if sync ∨ s.fab.master = some s.node then 1 else if s.fab.cold.isSome then 3 else 4
  | some (.fabric _) => if sync then 2 else if s.fab.cold.isSome then 3 else 4
  | _ => if s.fab.cold.isSome then 3 else 4

/-- A pair (time class, node) comes before another. -/
def pairBefore (a b : Nat × Nat) : Bool := decide (a.1 < b.1) || (a.1 == b.1 && decide (a.2 < b.2))

/-- The lowest pair. -/
def lowestPair (l : List (Nat × Nat)) : Option (Nat × Nat) :=
  l.foldl (fun acc x => match acc with
    | none => some x
    | some y => if pairBefore x y then some x else some y) none

/-- The master every node computes (R233): own pair of class 1 or 2, and the announces of the last 300 ms. -/
def masterChoice (s : State) : Option Nat :=
  let own := if timeClass s ≤ 2 then [(timeClass s, s.node)] else []
  let heard := (s.fab.announces.filter fun a => decide (a.cls ≤ 2) && decide (litSince s a.at_ < 300000)).map
    fun a => (a.cls, a.node)
  (lowestPair (own ++ heard)).map (·.2)

def timeEvent (s : State) (event : Nat) : Bytes := le 1 event ++ zeros 1 ++ le 2 (s.fab.master.getD 0xFFFF)

/-- Adopt a master: every change writes TIME_MASTER_CHANGE (R241). The syncs heard so far came from another
master, so that there is no upstream; the choice becoming empty has no new master to record. -/
def State.setMaster (s : State) (m : Option Nat) (reason : Nat) : State :=
  if m = s.fab.master then s
  else
    let s1 := { s with fab.master := m, fab.upstream := none, fab.offset := none, fab.outOfTol := 0, fab.hops := 0
                       fab.syncSince := none }
    match m with
    | none => s1
    | some n =>
      s1.logNotify 0x0301 (le 4 (epochField s1) ++ le 2 n ++ le 2 (s.fab.master.getD 0xFFFF) ++ le 1 reason
        ++ zeros 1 ++ le 8 ((fabUs s1).getD 0)) 0xC0F4 (timeEvent s1 1)

/-- Recompute the choice. -/
def State.chooseMaster (s : State) (reason : Nat) : State :=
  match masterChoice s with
  | none => if s.fab.master = some s.node ∧ s.fab.cold.isSome then s else s.setMaster none reason
  | some n => s.setMaster (some n) reason

/-- TIME_ANNOUNCE_SEND: class 1 to 3, every 100 ms. -/
def execTimeAnnounceSend (s : State) : Out :=
  .next (
    if s.core = .running ∧ hasImage s ∧ s.fab.announceDue ≤ s.tm.now ∧ timeClass s ≤ 3 ∧ !s.pw.failing then
      let s1 := { s with fab.announceDue := s.tm.now + 100000 }
      s1.originate 0x08 0xFFFF (le 2 s.node ++ le 1 (timeClass s) ++ zeros 1 ++ le 8 s.tm.fabPersist
        ++ le 2 (s.fab.master.getD 0xFFFF) ++ zeros 2)
    else s)

/-- Take a TIME_ANNOUNCE. -/
def State.onAnnounce (s : State) (f : Frame) : State :=
  let b := f.body
  if b.length ≠ 16 ∨ !allZero b 3 1 ∨ !allZero b 14 2 then s
  else
    let a : Announce := { node := u16 b 0, cls := u8 b 2, persisted := u64 b 4, master := u16 b 12, at_ := s.tm.now }
    let s1 := { s with fab.announces := a :: s.fab.announces.filter (·.node != a.node) }
    let s2 := if a.cls = 1 ∨ a.cls = 2 then { s1 with fab.lastGoodAnnounce := s.tm.now, fab.cold := none, fab.coldHigh := 0 }
      else if a.cls = 3 then { s1 with fab.coldHigh := max s1.fab.coldHigh a.persisted } else s1
    s2.chooseMaster 2

/-- ANNOUNCE_EXPIRY: pairs leave the choice 300 ms of lit time after their last announce (R230, R233). -/
def execAnnounceExpiry (s : State) : Out :=
  .next (
    if s.core = .running then
      let s1 := { s with fab.announces := s.fab.announces.filter fun a => decide (litSince s a.at_ < 300000) }
      s1.chooseMaster 1
    else s)

/-! ## Syncs (R234, R236) -/

/-- Send TIME_SYNC on a port with the master's time class; its transmit time is inserted as it leaves. -/
def State.sendSync (s : State) (port hops cls : Nat) : State :=
  s.sendLocal 0x09 port (le 2 (s.fab.master.getD 0xFFFF) ++ le 1 (min 255 hops) ++ le 1 cls ++ zeros 12)

/-- TIME_SYNC_SEND: the master, every 1 ms on each UP port. -/
def execTimeSyncSend (s : State) : Out :=
  .next (
    if switchRuns s = true ∧ s.fab.master = some s.node ∧ s.tm.fab.isSome then
      (List.range 4).foldl (fun (acc : State) p =>
        if isUp acc p ∧ (fport acc p).syncDue ≤ acc.tm.now then
          (acc.setPort p fun y => { y with syncDue := acc.tm.now + 1000 }).sendSync p 1 (timeClass acc)
        else acc) s
    else s)

/-- Ports whose last TIME_SYNC makes them candidates for upstream: UP, of the current master, within 5 ms of lit
time, link delay known. -/
def upstreams (s : State) : List (Nat × Nat) :=
  (upPorts s).filterMap fun p =>
    match (fport s p).lastSync with
    | some (m, hops, _, at_) =>
      if some m = s.fab.master ∧ litSince s at_ < 5000 ∧ (linkDelay s p).isSome then some (hops, p) else none
    | none => none

/-- The upstream: fewest hops, the lower port in a tie. -/
def upstreamChoice (s : State) : Option Nat :=
  if s.fab.master = some s.node then none else (lowestPair (upstreams s)).map (·.2)

/-- TIME_FAULT (R241). -/
def State.timeFault (s : State) (event : Nat) (offset : Int) (upNode : Nat) : State :=
  s.logNotify 0x0304 (le 4 (epochField s) ++ leInt 4 (satI32 offset) ++ le 2 upNode ++ le 1 event ++ zeros 3)
    0xC0F4 (timeEvent s 3)

/-- A member that disagrees with its master leaves as a departing node (R236); the mark makes it set its time
anew on rejoining. -/
def State.departForTime (s : State) : State := { s with repl.departing := true, fab.outOfTol := 10 }

/-- The rate after a sync: by a free amount against the offset, within ±100 ppm (R231, R234; log entry 86). -/
def steered (s : State) (o : Int) : Int :=
  let n : Int := Config.steerBy s.tm.now o
  if 0 < o then max (-100000) (s.fab.rate - n) else if o < 0 then min 100000 (s.fab.rate + n) else s.fab.rate

/-- Account for an offset: the rate is steered; within ±1 µs counts as synchronised (R233). -/
def State.takeOffset (s : State) (o : Int) : State :=
  let good := decide (-1000 ≤ o ∧ o ≤ 1000)
  { s with
    fab.offset := some o
    fab.syncSince := if good then some (s.fab.syncSince.getD s.tm.now) else none
    fab.rate := steered s o
    fab.rateUpdates := s.fab.rateUpdates + 1 }

/-- A sync from upstream with transmit time `tx`: offset, the step of a node that is not yet a member with its
TIME_ANCHOR (R412), the tolerance of a member (R234, R236). -/
def State.steer (s : State) (port tx ns : Nat) : State :=
  let d : Int := (linkDelay s port).getD 0
  let o : Int := (ns : Int) - (tx + d)
  let upNode := (fport s port).partner
  if !s.repl.member then
    if !s.fab.stepped || s.tm.fab.isNone then
      let s1 := { s with tm.fab := some ((clockNs s : Int) - o).toNat, fab.syncSince := none, fab.stepped := true }
      { (s1.timeFault 3 o upNode).anchor with fab.offset := some o }
    else s.takeOffset o
  else
    let far := decide (o < -1500 ∨ 1500 < o)
    if s.fab.offset.isNone && far then ((s.takeOffset o).timeFault 2 o upNode).departForTime
    else
      let n := if far then min 10 (s.fab.outOfTol + 1) else 0
      let s1 := { s.takeOffset o with fab.outOfTol := n }
      if n = 10 ∧ s.fab.outOfTol < 10 then (s1.timeFault 1 o upNode).departForTime else s1

/-- Take a TIME_SYNC: remember it on its port; from upstream, steer and pass it on. -/
def State.onSync (s : State) (port : Nat) (f : Frame) (ns : Nat) : State :=
  let b := f.body
  if b.length ≠ 16 ∨ !allZero b 4 4 ∨ u8 b 2 = 0 ∨ !isUp s port then s
  else
    let s1 := s.setPort port fun y => { y with lastSync := some (u16 b 0, u8 b 2, u8 b 3, s.tm.now) }
    let up := upstreamChoice s1
    let s2 := { s1 with fab.upstream := up }
    if up = some port then
      let s3 := { s2 with fab.hops := u8 b 2 }.steer port (u64 b 8) ns
      ((upPorts s3).filter (· != port)).foldl (fun (acc : State) p => acc.sendSync p (u8 b 2 + 1) (u8 b 3)) s3
    else s2

/-- UPSTREAM_TIMEOUT: 5 ms without a sync from upstream (R234). Having no upstream restarts the 10 s of R233. -/
def execUpstreamTimeout (s : State) : Out :=
  .next (
    if switchRuns s = true then
      match upstreamChoice s with
      | some p => { s with fab.upstream := some p }
      | none => { s with fab.upstream := none, fab.syncSince := none }
    else s)

/-! ## Cold start (R235) -/

/-- Start fabric time as the lowest class-3 node; it is set, so TIME_ANCHOR follows (R412). -/
def State.startFabric (s : State) : State :=
  let hi := max s.fab.coldHigh s.tm.fabPersist
  let t := hi + 1000000
  let s1 := { s with tm.fab := some (t * 1000), fab.syncSince := none }
  let s2 := { s1.setMaster (some s.node) 3 with fab.cold := none, fab.coldHigh := 0 }
  (s2.logNotify 0x0302 (le 8 t ++ le 8 hi ++ le 2 s.node) 0xC0F4 (timeEvent s2 2)).anchor

/-- COLD_CANDIDATE_TIMER: class 3 after 2 s without a class 1 or 2 announce; 2 s later the lowest class-3 node
becomes master. -/
def execColdCandidateTimer (s : State) : Out :=
  .next (
    match s.fab.firstUp with
    | some up =>
      if s.core = .running ∧ timeClass s = 4 ∧ s.fab.cold.isNone ∧ max up s.fab.lastGoodAnnounce + 2000000 ≤ s.tm.now then
        { s with fab.cold := some s.tm.now, fab.announceDue := s.tm.now }
      else match s.fab.cold with
        | some t =>
          let rivals := s.fab.announces.filter fun a => a.cls == 3 && decide (litSince s a.at_ < 300000)
          if s.core = .running ∧ t + 2000000 ≤ s.tm.now ∧ s.fab.master.isNone
              ∧ rivals.all (fun a => decide (s.node < a.node)) then s.startFabric else s
        | none => s
    | none => s)

/-! ## TIME.READ and TIME.SET_SYSTEM (R238, R239) -/

def timeReadData (s : State) : Bytes :=
  let up := if s.fab.master = some s.node then none else s.fab.upstream
  let delay := up.bind (linkDelay s)
  zeros 2 ++ le 8 ((fabUs s).getD 0xFFFFFFFFFFFFFFFF) ++ leInt 8 s.repl.rep.sysOffset ++ le 4 s.repl.rep.offsetEpoch
    ++ le 2 (s.fab.master.getD 0xFFFF) ++ le 1 (if s.fab.master = some s.node then 0 else s.fab.hops)
    ++ le 1 (timeClass s) ++ le 1 (up.getD 0xFF) ++ zeros 3
    ++ leInt 4 (match up, s.fab.offset with | some _, some o => satI32 o | _, _ => -0x80000000)
    ++ (match delay with | some d => le 4 d.toNat | none => le 4 0xFFFFFFFF)

def execTimeRead (c : Cmd) (s : State) : Out := runPlain 0x0B01 c s timeReadData

def execTimeSetSystem (c : Cmd) (s : State) : Out :=
  runAction 0x0B41 c s (fun p => p.length == 8) fun _ => none

end Sys2Proof.Machine
end

