-- ==== Sys2Proof/Machine/Links.lean ====
section
/-! DEFINITION. Fabric port states, hellos and the QUIET cycle (R211 to R214, R229, R230), and FAB.STATUS and
FAB.MEMBERS. -/

namespace Sys2Proof.Machine

/-! ## Port states -/

/-- LINK_EVENT as record and notification (R213, R241). -/
def State.linkEvent (s : State) (p : Nat) (new old : PortState) (cause : Nat) : State :=
  let x := fport s p
  s.logEvent 0x0300 0xC0F3 (le 1 p ++ le 1 new.code ++ le 1 old.code ++ le 1 cause ++ le 2 x.partner
    ++ le 1 x.partnerPort ++ zeros 1)

/-- What entering a state sets. A return from DARK goes on with the delays measured (log entry 25, DEDUCED). -/
def FabPort.enter (x : FabPort) (new : PortState) (now : Nat) : FabPort :=
  let y := { x with state := new, hellos := 0 }
  match new with
  | .up =>
    if x.state = .dark then { y with lastHello := now }
    else { y with delays := [], reqOut := none, lastSync := none, delayDue := now, syncDue := now, lastHello := now }
  | _ => y

/-- A departure from UP counts for R213; DARK is none (R230). -/
def isDeparture (old new : PortState) : Bool := (decide (old = .up) && decide (new ≠ .dark)) || (decide (old = .dark) && decide (new = .down))

/-! ## Abandoning a transfer (R267, R270) -/

def reqCount (r : Requester) : Nat := min 4 r.providers.length

/-- RESEED record (R279): event 1 started, 2 complete, 3 failed. -/
def reseedBody (s : State) (r : Requester) (event : Nat) : Bytes :=
  let node (i : Nat) : Nat := ((r.providers[i]?).map (·.2.1)).getD 0xFFFF
  le 4 (epochField s) ++ le 1 event ++ le 1 r.cause ++ le 2 (node 0) ++ le 2 (node 1) ++ le 4 r.er ++ le 4 r.replayed

/-- STATE_TRANSFER record (R279). -/
def transferBody (s : State) (r : Requester) (result : Nat) : Bytes :=
  le 4 (epochField s) ++ le 1 result ++ le 1 (reqCount r) ++ le 2 (((r.providers.head?).map (·.2.1)).getD 0xFFFF)
    ++ le 4 r.er ++ le 4 (sat32 ((s.tm.now - r.started) / 1000)) ++ zeros 2

/-- Body of a STATE_TRANSFER or RESEED frame (Table 09-7) without data. -/
def transferFrame (kind share id er field : Nat) : Bytes :=
  le 1 kind ++ le 1 share ++ le 2 id ++ le 4 er ++ le 8 field

/-- The requester gives up: abort reason 3 to its providers, its record, another try 10 s later. -/
def State.abandon (s : State) (result : Nat) : State :=
  match s.repl.req with
  | none => s
  | some r =>
    let type := if r.reseed then 0x31 else 0x30
    let s1 := r.providers.zipIdx.foldl (fun (acc : State) p =>
      acc.sendLocal type p.1.1 (transferFrame 5 (reqCount r + 16 * p.2) r.id r.er 3)) s
    let s2 := { s1 with repl.req := none, repl.retryAt := s.tm.now + 10000000
                        repl.lastEval := if r.replaying && !s.repl.member then none else s.repl.lastEval }
    if r.reseed then s2.log 0x0313 (reseedBody s r 3) else s2.log 0x0314 (transferBody s r result)

/-- The port toward a provider left UP before that provider's end frame arrived: abandon at once (R267). -/
def State.transferLost (s : State) (p : Nat) : State :=
  match s.repl.req with
  | some r =>
    if !r.replaying && r.providers.any (fun v => v.1 == p && v.2.2.isNone) then s.abandon 4 else s
  | none => s

/-- A change of port state. The tenth departure within 60 s leads on into HELD (R213), and a DOWN port with
sync into HELLO (R212). -/
def State.portTo (s : State) (p : Nat) (new : PortState) (cause : Nat) : State :=
  let x := fport s p
  let now := s.tm.now
  if x.state = new then s
  else
    let dep := isDeparture x.state new
    let times := if dep then now :: x.departTimes.filter fun t => decide (now < t + 60000000) else x.departTimes
    let s1 := s.setPort p fun y =>
      { y.enter new now with departTimes := times, departures := if dep then sat16 (y.departures + 1) else y.departures }
    let s2 := (if new = .up then { s1 with fab.firstUp := some (s1.fab.firstUp.getD now) } else s1).linkEvent p new x.state cause
    let s2 := if x.state = .up then s2.transferLost p else s2
    if dep ∧ 10 ≤ times.length ∧ new ≠ .disabled then
      (s2.setPort p fun y => { y with state := .held, departTimes := [], heldUntil := now + 60000000 }).linkEvent p .held new 5
    else if new = .down ∧ x.sync then
      (s2.setPort p fun y => y.enter .hello now).linkEvent p .hello .down 8
    else s2

/-- Enable and disable ports as the node table has it; without an image every port is enabled and no hello
matches (R214). The change is one of port state (R213), and its LINK_EVENT carries a free value for the cause, which no
code of Table 08-10 names (log entry 26, DESIGN CHOICE). -/
def State.refreshPorts (s : State) : State :=
  (List.range 4).foldl (fun (acc : State) p =>
    let x := fport acc p
    let on := !hasImage acc || (partnerOf acc p).isSome
    let (v, a1) := acc.takeFree
    if on && decide (x.state = .disabled) then a1.portTo p .down (v % 256)
    else if !on && decide (x.state ≠ .disabled) then a1.portTo p .disabled (v % 256)
    else acc) s

/-- On BOSC no port keeps clause 36 sync (R214). -/
def State.loseSync (s : State) : State :=
  (List.range 4).foldl (fun (acc : State) p =>
    let a1 := acc.setPort p fun x => { x with sync := false }
    match (fport acc p).state with
    | .hello => a1.portTo p .down 1
    | .up => a1.portTo p .down 1
    | .miswired => a1.portTo p .down 1
    | .dark => a1.portTo p .down 1
    | _ => a1) s

/-- Phase of the epoch in µs, in QUIET. -/
def quietPhase (s : State) : Nat := ((fabUs s).getD 0 - s.cfg.base.2) % 50000

/-- Link-down detection is suspended between 5.0 ms and 24.0 ms of a QUIET epoch (R229). -/
def downSuspended (s : State) : Bool :=
  quietSystem s && decide (5000 ≤ quietPhase s ∧ quietPhase s < 24000)

/-- LINK_SYNC_ACQUIRED (R212); on BOSC there is no sync to acquire (R214). -/
def execLinkSyncAcquired (port : Nat) (s : State) : Out :=
  .next (if s.clk.ref = some .bosc then s else
    let s1 := s.setPort port fun x => { x with sync := true }
    if switchRuns s = true ∧ (fport s port).state = .down then s1.portTo port .hello 8 else s1)

def execLinkSyncLost (port : Nat) (s : State) : Out :=
  .next (
    let s1 := s.setPort port fun x => { x with sync := false }
    if switchRuns s = true ∧ linkFrames s port ∧ (fport s port).state ≠ .dark ∧ !downSuspended s then s1.portTo port .down 1
    else s1)

def execHelloLossTimeout (port : Nat) (s : State) : Out :=
  .next (
    if switchRuns s = true ∧ isUp s port ∧ !downSuspended s ∧ 3000 ≤ litSince s (fport s port).lastHello then
      s.portTo port .down 2
    else s)

def execPortHoldExpiry (port : Nat) (s : State) : Out :=
  .next (
    let x := fport s port
    if switchRuns s = true ∧ x.state = .held ∧ x.heldUntil ≤ s.tm.now then s.portTo port .down 6 else s)

/-! ## Hellos -/

/-- The identity sent: from E_a of an activation with region 0, the new node table's (R521). -/
def identitySent (s : State) : Nat :=
  match s.repl.rep.scheduled, s.cfg.oldIdent with
  | some (ea, rs, _, _), some (new, _) => if ea ≤ s.repl.cur ∧ rs.any (fun p => p.1 == 0) then new else tableIdentity s
  | _, _ => tableIdentity s

/-- Body of LINK_HELLO (Table 08-6). -/
def helloBody (s : State) (port : Nat) : Bytes :=
  (if hasImage s then le 2 s.node ++ le 1 port ++ le 1 (bridgeRole s) ++ le 4 (identitySent s)
   else le 2 0xFFFF ++ le 1 port ++ zeros 5) ++ le 1 (timeClass s) ++ zeros 3

def execLinkHelloSend (s : State) : Out :=
  .next (
    if switchRuns s = true then
      (List.range 4).foldl (fun (acc : State) p =>
        let x := fport acc p
        if x.sync ∧ linkFrames acc p ∧ x.helloDue ≤ acc.tm.now ∧ lit acc p then
          (acc.setPort p fun y => { y with helloDue := acc.tm.now + 1000 }).sendLocal 0x0C p (helloBody acc p)
        else acc) s
    else s)

/-- The identity is the node table's, or while an activation changes it the other one (R521). -/
def identityOk (s : State) (id : Nat) : Bool :=
  id == tableIdentity s || (match s.cfg.oldIdent with
    | some (old, until_) => id == old && decide (s.repl.cur ≤ until_)
    | none => false)

/-- A hello names the partner of the port and the same node table (R212). -/
def helloMatches (s : State) (port : Nat) (b : Bytes) : Bool :=
  match partnerOf s port with
  | some (n, p) => u16 b 0 == n && u8 b 2 == p && identityOk s (u32 b 4)
  | none => false

/-- The run of 1 ms intervals of lit time with a matching hello, after one heard now, and when its first interval began: the
intervals run from the first hello of the run (log entry 87, DESIGN CHOICE); an empty one breaks it (R212, R230). -/
def helloRun (s : State) (x : FabPort) : Nat × Nat :=
  let i := litSince s x.runStart / 1000
  if x.hellos ≠ 0 ∧ i + 1 = x.hellos then (x.hellos, x.runStart)
  else if x.hellos ≠ 0 ∧ i = x.hellos then (x.hellos + 1, x.runStart)
  else (1, s.tm.now)

/-- Take a LINK_HELLO (R212). A DARK port only notes whether one matched (R230). -/
def State.onHello (s : State) (port : Nat) (f : Frame) : State :=
  let b := f.body
  if b.length ≠ 12 ∨ !allZero b 9 3 ∨ !linkFrames s port then s
  else
    let x := fport s port
    let (run, start) := helloRun s x
    let ok := helloMatches s port b
    let s1 := s.setPort port fun y =>
      { y with partner := u16 b 0, partnerPort := u8 b 2, partnerClass := u8 b 8, lastHello := s.tm.now
               hellos := if ok then run else 0, runStart := start, quietHello := ok }
    if x.state = .dark then s1
    else if !ok then s1.portTo port .miswired 4
    else if 100 ≤ run then
      match x.state with
      | .hello => s1.portTo port .up 3
      | .miswired => s1.portTo port .hello 3
      | _ => s1
    else s1

/-! ## QUIET (R229, R230) -/

/-- A class-3 transfer keeps its port lit. -/
def carriesTransfer (s : State) (p : Nat) : Bool :=
  (match s.repl.prov with | some v => v.port == p | none => false)
    || (match s.repl.req with | some r => r.providers.any (·.1 == p) | none => false)

/-- One port at a boundary of Table 08-7: UP goes DARK at 5.0 ms; from 24.0 ms a DARK port seeks sync and hellos, and at
25.0 ms it is UP again with both, else DOWN. -/
def State.quietPort (s : State) (ms p : Nat) : State :=
  let x := fport s p
  if ms = 5 then
    (if x.state = .up ∧ !carriesTransfer s p then (s.portTo p .dark 7).setPort p fun y => { y with sync := false } else s)
  else if ms = 24 ∧ x.state = .dark then s.setPort p fun y => { y with quietHello := false }
  else if ms = 25 ∧ x.state = .dark then
    (if x.sync && x.quietHello then s.portTo p .up 7 else s.portTo p .down 7)
  else s

/-- QUIET_PHASE_BOUNDARY at 4, 5, 24 or 25 ms, once each epoch. -/
def execQuietPhaseBoundary (ms : Nat) (s : State) : Out :=
  .next (
    let next := if ms = 4 then 5000 else if ms = 5 then 24000 else if ms = 24 then 25000 else 50000
    if switchRuns s = true ∧ quietSystem s ∧ (ms = 4 ∨ ms = 5 ∨ ms = 24 ∨ ms = 25) ∧ s.fab.quietMs ≠ ms
        ∧ ms * 1000 ≤ quietPhase s ∧ quietPhase s < next then
      (List.range 4).foldl (fun (acc : State) p => acc.quietPort ms p)
        { s with fab.quietMs := ms, fab.dark := decide (ms = 5) }
    else s)

/-! ## FAB.STATUS and FAB.MEMBERS (R240, R278) -/

def portStatus (s : State) (p : Nat) : Bytes :=
  let x := fport s p
  let off := decide (x.state = .disabled ∨ x.state = .dark)
  le 1 x.state.code ++ le 1 x.partnerPort ++ le 2 x.partner
    ++ (match linkDelay s p with | some d => le 4 d.toNat | none => le 4 0xFFFFFFFF)
    ++ le 4 (sat32 x.accepted) ++ le 4 (sat32 x.crcErrors) ++ le 4 (sat32 x.headErrors) ++ le 4 (sat32 x.coded)
    ++ le 2 (sat16 x.departures) ++ leInt 2 (satI16 x.optPower) ++ le 2 (if off then 0 else sat16 x.bias) ++ zeros 2

/-- FAB.STATUS after its status. -/
def fabStatusData (s : State) : Bytes :=
  zeros 2 ++ le 4 (evalField s) ++ le 2 s.node ++ le 1 (bridgeRole s) ++ zeros 1
    ++ (List.range 4).flatMap (portStatus s)

def execFabStatus (c : Cmd) (s : State) : Out := runPlain 0x0A01 c s fabStatusData

/-- M(E) and the used nodes absent in E of the last evaluated epoch (R252). -/
def lastMembers (s : State) : List Nat × List Nat :=
  match s.repl.rep.absents.head? with
  | some h => (h.2.1, (usedNodes s).filter fun n => absentIn h n)
  | none => ([], [])

/-- FAB.MEMBERS after its status, for `k` segments from `start`, `next` the segment to go on with. -/
def fabMembersData (s : State) (start k next : Nat) : Bytes :=
  let (mem, abs) := lastMembers s
  let map (g : Nat) (l : List Nat) : Bytes := bitmap 8 ((l.filter fun n => segOf n == g).map posOf)
  zeros 2 ++ le 4 (evalField s) ++ le 2 mem.length ++ le 1 k ++ le 1 next
    ++ le 4 (sat32 s.repl.lateDiscards) ++ le 4 (sat32 s.repl.earlyDiscards) ++ le 4 (sat32 s.repl.lateCarried)
    ++ le 4 (sat32 s.repl.incomplete)
    ++ (List.range k).flatMap fun i =>
      let g := start + i
      le 1 g ++ zeros 3 ++ map g mem ++ map g abs ++ map g s.repl.rep.lastElig ++ map g s.repl.lastReseed

def execFabMembers (c : Cmd) (s : State) : Out :=
  runOpcode 0x0A02 c s fun s =>
    let start := u8 c.payload 0
    let n := u8 c.payload 1
    if c.payload.length ≠ 4 ∨ !allZero c.payload 2 2 ∨ n = 0 ∨ 64 < n ∨ 64 < start + n then refuse s Status.paramRange
    else
      let k := min n (fit s c 28 36)
      { st := s, data := fabMembersData s start k (if k < n then start + k else 0xFF)
        flags := if k < n then 2 else 0 }

end Sys2Proof.Machine
end

