-- ==== Sys2Proof/Machine/SnapCmds.lean ====
section
/-! DEFINITION. The SNAP opcodes (R274, R277). -/

namespace Sys2Proof.Machine

/-- The bank of an identifier, or the reason none can be read (R277). An identifier below the next one to be
assigned that no slot holds has been freed (log entry 27, DEDUCED). -/
def bankOf (s : State) (id : Nat) : Except Nat Bank :=
  match s.repl.rep.snap.slots.zipIdx.find? fun p => p.1.1 == id && id != 0 with
  | some p =>
    let b := nth s.repl.banks p.2
    if b.id ≠ id then .error 2 else if b.absent then .error 4 else .ok b
  | none => if id ≠ 0 ∧ id < s.repl.rep.snap.nextId then .error 3 else .error 1

def execSnapRead (c : Cmd) (s : State) : Out :=
  runOpcode 0x1001 c s fun s =>
    let id := u16 c.payload 0
    let off := u32 c.payload 4
    if c.payload.length ≠ 8 ∨ !allZero c.payload 2 2 ∨ off % 4 ≠ 0 then refuse s Status.paramRange
    else match bankOf s id with
      | .error r => refuse s Status.snapNone (le 1 r)
      | .ok b =>
        if b.bytes.length ≤ off then refuse s Status.paramRange
        else
          let k := min (b.bytes.length - off) (fit s c 20 1)
          { st := s
            data := zeros 2 ++ le 2 id ++ zeros 2 ++ le 4 b.target ++ le 4 b.bytes.length ++ le 4 off
              ++ (b.bytes.drop off).take k
            flags := if off + k < b.bytes.length then 2 else 0 }

/-- Refusals of SNAP.SCHEDULE (R274), epochs compared modulo 2³² (R105). -/
def snapCheck (p : Bytes) (s : State) : Option Nat :=
  let d := (u32 p 0 + 0x100000000 - epochField s) % 0x100000000
  if d < 8 ∨ 0x80000000 ≤ d then some Status.snapTooSoon
  else if 65535 < d then some Status.paramRange
  else none

def execSnapSchedule (c : Cmd) (s : State) : Out :=
  runAction 0x1040 c s (fun p => p.length == 4) (snapCheck c.payload)

end Sys2Proof.Machine
end

