-- ==== Sys2Proof/Machine/Inputs.lean ====
section
/-! DEFINITION. What accepted frames of replication do: seals, aggregates, votes, join frames, updates, actions
and digests (chapter 09). Each function is the delivery of one accepted frame. -/

namespace Sys2Proof.Machine

/-- The epoch a 32-bit field stands for: the one nearest to the current epoch (R105). -/
def liftEpoch (s : State) (e : Nat) : Nat :=
  let cur := (fabUs s).elim 0 (epochOf s)
  let d := (e + 0x100000000 - cur % 0x100000000) % 0x100000000
  if d < 0x80000000 then cur + d else cur + d - 0x100000000

/-- A frame type that a node discards counts as a header error at the port it came by (R243, R273). -/
def State.headError (s : State) (port : Nat) : State :=
  s.setPort port fun x => { x with headErrors := sat32 (x.headErrors + 1) }

/-- Whether inputs of an epoch may still be of use: not evaluated, or of the last epochs. -/
def wanted (s : State) (e : Nat) : Bool :=
  let cur := (fabUs s).elim 0 (epochOf s)
  decide (cur ≤ e + 8 ∧ e ≤ cur + 8) || (match s.repl.req with | some r => decide (r.er < e) | none => false)

/-! ## Seals and aggregates -/

/-- SEAL_RECEIVED (R249): the seal of a member of the own segment. Any SEAL holds founding off (R477). -/
def State.onSeal (s : State) (f : Frame) : State :=
  let s1 := { s with repl.founding.quietSince := s.tm.now }
  let b := f.body
  let e := liftEpoch s (u32 b 4)
  if b.length ≠ 12 ∨ u8 b 0 ≠ 0 ∨ 7 < u8 b 1 ∨ !allZero b 10 2 ∨ segOf f.origin ≠ segOf s.node ∨ !wanted s e then s1
  else if (sealOf s e f.origin).isSome then s1
  else
    let x : SealIn := { epoch := e, node := f.origin, flags := BitVec.ofNat 8 (u8 b 1), counted := u16 b 2,
                        lanes := u8 b 8, state := u8 b 9 }
    { s1 with repl.seals := s1.repl.seals ++ [x] }

/-- A segment aggregate read from its body (Table 09-4). -/
def aggregateOf (s : State) (f : Frame) : AggIn :=
  let b := f.body
  let m (off : Nat) : BitVec 64 := BitVec.ofNat 64 (u64 b off)
  { epoch := liftEpoch s (u32 b 4), seg := u8 b 1, bridge := f.origin, present := m 8, absent := m 16, elig := m 24,
    depart := m 32, reseed := m 40, counted := (List.range 64).map fun i => u16 b (48 + 2 * i) }

/-- SEGMENT_AGGREGATE_RECEIVED (R250, R251): held beside the other bridge's; when the two differ, the fault. -/
def State.onAggregate (s : State) (f : Frame) : State :=
  let s1 := { s with repl.founding.quietSince := s.tm.now }
  let a := aggregateOf s f
  if f.body.length ≠ 176 ∨ u8 f.body 0 ≠ 1 ∨ 63 < a.seg ∨ !allZero f.body 2 2 ∨ segOf f.origin ≠ a.seg
      ∨ a.seg = segOf s.node ∨ !wanted s a.epoch then s1
  else if (aggsOf s a.epoch a.seg).any (·.bridge == f.origin) then s1
  else
    let differed := aggsDiffer s a.epoch a.seg
    let s2 := { s1 with repl.aggs := s1.repl.aggs ++ [a] }
    if aggsDiffer s2 a.epoch a.seg && !differed then s2.membershipFault (a.epoch % 0x100000000) 2 a.seg else s2

/-! ## MEMBERSHIP frames -/

/-- SEGMENT_VOTE_RECEIVED and TRUNK_VOTE_RECEIVED (R256, R257). -/
def State.onVote (s : State) (f : Frame) : State :=
  let b := f.body
  let kind := u8 b 0
  let p := u8 b 1
  let e := liftEpoch s (u32 b 4)
  let portOk := if kind = 1 then decide (p ≤ 1) else decide (2 ≤ p ∧ p ≤ 3)
  if b.length ≠ 12 ∨ !portOk ∨ u8 b 2 = 0 ∨ 63 < u8 b 2 ∨ !allZero b 3 1 ∨ !allZero b 10 2 ∨ !wanted s e then s
  else if kind = 1 ∧ segOf f.origin ≠ segOf s.node then s
  else
    { s with repl.votes := s.repl.votes ++
        [{ epoch := e, kind, port := p, run := u8 b 2, subject := u16 b 8, voter := f.origin }] }

/-- MEMBERSHIP_JOIN_RECEIVED (R252, R269): a counted frame. -/
def State.onJoin (s : State) (f : Frame) : State :=
  let b := f.body
  if b.length ≠ 12 ∨ !allZero b 1 3 ∨ !allZero b 10 2 then s
  else s.placeCounted { epoch := liftEpoch s (u32 b 4), origin := f.origin, seq := f.seq, body := .join (u16 b 8) }

/-! ## Updates and actions -/

/-- Entry of a TAG_UPDATE (Table 09-1). -/
def Upd.ofBytes (b : Bytes) : Upd :=
  { tag := u32 b 0 % 0x40000, quality := BitVec.ofNat 8 (u32 b 0 / 0x40000), value := word32 b 4, stamp := u64 b 8 }

/-- Entries of all counted frames held for the epochs after E_r: the requester's log (R267). -/
def logEntries (s : State) : Nat :=
  (s.repl.frames.map fun f => match f.body with | .updates us => us.length | _ => 1).sum

/-- Place a counted frame; a full log ends a transfer (R267). -/
def State.placeLogged (s : State) (f : CFrame) : State :=
  let s1 := s.placeCounted f
  if s1.repl.req.isSome && decide (2097152 ≤ logEntries s1) then s1.abandon 3 else s1

/-- TAG_UPDATE_RECEIVED (R243, R260). -/
def State.onTagUpdate (s : State) (port : Nat) (f : Frame) : State :=
  let b := f.body
  let us := (List.range (b.length / 16)).map fun i => Upd.ofBytes (sub b (16 * i) 16)
  match us with
  | [] => s.headError port
  | u :: _ =>
    let e := epochOf s u.stamp
    if b.length % 16 ≠ 0 ∨ us.any (fun v => epochOf s v.stamp != e) then s.headError port
    else s.placeLogged { epoch := e, origin := f.origin, seq := f.seq, body := .updates us }

/-- ACTION_RECEIVED (R246, R260). -/
def State.onAction (s : State) (f : Frame) : State :=
  let b := f.body
  if b.length < 16 ∨ 19 ≤ u8 b 12 ∨ u8 b 13 = 0 ∨ 19 < u8 b 13 ∨ u8 b 13 ≤ u8 b 12 ∨ 7 < u8 b 14 ∨ !allZero b 15 1 then s
  else
    let a : Action := { stamp := u64 b 0, opcode := u16 b 8, number := u16 b 10, port := u8 b 14, origin := f.origin,
                        payload := b.drop 16 }
    s.placeLogged { epoch := epochOf s a.stamp, origin := f.origin, seq := f.seq, body := .part a (u8 b 12) (u8 b 13) }

/-- DIGEST_RECEIVED (R264): held for the comparison. -/
def State.onDigest (s : State) (f : Frame) : State :=
  let b := f.body
  let e := liftEpoch s (u32 b 0)
  if b.length ≠ 16 ∨ !allZero b 4 4 ∨ s.repl.digests.any (fun d => d.1 == e && d.2.1 == f.origin) then s
  else { s with repl.digests := s.repl.digests ++ [(e, f.origin, u64 b 8)] }

/-! ## Witness records (R272, R414, R415) -/

/-- Partition of a witness record: the side on which the origin is fewer members away. -/
def witnessSide (s : State) (origin : Nat) : Nat :=
  let hops (side : Nat) : Nat :=
    ((beyond s side).filter fun n => decide (n ∈ s.repl.rep.members) || n == origin).findIdx fun n => n == origin
  if hops 0 ≤ hops 1 then 1 else 2

/-- A complete record: filed once for its key, acknowledged once it is committed, or again (R414). -/
def State.fileWitness (s : State) (origin inc num : Nat) (bs : Bytes) : State :=
  let queued := s.rcd.queue.any fun q => match q with
    | .witness _ o i n _ => o == origin && i == inc && n == num
    | _ => false
  if s.rcd.witnessOnly then s
  else if s.rcd.filed.contains (origin, inc, num) then s.ackWitness origin num
  else if queued then s
  else
    let body := le 2 origin ++ le 2 inc ++ le 4 num ++ zeros 2 ++ bs
    s.enqueue (.witness (witnessSide s origin) origin inc num
      { type := 0x0480, len := 26 + body.length, body, op := s.tm.op })

/-- WITNESS_RECORD_RECEIVED (R272, R414): parts of a record are assembled. -/
def State.onWitness (s : State) (f : Frame) : State :=
  let b := f.body
  let i := u8 b 1
  let n := u8 b 2
  let num := u32 b 4
  if b.length < 9 ∨ n = 0 ∨ 5 < n ∨ n ≤ i ∨ !allZero b 3 1 then s
  else
    let mine (w : WitnessIn) : Bool := w.origin == f.origin && w.inc == f.inc && w.num == num
    let w : WitnessIn := (s.rcd.witIn.find? mine).getD
      { origin := f.origin, inc := f.inc, num, parts := [], total := n, started := s.tm.now }
    let w1 := { w with parts := put w.parts i (b.drop 8) }
    let rest := s.rcd.witIn.filter fun x => !mine x
    if w1.parts.length = w1.total then
      let bs : Bytes := w1.parts.flatMap fun (p : Nat × Bytes) => p.2
      ({ s with rcd.witIn := rest } : State).fileWitness f.origin f.inc num bs
    else { s with rcd.witIn := rest ++ [w1] }

/-- WITNESS_ACK_RECEIVED (R272). -/
def State.onWitnessAck (s : State) (f : Frame) : State :=
  let b := f.body
  if b.length ≠ 8 ∨ !allZero b 1 3 then s
  else
    let mark (w : WitnessOut) : WitnessOut :=
      if w.num = u32 b 4 then
        let pairs : List (Bool × Nat) := w.ack.zip w.holder
        { w with ack := pairs.map fun p => p.1 || p.2 == f.origin }
      else w
    { s with rcd.witOut := (s.rcd.witOut.map mark).filter fun w => !w.ack.all id }

/-- Sides of a witness record not acknowledged, with their holders. -/
def WitnessOut.open_ (w : WitnessOut) : List (Nat × Nat) :=
  let pairs : List (Bool × Nat) := w.ack.zip w.holder
  (pairs.zipIdx.filter fun p => !p.1.1).map fun p => (p.2, p.1.2)

/-- RECORDER_EVENT 7 and WITNESS_UNFILED (R415, R426). -/
def State.witnessUnfiled (s : State) (w : WitnessOut) (side holder : Nat) : State :=
  s.logNotify 0x0408 (le 2 holder ++ le 1 side ++ zeros 1 ++ le 4 w.num ++ le 2 (u16 w.bytes 2)) 0xC080
    (recorderEvent 7 0xFF w.num)

/-- One record due: sent again, or given up after the third re-send. -/
def State.resendOne (s : State) (w : WitnessOut) : State :=
  if s.tm.now < w.sent + 50000 then { s with rcd.witOut := s.rcd.witOut ++ [w] }
  else if w.tries < 3 then
    let parts := witnessParts w.num w.bytes
    let s1 := (w.open_.map (·.2)).dedup.foldl (fun (acc : State) h => acc.sendParts h parts) s
    { s1 with rcd.witOut := s1.rcd.witOut ++ [{ w with sent := s.tm.now, tries := w.tries + 1 }] }
  else w.open_.foldl (fun (acc : State) p => acc.witnessUnfiled w p.1 p.2) s

/-- WITNESS_RESEND (R272, R415). -/
def execWitnessResend (s : State) : Out :=
  .next (
    if s.core = .running ∧ !s.pw.failing then
      s.rcd.witOut.foldl (fun (acc : State) w => acc.resendOne w) { s with rcd.witOut := [] }
    else s)

end Sys2Proof.Machine
end

