-- ==== Sys2Proof/Machine/Transfer.lean ====
section
/-! DEFINITION. State transfer and re-seeding (R265 to R270): the provider's blocks, the requester's assembly, its
replay of logged epochs, and the ready frame. -/

namespace Sys2Proof.Machine

/-! ## The image as blocks (Table 09-8) -/

/-- Absent nodes of an epoch of the history as a 4,096-bit map (R252). -/
def absentMap (s : State) (r : Replica) (i : Nat) : Bytes :=
  match r.absents[i]? with
  | some h => bitmap 512 ((usedNodes s).filter fun n => absentIn h n)
  | none => bitmap 512 (usedNodes s)

/-- Configuration activation state and pending activations, in the layout of the model (log entry 28, DESIGN CHOICE): epoch base,
L, the scheduled activation, and the CRC of the active copy of each replicated region. -/
def activationBytes (s : State) (r : Replica) : Bytes :=
  let (e, regs, node, port) := r.scheduled.getD (0, [], 0, 0)
  le 4 s.cfg.base.1 ++ le 8 s.cfg.base.2 ++ le 4 s.cfg.len ++ le 4 e ++ le 2 node ++ le 1 port ++ le 1 regs.length
    ++ padTo 410 (regs.flatMap fun p => le 1 p.1 ++ le 4 p.2)
    ++ (List.range 82).flatMap fun g => match activeBank s g with
      | some b => le 4 (dirEntry s b g).crc
      | none => zeros 4

/-- Offset of the activation state in the context, of the joiners counted in E_r, of the alarm stages and of
the eligible nodes of the caller list (log entry 28). -/
def activationAt : Nat := 2600
def joinsAt : Nat := activationAt + 762
def alarmStagesAt : Nat := joinsAt + 512
def eligibleAt : Nat := alarmStagesAt + 16

/-- The 4 KB context. -/
def contextBytes (s : State) (r : Replica) : Bytes :=
  padTo 4096 (le 2 (r.call.caller.getD 0xFFFF) ++ callBytes s r.call ++ leInt 8 r.sysOffset ++ le 4 r.offsetEpoch
    ++ bitmap 512 r.members ++ absentMap s r 2 ++ absentMap s r 1 ++ absentMap s r 0 ++ r.snap.bytes
    ++ activationBytes s r ++ bitmap 512 r.joins ++ (r.call.areas.flatMap fun a => le 1 a.alarmStage)
    ++ le 2 (flagBits ((callerList s).map fun n => decide (n ∈ r.lastElig))))

/-- Block `i` of a frozen image. -/
def blockBytes (s : State) (r : Replica) (i : Nat) : Bytes :=
  let dyn (t : Nat) : Bytes := match look r.tags t with | some d => d.bytes | none => zeros 64
  if i < 262144 then descBytes s i
  else if i < 393216 then dyn (2 * (i - 262144)) ++ dyn (2 * (i - 262144) + 1)
  else if i < 524288 then (List.range 8).flatMap fun j => storeEdge s r (8 * (i - 393216) + j)
  else sub (contextBytes s r) (128 * (i - 524288)) 128

def blockCount : Nat := 524320

/-! ## Assembling (R267, R268) -/

/-- Call areas, their alarm stages and dead-man deadlines read back from a context. -/
def callOf (b : Bytes) : Call :=
  let optE (x : Nat) : Option Nat := if x = 0xFFFFFFFF then none else some x
  let area (o a : Nat) : WatchArea :=
    { kind := u8 b o, holder := u8 b (o + 1), stage := u8 b (o + 2), cause := u8 b (o + 3), since := optE (u32 b (o + 4))
      alarmStage := u8 b (alarmStagesAt + a)
      offer := if u8 b (o + 8) = 0xFF then none else some (u8 b (o + 8), u8 b (o + 9), u32 b (o + 12)) }
  { areas := (List.range 16).map fun a => area (6 + 16 * a) a
    deadman := (List.range 64).map fun n => optE (u32 b (262 + 4 * n))
    caller := if u16 b 0 = 0xFFFF then none else some (u16 b 0) }

/-- The history of absence from three maps: a member of M(E_r + 1) that was present in an earlier epoch of the
three was a member, and so declared absent; any other absent node was none (log entry 28, DESIGN CHOICE). -/
def historyOf (s : State) (er : Nat) (members m2 m1 m0 : List Nat) : List (Nat × List Nat × List Nat) :=
  let used := usedNodes s
  let entry (e : Nat) (abs : List Nat) (earlier : List (List Nat)) : Nat × List Nat × List Nat :=
    let here := used.filter fun n => !abs.contains n
    let dec := members.filter fun n => abs.contains n && earlier.any fun l => !l.contains n
    (e, here ++ dec, dec)
  [entry er m0 [m1, m2], entry (er - 1) m1 [m2], entry (er - 2) m2 []]

/-- The scheduled activation in a context. -/
def scheduledOf (b : Bytes) : Option (Nat × List (Nat × Nat) × Nat × Nat) :=
  if u8 b 23 = 0 then none
  else some (u32 b 16, (List.range (u8 b 23)).map fun i => (u8 b (24 + 5 * i), u32 b (25 + 5 * i)), u16 b 20, u8 b 22)

/-- The replica a complete set of blocks spells. -/
def replicaOf (s : State) (er : Nat) (blocks : List (Nat × Bytes)) : Replica :=
  let ctx := (List.range 32).flatMap fun i => padTo 128 ((look blocks (524288 + i)).getD [])
  let tags := ((blocks.filter fun p => decide (262144 ≤ p.1 ∧ p.1 < 393216)).flatMap fun p =>
      [(2 * (p.1 - 262144), sub p.2 0 64), (2 * (p.1 - 262144) + 1, sub p.2 64 64)]).filterMap fun p =>
    if (desc s p.1).type = 0 then none else some (p.1, TagDyn.ofBytes p.2)
  let holds := ((blocks.filter fun p => decide (393216 ≤ p.1 ∧ p.1 < 524288)).flatMap fun p =>
      (List.range 8).map fun j => (8 * (p.1 - 393216) + j, u16 p.2 (16 * j + 14))).filter fun p => p.2 != 0
  let maps (o : Nat) : List Nat := bitsOf (sub ctx o 512)
  let members := maps 530
  let active := (usedEdges s).filter fun x =>
    let ed := edge s x
    (look holds x).isSome || (ed.hold != 0 && ((look tags ed.target).any fun d => d.suppressed) && Config.edgeWasActive er x)
  { tags, holds, active, call := callOf ctx, sysOffset := sint 8 (u64 ctx 518), offsetEpoch := u32 ctx 526, members
    absents := historyOf s er members (maps 1042) (maps 1554) (maps 2066)
    joins := maps joinsAt
    lastElig := ((callerList s).zipIdx.filter fun p => (u16 ctx eligibleAt).testBit p.2).map (·.1)
    snap := { nextId := u16 ctx 2578, slots := (List.range 2).map fun i =>
      (u16 ctx (2580 + 10 * i), u32 ctx (2582 + 10 * i), u32 ctx (2586 + 10 * i)) }
    scheduled := scheduledOf (ctx.drop activationAt) }

/-! ## The provider -/

/-- A node that may provide (R265). -/
def mayProvide (s : State) : Bool :=
  s.repl.member && inReplica s && s.repl.reseed.isNone && decide (s.repl.digestOk ≠ some false)

/-- Send a transfer frame on a port. -/
def State.sendTransfer (s : State) (reseed : Bool) (port : Nat) (body : Bytes) : State :=
  s.sendLocal (if reseed then 0x31 else 0x30) port body

/-- The provider aborts (R265, R266). -/
def State.abortProvider (s : State) (reason : Nat) : State :=
  match s.repl.prov with
  | some v =>
    { s with repl.prov := none }.sendTransfer v.reseed v.port
      (transferFrame 5 (v.count + 16 * v.share) v.id v.er reason)
  | none => s

/-- TRANSFER_REQUEST_RECEIVED (R265, R266). -/
def State.onRequest (s : State) (port : Nat) (f : Frame) : State :=
  let b := f.body
  let er := liftEpoch s (u32 b 4)
  let reseed := f.type == 0x31
  let free := mayProvide s && s.repl.prov.isNone && s.repl.rep.scheduled.isNone
    && (match s.repl.lastEval with | some x => decide (x < er) | none => false)
  if free then
    { s with repl.prov := some { node := f.origin, port, reseed, id := u16 b 2, er, share := u8 b 1 / 16,
                                 count := u8 b 1 % 16, next := u8 b 1 / 16, image := none } }
  else s.sendTransfer reseed port (transferFrame 5 (u8 b 1) (u16 b 2) (u32 b 4) 1)

/-- After evaluating E_r: freeze the image (R266). -/
def State.freezeImage (s : State) (e : Nat) : State :=
  match s.repl.prov with
  | some v =>
    if v.er = e ∧ v.image.isNone then { s with repl.prov := some { v with image := some (s.repl.rep, digest s) } } else s
  | none => s

/-- One block, or the end frame after the last of the share. -/
def State.sendBlock (s : State) : State :=
  match s.repl.prov with
  | some v =>
    match v.image with
    | some (img, d) =>
      if 256 ≤ outUsed s 3 then s
      else
        let share := v.count + 16 * v.share
        if v.next < blockCount then
          { s with repl.prov := some { v with next := v.next + max 1 v.count } }.sendTransfer v.reseed v.port
            (transferFrame 2 share v.id v.er v.next ++ blockBytes s img v.next)
        else { s with repl.prov := none }.sendTransfer v.reseed v.port (transferFrame 3 share v.id v.er d)
    | none => s
  | none => s

/-- TRANSFER_BLOCK_SEND: as many as `Q23` takes (R266, R273); a provider that is none any more aborts. -/
def execTransferBlockSend (s : State) : Out :=
  .next (
    if s.core = .running ∧ s.repl.prov.isSome then
      if mayProvide s then (List.range 256).foldl (fun (acc : State) _ => acc.sendBlock) s else s.abortProvider 2
    else s)

/-! ## The requester -/

/-- The node is synchronised (R233, R236); the master is. -/
def synchronised (s : State) : Bool :=
  s.tm.fab.isSome && (s.fab.syncSince.isSome || decide (s.fab.master = some s.node))

/-- The node needs a replica: joining in START from step 7, or re-seeding. -/
def needsReplica (s : State) : Bool :=
  s.repl.reseed.isSome || (!s.repl.member && decide (s.op = .start) && decide (7 ≤ s.pw.step) && hasImage s
    && s.repl.lastEval.isNone)

/-- The newest digest epoch whose comparison is due, and its reference among the digests received (R264). -/
def digestReference (s : State) : Option (Nat × Nat) :=
  let due := s.repl.digests.filter fun d => decide (d.1 + ceilDiv 100000 (epochLen s) ≤ s.repl.cur)
  let e := (due.map (·.1)).foldl max 0
  (mostHeld ((due.filter (·.1 == e)).map (·.2.2))).map fun v => (e, v)

/-- What a neighbour's last seals say: in GUARD or SERVICE and not re-seeding; a trunk neighbour by its segment's
aggregates (log entry 29, DEDUCED). For a digest re-seed it must have held the reference. -/
def looksReady (s : State) (n : Nat) : Bool :=
  let recent (e : Nat) : Bool := decide (s.repl.cur ≤ e + 4)
  let sealed := if segOf n = segOf s.node then
      s.repl.seals.any fun x => x.node == n && recent x.epoch && !x.flags.toNat.testBit 2 && !x.flags.toNat.testBit 1
        && (x.state == OpState.code .guard || x.state == OpState.code .service)
    else s.repl.aggs.any fun a => a.seg == segOf n && recent a.epoch && a.present.toNat.testBit (posOf n)
      && !a.reseed.toNat.testBit (posOf n) && !a.depart.toNat.testBit (posOf n)
  sealed && (decide (s.repl.reseed ≠ some 1) || (match digestReference s with
    | some (e, v) => s.repl.digests.contains (e, n, v)
    | none => false))

/-- Providers beyond the UP ports, each with the lowest port that leads to it (R265). -/
def providersOf (s : State) : List (Nat × Nat × Option Nat) :=
  let ps : List (Nat × Nat × Option Nat) := (upPorts s).filterMap fun p => match partnerOf s p with
    | some (n, _) => if looksReady s n then some (p, n, none) else none
    | none => none
  (ps.foldl (fun (acc : List (Nat × Nat × Option Nat)) v => if acc.any (·.2.1 == v.2.1) then acc else acc ++ [v]) []).take 4

/-- Send the requests of an attempt (R265, R267, R270). -/
def State.requestTransfer (s : State) : State :=
  let ps := providersOf s
  if ps.isEmpty then { s with repl.searchDue := s.tm.now + 1000000 }
  else
    let id := (s.repl.transferId + 1) % 0x10000
    let er := epochOf s ((fabUs s).getD 0) + 4
    let r : Requester := { reseed := s.repl.reseed.isSome, cause := s.repl.reseed.getD 0, id, er, started := s.tm.now,
                           providers := ps, blocks := [] }
    let s1 := { s with
      repl.req := some r, repl.transferId := id, repl.searchDue := s.tm.now + 1000000
      repl.frames := s.repl.frames.filter fun f => decide (er < f.epoch)
      repl.digests := s.repl.digests.filter fun d => decide (s.repl.cur ≤ d.1 + 2 * (1000000 / epochLen s)) }
    let s2 := if r.reseed then s1.log 0x0313 (reseedBody s1 r 1) else s1
    ps.zipIdx.foldl (fun (acc : State) p =>
      acc.sendTransfer r.reseed p.1.1 (transferFrame 1 (ps.length + 16 * p.2) id (er % 0x100000000) 0)) s2

/-- PROVIDER_SEARCH every 1 s, and TRANSFER_RETRY 10 s after an abandoned transfer. -/
def State.search (s : State) (due : Nat) : State :=
  if s.core = .running ∧ needsReplica s ∧ s.repl.req.isNone ∧ due ≤ s.tm.now ∧ s.repl.retryAt ≤ s.tm.now
      ∧ synchronised s ∧ !s.pw.heldStart then s.requestTransfer else s

def execProviderSearch (s : State) : Out := .next (s.search s.repl.searchDue)

def execTransferRetry (s : State) : Out := .next (s.search s.repl.retryAt)

/-- The transfer frame belongs to the transfer in progress and comes from one of its providers. -/
def ofTransfer (r : Requester) (port : Nat) (f : Frame) : Bool :=
  !r.replaying && u16 f.body 2 == r.id && u32 f.body 4 == r.er % 0x100000000
    && r.providers.any fun v => v.1 == port && v.2.1 == f.origin

/-- TRANSFER_BLOCK_RECEIVED. -/
def State.onBlock (s : State) (port : Nat) (f : Frame) : State :=
  match s.repl.req with
  | some r =>
    if ofTransfer r port f && decide (f.body.length = 144) && decide (u32 f.body 8 < blockCount) then
      { s with repl.req := some { r with blocks := put r.blocks (u32 f.body 8) (f.body.drop 16) } }
    else s
  | none => s

/-- R519: after a digest failure, activate each staged copy whose CRC is the provider's active content. -/
def State.activateMatching (s : State) (ctx : Bytes) : State :=
  (List.range 82).foldl (fun (acc : State) g =>
    let crc := u32 ctx (activationAt + 434 + 4 * g)
    let other := 1 - selected acc g
    let d := dirEntry acc other g
    if d.state = 2 ∧ d.crc = crc ∧ (activeBank acc g).map (fun b => (dirEntry acc b g).crc) ≠ some crc then
      (activateRegion acc (acc.repl.cur) g).1
    else acc) s

/-- All end frames are in: completeness and the digest (R267). -/
def State.assemble (s : State) (r : Requester) : State :=
  if r.blocks.length ≠ blockCount then s.abandon 4
  else
    let rep := replicaOf s r.er r.blocks
    let s1 := { s with repl.rep := rep }
    let d := digest s1
    let ctx := (List.range 32).flatMap fun i => padTo 128 ((look r.blocks (524288 + i)).getD [])
    if r.providers.all fun v => v.2.2 == some d then
      let s2 := { s1 with
        repl.req := some { r with blocks := [], replaying := true }, repl.lastEval := some r.er
        repl.lastEvalAt := s.tm.now
        cfg.base := (u32 ctx activationAt, u64 ctx (activationAt + 4)), cfg.len := max 1 (u32 ctx (activationAt + 12)) }.missEarlier
        r.er
      if r.reseed then s2 else s2.log 0x0314 (transferBody s r 1)
    else (s.abandon 2).activateMatching ctx

/-- TRANSFER_END_RECEIVED. -/
def State.onEnd (s : State) (port : Nat) (f : Frame) : State :=
  match s.repl.req with
  | some r =>
    if ofTransfer r port f then
      let ps := r.providers.map fun v => if v.1 = port then (v.1, v.2.1, some (u64 f.body 8)) else v
      let r1 := { r with providers := ps }
      let s1 := { s with repl.req := some r1 }
      if ps.all fun v => v.2.2.isSome then s1.assemble r1 else s1
    else s
  | none => s

/-- TRANSFER_ABORT_RECEIVED: from a provider it ends the whole transfer; from the requester it releases the
image. -/
def State.onAbort (s : State) (port : Nat) (f : Frame) : State :=
  let own := match s.repl.prov with
    | some v => v.node == f.origin && v.port == port && u16 f.body 2 == v.id
    | none => false
  let s1 := if own then { s with repl.prov := none } else s
  match s1.repl.req with
  | some r => if ofTransfer r port f then s1.abandon 4 else s1
  | none => s1

/-- TRANSFER_READY_RECEIVED (R269): the sponsor names the joiner in its next epoch. -/
def State.onReady (s : State) (f : Frame) : State :=
  if s.repl.member && inReplica s && !s.repl.joinOf.any (·.1 == f.origin) then
    { s with repl.joinOf := s.repl.joinOf ++ [(f.origin, liftEpoch s (u32 f.body 4))] }
  else s

/-- A STATE_TRANSFER or RESEED frame by its kind (Table 09-7). -/
def State.onTransfer (s : State) (port : Nat) (f : Frame) : State :=
  if f.body.length < 16 then s
  else match u8 f.body 0 with
    | 1 => s.onRequest port f
    | 2 => s.onBlock port f
    | 3 => s.onEnd port f
    | 4 => s.onReady f
    | 5 => s.onAbort port f
    | _ => s

/-- TRANSFER_TIMEOUT: not complete 5 s after the request (R267). -/
def execTransferTimeout (s : State) : Out :=
  .next (match s.repl.req with
    | some r => if s.core = .running ∧ !r.replaying ∧ r.started + 5000000 ≤ s.tm.now then s.abandon 5 else s
    | none => s)

/-! ## Replay (R268 to R270) -/

/-- Fabric time at which a node may begin to evaluate an epoch: its end. -/
def ended (s : State) (e : Nat) : Bool := decide (epochStart s (e + 1) ≤ (fabUs s).getD 0)

/-- Drop what the slots hold up to E; seals, aggregates and votes are kept some epochs longer (log entry 29, DEDUCED). -/
def State.dropInputs (s : State) (e : Nat) : State :=
  { s with
    repl.frames := s.repl.frames.filter fun f => decide (e < f.epoch)
    repl.votes := s.repl.votes.filter fun v => decide (e < v.epoch + 4)
    repl.voted := s.repl.voted.filter fun v => decide (e < v.1 + 4)
    repl.seals := s.repl.seals.filter fun x => decide (e < x.epoch + 4)
    repl.aggs := s.repl.aggs.filter fun a => decide (e < a.epoch + 4)
    repl.own := s.repl.own.filter fun o => decide (e < o.epoch + 4) }

/-- Send ready to the lowest-numbered provider not yet asked (R269). -/
def State.sendReady (s : State) (r : Requester) : State :=
  let left := r.providers.filter fun v => !r.readyTo.contains v.2.1
  match lowestPair (left.map fun v => (v.2.1, v.1)) with
  | some (n, p) =>
    let s1 := { s with repl.req := some { r with readySent := some s.repl.cur, readyTo := r.readyTo ++ [n] } }
    s1.sendTransfer false p (transferFrame 4 (reqCount r) r.id (r.er % 0x100000000) 0)
  | none => s

/-- The node is caught up: a joiner asks to join, a re-seeding member is to resume at the next epoch boundary (R269,
R270). -/
def State.caughtUp (s : State) (r : Requester) : State :=
  if r.reseed then { s with repl.req := some { r with caught := true } }
  else
    let codes := s.repl.rep.tags.map fun t => (t.1, t.2.conds.map (·.state))
    { s with repl.emitted := codes, repl.released := codes }.sendReady r

/-- At an epoch boundary a member whose re-seed is caught up resumes, a trigger of R28; its own actions of the epochs
received have their completions (R126, R270). -/
def State.resume (s : State) : State :=
  match s.repl.req with
  | some r =>
    if r.caught then
      let s1 := { s with repl.req := none, repl.reseed := none, lanes.trigger := true, repl.eligRun := 0 }
      (s1.logNotify 0x0313 (reseedBody s r 2) 0xC0F5 (memberEvent 7 s.node (epochField s))).answerReseeded
        (s.repl.lastEval.getD 0)
    else s
  | none => s

/-- Updates discarded in step 1 of an epoch: of tags by a node that does not own them (R10), and of values that do not
fit the tag's type (R93). -/
def foreignCount (s : State) (i : EpochIn) : Nat :=
  (i.frames.map fun f => match f.body with
    | .updates us => us.countP fun u => (desc s u.tag).node != f.origin || !fitsType (desc s u.tag).type u.value
    | _ => 0).sum

/-- The evaluated picture of E is taken, with the updates that its step 1 discarded counted. -/
def State.take (s : State) (e : Nat) (i : EpochIn) (v : Evald) : State :=
  { v.st with repl.lastEval := some e, repl.lastEvalAt := s.tm.now
              fab.foreignUpdates := sat32 (v.st.fab.foreignUpdates + foreignCount v.st i) }

/-- A member absent in an epoch it replays republishes, and an absent node has no bank of it (R248, R276). -/
def State.absentReplay (s : State) (e : Nat) (members declared : List Nat) : State :=
  if s.node ∈ members ∧ s.node ∉ declared then s
  else { s.missSnapshots e with repl.republish := s.repl.republish || s.repl.member }

/-- LOGGED_EPOCH_REPLAY (R268): the next logged epoch, silently, until caught up. The node's own actions of it have
their completions (R126). -/
def execLoggedEpochReplay (s : State) : Out :=
  .next (match s.repl.req, s.repl.lastEval with
    | some r, some x =>
      let e := x + 1
      if s.core = .running ∧ r.replaying ∧ !r.caught ∧ r.readySent.isNone then
        let near := decide ((fabUs s).getD 0 ≤ epochStart s (x + 1) + 2 * epochLen s)
        if near then s.caughtUp r
        else if ended s e ∧ (missing s e).isNone then
          let i := epochIn s e
          let v := evalCore s i
          let r1 := { r with replayed := r.replayed + 1 }
          let s1 := ({ s.take e i v with repl.req := some r1 }.absentReplay e s.repl.rep.members i.declared).dropInputs e
          (s1.answerReseeded (e - 1)).answerAll e v.results
        else s
      else s
    | _, _ => s)

end Sys2Proof.Machine
end

