-- ==== Sys2Proof/Machine/FoundingOps.lean ====
section
/-! DEFINITION. Founding a system with no members (R477 to R479). -/

namespace Sys2Proof.Machine

/-- Body of a FOUNDING frame (Table 17-6). -/
def foundingBody (s : State) (kind part count ef founder : Nat) (data : Bytes) : Bytes :=
  le 1 kind ++ le 1 part ++ le 1 count ++ zeros 1 ++ le 4 ef ++ le 2 founder ++ zeros 2 ++ le 4 (tableIdentity s) ++ data

/-- The first epoch that starts at least 3 s from now. -/
def foundingEpochAt (s : State) (us : Nat) : Nat :=
  let e := epochOf s (us + 3000000)
  if epochStart s e = us + 3000000 then e else e + 1

/-- Founding may concern this node: an image, not a member, step 6 finished. -/
def mayFound (s : State) : Bool :=
  decide (s.core = .running) && hasImage s && !s.repl.member && decide (s.op = .start) && decide (7 ≤ s.pw.step)

/-- At founding the epoch base is (0, 0) (R521). -/
def State.foundBase (s : State) : State :=
  let s1 := { s with cfg.base := (0, 0), cfg.prev := (0, 0, s.cfg.len) }
  { s1 with repl.cur := (fabUs s).elim s.repl.cur (epochOf s1) }

/-- FOUNDER_TIMER (R477). -/
def execFounderTimer (s : State) : Out :=
  .next (
    if mayFound s ∧ s.fab.master = some s.node ∧ s.tm.fab.isSome ∧ !s.repl.founding.founder
        ∧ s.repl.founding.quietSince + 5000000 ≤ s.tm.now then
      let s0 := s.foundBase
      let ef := foundingEpochAt s0 ((fabUs s).getD 0)
      { s0 with repl.founding := { s.repl.founding with
          founder := true, ef := some ef, founderNode := s.node, announceDue := s.tm.now, ready := [], parts := [] } }
    else s)

/-- FOUNDING_ANNOUNCE_SEND: every 100 ms until E_F starts. -/
def execFoundingAnnounceSend (s : State) : Out :=
  .next (match s.repl.founding.ef with
    | some ef =>
      if s.core = .running ∧ s.repl.founding.founder ∧ s.repl.founding.announceDue ≤ s.tm.now
          ∧ (fabUs s).getD 0 < epochStart s ef then
        { s with repl.founding.announceDue := s.tm.now + 100000 }.originate 0x04 0xFFFF
          (foundingBody s 1 0 0 ef s.node [])
      else s
    | none => s)

/-- FOUNDING_ANNOUNCE_RECEIVED (R477, R478). -/
def State.onFoundingAnnounce (s : State) (f : Frame) : State :=
  let b := f.body
  let s1 := { s with repl.founding.quietSince := s.tm.now }
  if b.length = 16 ∧ mayFound s ∧ u32 b 12 = tableIdentity s ∧ (!s.repl.founding.founder || s.fab.master == some f.origin) then
    let s2 := s1.foundBase
    { s2 with repl.founding := { s2.repl.founding with
        founder := false, ef := some (liftEpoch s2 (u32 b 4)), founderNode := u16 b 8 } }
  else s1

/-- A node that is to be founded by another. -/
def mayFollow (s : State) : Bool := mayFound s && !s.repl.founding.founder && synchronised s

/-- The node awaits a roster: it may send ready. -/
def awaitsRoster (s : State) (ef : Nat) : Bool :=
  mayFollow s && decide (s.repl.founding.parts.length < 3)
    && decide ((fabUs s).getD 0 < epochStart s (ef + 2))

/-- FOUNDING_READY_SEND: every 100 ms. -/
def execFoundingReadySend (s : State) : Out :=
  .next (match s.repl.founding.ef with
    | some ef =>
      if awaitsRoster s ef ∧ s.repl.founding.readyDue ≤ s.tm.now then
        { s with repl.founding.readyDue := s.tm.now + 100000 }.originate 0x04 s.repl.founding.founderNode
          (foundingBody s 2 0 0 ef s.repl.founding.founderNode [])
      else s
    | none => s)

/-- FOUNDING_READY_RECEIVED: the founder collects the roster until E_F starts. -/
def State.onFoundingReady (s : State) (f : Frame) : State :=
  match s.repl.founding.ef with
  | some ef =>
    if f.body.length = 16 ∧ s.repl.founding.founder ∧ (fabUs s).getD 0 < epochStart s ef
        ∧ u32 f.body 4 = ef % 0x100000000 ∧ u32 f.body 12 = tableIdentity s then
      { s with repl.founding.ready := ins s.repl.founding.ready f.origin }
    else s
  | none => s

/-- FOUNDING_ROSTER_RECEIVED: a part is held. -/
def State.onFoundingRoster (s : State) (f : Frame) : State :=
  let b := f.body
  let part := u8 b 1
  match s.repl.founding.ef with
  | some ef =>
    if mayFound s ∧ !s.repl.founding.founder ∧ part < 3 ∧ u8 b 2 = 3 ∧ u32 b 4 = ef % 0x100000000
        ∧ b.length = (if part = 2 then 176 else 192) then
      let nodes := (bitsOf (b.drop 16)).map fun k => 1408 * part + k
      { s with repl.founding.parts := put s.repl.founding.parts part nodes }
    else s
  | none => s

/-- The founder sends the three roster parts (R478). -/
def State.sendRoster (s : State) (ef : Nat) : State :=
  (List.range 3).foldl (fun (acc : State) p =>
    let size := if p = 2 then 160 else 176
    let bits := (s.repl.founding.ready.filter fun n => decide (1408 * p ≤ n ∧ n < 1408 * p + 8 * size)).map fun n =>
      n - 1408 * p
    acc.originate 0x04 0xFFFF (foundingBody s 3 p 3 ef s.node (bitmap size bits)))
    { s with repl.founding.rosterSent := s.repl.founding.rosterSent + 1 }

/-- The roster as this node knows it. -/
def rosterOf (s : State) : List Nat :=
  if s.repl.founding.founder then s.repl.founding.ready else s.repl.founding.parts.flatMap (·.2)

/-- At the start of E_F: the founding state (R479), at the founder and at every node that may follow it. -/
def State.foundingStart (s : State) (ef : Nat) : State :=
  if s.repl.founding.founder ∨ mayFollow s then
    { s with repl.rep := foundingReplica s s.repl.founding.founderNode, repl.lastEval := some (ef - 1)
             repl.lastEvalAt := s.tm.now, repl.emitted := [], repl.released := [] }
  else s

/-- At the start of E_F + 2: the founder and the roster are members; they enter GUARD and republish. -/
def State.foundingJoin (s : State) (ef : Nat) : State :=
  let f := s.repl.founding
  if f.founder || (decide (f.parts.length = 3) && (rosterOf s).contains s.node) then
    let s1 := { s with repl.member := true, repl.since := ef + 2, repl.republish := true, repl.founding.holdEnd := some (ef + 101) }
    (s1.log 0x0318 (le 4 ef ++ le 2 f.founderNode ++ le 2 (rosterOf s).length ++ zeros 2)).enterGuard
  else { s with repl.lastEval := none, repl.rep := {}, repl.founding := { quietSince := f.quietSince } }

/-- What the start of an epoch means for founding. -/
def State.foundingBoundary (s : State) (e : Nat) : State :=
  match s.repl.founding.ef with
  | some ef =>
    if s.repl.member then s
    else
      let s1 := if s.repl.founding.founder ∧ (e = ef ∨ e = ef + 1) then s.sendRoster ef else s
      if e = ef then s1.foundingStart ef
      else if e = ef + 2 ∧ s1.repl.lastEval.isSome then s1.foundingJoin ef
      else s1
  | none => s

end Sys2Proof.Machine
end

