-- ==== Sys2Proof/Machine/ChanCfg.lean ====
section
/-! DEFINITION. A channel's entry of its bank region as the node reads it (Tables 10-1, 11-1 and 12-2). -/

namespace Sys2Proof.Machine

/-- An instrument entry of a loop channel (Table 12-2). -/
structure InstCfg where
  slot : Nat
  poll : Nat
  deriving DecidableEq, Repr, Inhabited

/-- A channel entry: the fields of Tables 10-1 and 12-2; `raw` holds all 256 bytes. -/
structure ChanCfg where
  mode      : Nat
  gain      : Nat
  rate      : Nat
  sinc5     : Bool
  pulsed    : Bool
  ratio     : Bool
  interval  : Nat
  exc       : Nat
  excUa     : Nat
  lead      : Nat
  pos       : Nat
  neg       : Nat
  excT      : Nat
  bias      : Nat
  biasMode  : Nat
  wire      : Bool
  longCable : Bool
  wireS     : Nat
  openKohm  : Nat
  deadband  : Word
  noRove    : Bool
  failHigh  : Bool
  safe      : Nat
  fsk       : Bool
  multidrop : Bool
  instCount : Nat
  termV     : Nat
  tag       : Nat
  spanLow   : Word
  spanHigh  : Word
  insts     : List InstCfg
  raw       : Bytes
  deriving DecidableEq, Repr, Inhabited

def ChanCfg.ofBytes (b : Bytes) : ChanCfg :=
  { mode := u8 b 0, gain := u8 b 1, rate := u8 b 2, sinc5 := (u8 b 3).testBit 0, pulsed := u8 b 4 == 1
    ratio := u8 b 5 == 1, interval := u16 b 6, exc := u8 b 8, excUa := u16 b 10, lead := u16 b 12
    pos := u8 b 14, neg := u8 b 15, excT := u8 b 16, bias := u8 b 17, biasMode := u8 b 18
    wire := (u8 b 19).testBit 0, longCable := (u8 b 19).testBit 1, wireS := u16 b 20, openKohm := u16 b 22
    deadband := word32 b 24, noRove := u8 b 28 == 1, failHigh := u8 b 192 == 1, safe := u8 b 193
    fsk := (u8 b 194).testBit 0, multidrop := (u8 b 194).testBit 1, instCount := u8 b 195, termV := u16 b 196
    tag := u32 b 200 % 0x40000, spanLow := word32 b 204, spanHigh := word32 b 208
    insts := (List.range (min 8 (u8 b 195))).map fun i => { slot := u8 b (224 + 4 * i), poll := u8 b (225 + 4 * i) }
    raw := b }

/-- Entry of node-wide channel 0 to 31. -/
def chanCfg (s : State) (ch : Nat) : ChanCfg :=
  .ofBytes (regBytes s (82 + ch / 8) (32 + 256 * (ch % 8)) 256)

/-- Hold time of a bank in ms (R356). -/
def bankHold (s : State) (bank : Nat) : Nat := u16 (regBytes s (82 + bank) 0 2) 0

/-! ## Rates, settling and the wire-check tone (Table 10-4) -/

/-- T of a rate in µs. -/
def rateUs (r : Nat) : Nat := [100000, 50000, 40000, 20000, 10000, 5000, 2000, 1000, 500, 250].getD r 250

/-- Samples per second of a rate code. -/
def rateSps (r : Nat) : Nat := [10, 20, 25, 50, 100, 200, 500, 1000, 2000, 4000].getD r 4000

/-- Sub-conversions of a result (R293, R294). -/
def subCount (k : ChanCfg) (chop : Bool) : Nat := (if k.mode = 4 then 2 else 1) * (if chop then 2 else 1)

/-- m × n × T in µs: from the filter start to the first result at a rate, chopped or not (R291, R293). -/
def settleUs (k : ChanCfg) (rate : Nat) (chop : Bool) : Nat := subCount k chop * (if k.sinc5 then 5 else 3) * rateUs rate

/-- Result time of a pulsed channel as configured, in µs (R293). -/
def resultUs (k : ChanCfg) : Nat := k.lead + settleUs k k.rate false

/-- f_t in Hz: the smallest multiple of the rate that is at least 2,000 Hz, or 200 Hz for a long cable (R300). -/
def toneHz (k : ChanCfg) (rate : Nat) : Nat := ceilDiv (if k.longCable then 200 else 2000) (rateSps rate) * rateSps rate

/-- D in µs (R301). -/
def windowUs (k : ChanCfg) (rate : Nat) : Nat := max 2000 (ceilDiv 4000000 (toneHz k rate))

/-- Loop modes (Table 12-1); output modes drive the loop. -/
def isLoopMode (m : Nat) : Bool := decide (7 ≤ m ∧ m ≤ 10)
def isOutputMode (m : Nat) : Bool := decide (m = 9 ∨ m = 10)

/-- The channel of an instrument slot and its entry (R66, R344). -/
def slotChannel (s : State) (slot : Nat) : Option (Nat × InstCfg) :=
  (List.range 32).findSome? fun ch =>
    let k := chanCfg s ch
    if isLoopMode k.mode then (k.insts.find? (·.slot == slot)).map fun i => (ch, i) else none

end Sys2Proof.Machine
end

