-- ==== Sys2Proof/Machine/Authority.lean ====
section
/-! DEFINITION. Port authority (chapter 03): the factory default matrix, the matrix the fuses give, and the
decision of step 6. -/

namespace Sys2Proof.Machine

/-- Pack the codes of classes 1 to 16 (R79). -/
def packCodes (l : List Nat) : Nat := (l.zipIdx.map fun p => p.1 * 4 ^ p.2).sum

/-- Codes of the factory default matrix (Table 03-4), classes in the order of Table 03-1. -/
def defaultCodes (port : Nat) : List Nat :=
  if port ≤ 1 then [3, 3, 3, 3, 3, 3, 3, 2, 3, 3, 3, 3, 2, 0, 1, 3]
  else if port = 2 then List.replicate 16 2
  else if port ≤ 6 then [3, 3, 3, 3, 3, 3, 3, 1, 3, 3, 3, 3, 3, 0, 1, 3]
  else [3, 3, 3, 3, 3, 3, 3, 3, 3, 3, 3, 3, 3, 0, 1, 3]

/-- Code of a class in a matrix word (R79). -/
def codeOf (m : Word) (cls : Nat) : Nat := m.toNat / 4 ^ (cls - 1) % 4

/-- Blown SEAL and INJ_ALLOW bits (Table 03-3). -/
def sealBits (s : State) : Nat := [8, 9, 10].countP fun i => (fuse s 20).toNat.testBit i
def injBits (s : State) : Nat := [0, 1, 2].countP fun i => (fuse s 20).toNat.testBit i

/-- Effective word of a port before R75 (R80). -/
def effectiveWord (s : State) (sealed : Bool) (port : Nat) : Word :=
  if sealed then
    let a := fuse s port
    let b := fuse s (8 + port)
    BitVec.ofNat 32 (packCodes ((List.range 16).map fun i => if codeOf a (i + 1) = codeOf b (i + 1) then codeOf a (i + 1) else 0))
  else BitVec.ofNat 32 (packCodes (defaultCodes port))

/-- R75: `SVC` has at least code 01 for NODE and SEC. -/
def floorSvc (m : Word) : Word :=
  BitVec.ofNat 32 (packCodes ((List.range 16).map fun i =>
    let c := codeOf m (i + 1)
    if i = 0 ∨ i = 14 then max 1 c else c))

/-- Derive the state of R80 from the fuses, R75 last. -/
def State.deriveAuthority (s : State) : State :=
  let sealed := decide (2 ≤ sealBits s)
  { s with
    sec.sealed := sealed, sec.injAllowed := decide (injBits s ≤ 1)
    sec.matrix := (List.range 8).map fun p =>
      let w := effectiveWord s sealed p
      if p = 2 then floorSvc w else w }

/-- Matrix words whose copies differ, and whether the identifier's do (R88). -/
def mismatchMask (s : State) : Nat :=
  flagBits ((List.range 8).map fun p => decide (fuse s p ≠ fuse s (8 + p)))
def identMismatch (s : State) : Bool := decide (fuse s 16 ≠ fuse s 18 ∨ fuse s 17 ≠ fuse s 19)

/-- Acting opcodes are 0x40 to 0xFF (R73). -/
def acting (opcode : Nat) : Bool := decide (0x40 ≤ opcode % 256)

/-- The fuse programming opcodes of Table 03-5. -/
def programs (opcode : Nat) : Bool := decide (0x0F40 ≤ opcode ∧ opcode ≤ 0x0F42)

/-- The decision of step 6 (Table 03-2, R82); none admits. -/
def authority (s : State) (port opcode : Nat) : Option Nat :=
  let code := codeOf (nth s.sec.matrix port) (opcode / 256)
  if code = 0 then some Status.notPermittedPort
  else if !acting opcode then none
  else if code = 1 then some Status.notPermittedPort
  else if programs opcode && decide (port ≠ 2) then some Status.notPermittedPort
  else if code = 2 && !s.sec.keyClosed then some Status.keyRequired
  else if programs opcode && !s.sec.keyClosed then some Status.keyRequired
  else none

/-- Count a refusal of step 6 (R89). -/
def State.countRefusal (s : State) (port status : Nat) : State :=
  if status = Status.notPermittedPort then
    { s with ports.refusedPort := upd s.ports.refusedPort port fun n => sat32 (n + 1) }
  else if status = Status.keyRequired then
    { s with ports.refusedKey := upd s.ports.refusedKey port fun n => sat32 (n + 1) }
  else s

/-- A refusal for want of authority that an opcode's own rule gives past step 6 (R82, R530) is counted like one of
step 6 (R89). -/
def refuseAuthority (s : State) (c : Cmd) (status : Nat) : Answer := refuse (s.countRefusal c.port status) status

/-- SEC.PORTS after its status (R89). -/
def secPortsData (s : State) : Bytes :=
  le 1 (if s.sec.keyClosed then 1 else 0) ++ le 1 (if s.sec.sealed then 1 else 0)
    ++ (List.range 8).flatMap fun p =>
      le 4 (nth s.sec.matrix p).toNat ++ le 4 (nth s.ports.refusedPort p) ++ le 4 (nth s.ports.refusedKey p)

def execSecPorts (c : Cmd) (s : State) : Out := runPlain 0x0F01 c s secPortsData

/-- SEC.FUSES after its status (R88). -/
def secFusesData (s : State) : Bytes :=
  ((List.range 32).flatMap fun w => le 4 (fuse s w).toNat) ++ le 1 (sealBits s) ++ le 1 (injBits s)
    ++ le 1 (mismatchMask s) ++ le 1 (if identMismatch s then 1 else 0)

def execSecFuses (c : Cmd) (s : State) : Out := runPlain 0x0F02 c s secFusesData

end Sys2Proof.Machine
end

