-- ==== Sys2Proof/Machine/Admission.lean ====
section
/-! DEFINITION. Commands from the ports to the command processor (chapter 02): transports, the admission steps of
Table 02-3, duplicate windows, relaying, and the opcode's command. -/

namespace Sys2Proof.Machine

/-! ## The opcode table -/

/-- The command of an opcode; where several rows share an opcode, the action byte of the payload tells them
apart. -/
def instrOf (opcode : Nat) (c : Cmd) : Option Instr :=
  let act := u8 c.payload 0
  match opcode with
  | 0x0101 => some (.nodeIdentify c) | 0x0102 => some (.nodeStatus c) | 0x0103 => some (.nodeSubscribe c)
  | 0x0104 => some (.nodeRingStatus c) | 0x0105 => some (.nodeLanes c) | 0x0106 => some (.nodeClocks c)
  | 0x0140 => some (.nodeSetProfile c) | 0x0141 => some (.nodePrepareOff c)
  | 0x0201 => some (.tagRead c) | 0x0202 => some (.tagReadRange c)
  | 0x0301 => some (.alarmList c) | 0x0302 => some (.alarmGroupList c) | 0x0303 => some (.alarmBundle c)
  | 0x0304 => some (.alarmEdges c) | 0x0340 => some (.alarmAck c) | 0x0341 => some (.alarmShelve c)
  | 0x0342 => some (.alarmUnshelve c) | 0x0343 => some (.alarmSetOos c) | 0x0344 => some (.alarmClearOos c)
  | 0x0345 => some (.alarmReset c) | 0x0346 => some (.alarmAckBundle c)
  | 0x0401 => some (.callStatus c)
  | 0x0440 => some (if act = 2 then .callSetWatchAccept c else if act = 3 then .callSetWatchWithdraw c
                    else .callSetWatchOffer c)
  | 0x0441 => some (.callDeadman c) | 0x0442 => some (.callRelayTest c)
  | 0x0501 => some (.chanRead c) | 0x0502 => some (.chanMap c) | 0x0503 => some (.chanCj c)
  | 0x0540 => some (.chanRetire c) | 0x0541 => some (.chanRestore c) | 0x0542 => some (.chanCheck c)
  | 0x0601 => some (.loopStatus c) | 0x0640 => some (.loopTransact c)
  | 0x0641 => some (if u32 c.payload 4 = 0xFFFFFFFF then .loopForceRelease c else .loopForce c)
  | 0x0701 => some (.dioRead c)
  | 0x0740 => some (if u8 c.payload 1 = 2 then .dioWriteForce c else if u8 c.payload 1 = 3 then .dioWriteRelease c
                    else .dioWriteHostSet c)
  | 0x0741 => some (.dioRestore c)
  | 0x0801 => some (.recInfo c) | 0x0802 => some (.recRead c) | 0x0840 => some (.recFreeze c)
  | 0x0841 => some (.recThaw c) | 0x0842 => some (.recClear c)
  | 0x0901 => some (.dispStatus c) | 0x0940 => some (.dispShowPage c) | 0x0941 => some (.dispClear c)
  | 0x0A01 => some (.fabStatus c) | 0x0A02 => some (.fabMembers c)
  | 0x0B01 => some (.timeRead c) | 0x0B40 => some (.timeSetWallmap c) | 0x0B41 => some (.timeSetSystem c)
  | 0x0C01 => some (.ageLedger c) | 0x0C40 => some (.ageReplan c)
  | 0x0D01 => some (.cfgStatus c) | 0x0D40 => some (.cfgBegin c) | 0x0D41 => some (.cfgWrite c)
  | 0x0D42 => some (.cfgCommit c) | 0x0D43 => some (.cfgAbandon c) | 0x0D44 => some (.cfgActivate c)
  | 0x0E01 => some (.injStatus c) | 0x0E40 => some (.injArm c) | 0x0E41 => some (.injDisarm c)
  | 0x0F01 => some (.secPorts c) | 0x0F02 => some (.secFuses c) | 0x0F40 => some (.secProgram c)
  | 0x0F41 => some (.secSeal c) | 0x0F42 => some (.secWithdrawInj c)
  | 0x1001 => some (.snapRead c) | 0x1040 => some (.snapSchedule c)
  | _ => none

def noCmd : Cmd :=
  { port := 0, orig := .internal, origNode := 0, origPort := 0, seq := 0, crc := 0, slot := 0, payload := [] }

/-- Opcodes assigned (R36). -/
def assigned (opcode : Nat) : Bool := (instrOf opcode noCmd).isSome

/-! ## Replies without execution (R37, R68) -/

/-- A reply of status alone to a packet as received. -/
def statusReply (s : State) (p : Bytes) (status : Nat) : Bytes :=
  packet (u16 p 2 ||| 0x8000) (u16 p 6) (s.node * 64) 0 (le 2 status)

def State.refusePkt (s : State) (port : Nat) (i : InPkt) (status : Nat) : State :=
  s.pushOut port { dest := i.orig, origPort := i.origPort, pkt := statusReply s i.pkt status }

/-- A command as the packet spells it. -/
def cmdOf (port : Nat) (i : InPkt) : Cmd :=
  { port, orig := i.orig, origNode := i.origNode, origPort := i.origPort, seq := pktSeq i.pkt
    crc := BitVec.ofNat 32 (pktCrc i.pkt), slot := pktTarget i.pkt % 64, payload := pktPayload i.pkt }

/-- A refusal of a command already entered in its window: its reply is the last one sent for it (R39). -/
def State.refuseEntered (s : State) (port : Nat) (i : InPkt) (status : Nat) : State :=
  (s.storeReply (cmdOf port i) (statusReply s i.pkt status)).refusePkt port i status

/-- A packet on `SVC`. -/
def svcPkt (s : State) (p : Bytes) : InPkt := { orig := .svc, origNode := s.node, origPort := 2, pkt := p }

/-- Place a received packet on its command ring; a full ring answers QUEUE_FULL from the reserve, or in a relay
body (R68). -/
def State.placePkt (s : State) (port : Nat) (i : InPkt) : State :=
  let ring : List InPkt := nth s.ports.inRings port
  if ring.length < 256 then
    { s with ports.inRings := upd s.ports.inRings port (· ++ [i]) }.ringUsed port (ring.length + 1)
  else
    let s1 := s.ringDrop port
    let out : OutPkt := { dest := i.orig, origPort := i.origPort, pkt := statusReply s i.pkt Status.queueFull }
    if port ≤ 2 then
      if (nth s.ports.reserve port).length < 8 then { s1 with ports.reserve := upd s1.ports.reserve port (· ++ [out]) } else s1
    else s1.pushOut port out

/-! ## Host ports (R54 to R57) -/

def State.dropDatagram (s : State) : State := { s with ports.dgDrops := sat32 (s.ports.dgDrops + 1) }

/-- HOST_DATAGRAM_RECEIVED. A held node answers `SVC` only (R482). -/
def execHostDatagramReceived (d : Datagram) (s : State) : Out :=
  .next (
    if s.core ≠ .running ∨ 1 < d.port ∨ s.pw.heldStart then s
    else
      let mine := hostAddress s d.port
      let mtu := if hasImage s then mtuOf s s.node d.port else 1500
      if mine = 0 ∨ d.dstIp.toNat ≠ mine ∨ d.dstUdp ≠ 47250 ∨ d.fragment ∨ d.ipOptions ∨ d.checksumBad ∨ d.tagged
          ∨ mtu < d.ipLen ∨ d.payload.length < 16 then s.dropDatagram
      else if sub d.payload 0 2 ≠ [0xD7, 0x4E] then { s with ports.badMarker := sat32 (s.ports.badMarker + 1) }
      else
        s.placePkt d.port { orig := .host d.port d.srcIp d.srcUdp, origNode := s.node, origPort := d.port, pkt := d.payload })

/-- ARP_REQUEST (R54, R57). -/
def execArpRequest (port : Nat) (targetIp : Word) (s : State) : Out :=
  .next (
    if s.core = .running ∧ port ≤ 1 ∧ !s.pw.heldStart ∧ hostAddress s port ≠ 0 ∧ targetIp.toNat = hostAddress s port then
      { s with ports.arpSent := upd s.ports.arpSent port (· + 1) }
    else s)

/-- ICMP_ECHO_REQUEST: up to 1,500 B, at most 100 a second on each port; every other one is dropped silently and counted
(R54). The manual does not say how the second is measured: a fixed window of 1 s that begins with the first echo after
the window before has ended (log entry 81, DESIGN CHOICE). -/
def execIcmpEchoRequest (port : Nat) (targetIp : Word) (ipLen : Nat) (s : State) : Out :=
  .next (
    if s.core ≠ .running ∨ 1 < port ∨ s.pw.heldStart then s
    else if hostAddress s port ≠ 0 ∧ targetIp.toNat = hostAddress s port ∧ ipLen ≤ 1500 then
      let (n, since) := nth s.ports.echo port
      let (n, since) := if since + 1000000 ≤ s.tm.now then (0, s.tm.now) else (n, since)
      if n < 100 then
        { s with
          ports.echo := upd s.ports.echo port fun _ => (n + 1, since)
          ports.echoSent := upd s.ports.echoSent port (· + 1) }
      else { s with ports.echo := upd s.ports.echo port fun _ => (n, since) }.dropDatagram
    else s.dropDatagram)

/-- HOST_LINK_CHANGE (R57, R484): speed 0 down, 1 100BASE-TX, 2 1000BASE-T. -/
def execHostLinkChange (port speed : Nat) (s : State) : Out :=
  .next (if speed ≤ 2 then { s with ports.links := upd s.ports.links port fun _ => speed } else s)

/-! ## Service port (R58 to R61) -/

/-- Hunt through the bytes collected on `SVC` (R59). -/
def State.svcScan : Nat → State → Bytes → State
  | 0, s, buf => { s with ports.svcBuf := buf }
  | fuel + 1, s, buf =>
    match buf with
    | [] => { s with ports.svcBuf := [] }
    | [b] => { s with ports.svcBuf := if b = 0xD7 then [b] else [] }
    | a :: b :: rest =>
      if a ≠ 0xD7 ∨ b ≠ 0x4E then State.svcScan fuel s (b :: rest)
      else if buf.length < 16 then { s with ports.svcBuf := buf }
      else
        let n := u16 buf 4
        if 4080 < n then State.svcScan fuel (s.refusePkt 2 (svcPkt s buf) Status.lenRange) rest
        else if buf.length < 20 + n then { s with ports.svcBuf := buf }
        else
          let p := buf.take (20 + n)
          if crc32c (p.take (16 + n)) ≠ pktCrc p then State.svcScan fuel (s.refusePkt 2 (svcPkt s buf) Status.crcBad) rest
          else
            State.svcScan fuel (s.placePkt 2 (svcPkt s p))
              (buf.drop (20 + n))

def execSvcBytesReceived (bytes : Bytes) (s : State) : Out :=
  .next (
    if s.core = .running ∧ s.ports.usb then
      let buf := s.ports.svcBuf ++ bytes
      State.svcScan (buf.length + 1) { s with ports.svcLast := s.tm.now } buf
    else s)

/-- SVC_PACKET_TIMEOUT (R60): hunting goes on at the byte after the marker. -/
def execSvcPacketTimeout (s : State) : Out :=
  .next (
    if s.core = .running ∧ s.ports.svcBuf.take 2 = [0xD7, 0x4E] ∧ s.ports.svcLast + 100000 ≤ s.tm.now then
      State.svcScan (s.ports.svcBuf.length + 1)
        { s with ports.svcTimeouts := sat32 (s.ports.svcTimeouts + 1) } (s.ports.svcBuf.drop 2)
    else s)

/-- USB_ENUMERATION (R61, R51): what waits for `SVC` goes, with its originator and subscription. -/
def execUsbEnumeration (s : State) : Out :=
  .next (
    if s.core = .running then
      { s with
        ports.usb := true, ports.svcBuf := []
        ports.outRings := upd s.ports.outRings 2 fun _ => []
        ports.reserve := upd s.ports.reserve 2 fun _ => []
        ports.notifs := upd s.ports.notifs 4 fun r =>
          { r with items := r.items.map fun n => if n.only.any fun u => u.port == 2 then { n with sent := true } else n }
        ports.windows := s.ports.windows.filter (·.port != 2)
        ports.subs := s.ports.subs.filter (·.port != 2) }
    else s)

/-! ## Windows and subscriptions (R39 to R41, R49) -/

/-- Drop the entries older than 30 s. -/
def State.expireWindows (s : State) : State :=
  let keep (w : Window) : Window := { w with entries := w.entries.filter fun e => decide (s.tm.now < e.entered + 30000000) }
  { s with ports.windows := s.ports.windows.map keep }

def execDuplicateWindowExpiry (s : State) : Out := .next (if s.core = .running then s.expireWindows else s)

/-- A notification packet for a subscriber (R46). -/
def notifPacket (s : State) (u : Subscription) (n : Notif) : Bytes :=
  packet n.opcode (u.count % 65536) (s.node * 64) 0
    (le 4 n.epoch ++ le 4 n.locator ++ le 2 u.lost ++ zeros 2 ++ n.body)

/-- SUBSCRIPTION_LAPSED (R47, R48, R51): placed on Q31 once for the subscriber whose lease ends, and for no other. -/
def execSubscriptionLapsed (s : State) : Out :=
  .next (
    if s.core = .running then
      let due (u : Subscription) : Bool := decide (u.leaseEnd ≤ s.tm.now)
      (s.ports.subs.filter due).foldl
        (fun (acc : State) u => acc.pushNotif
          { opcode := 0xC0F1, epoch := epochField s, locator := 0xFFFFFFFF, body := [], only := some u })
        { s with ports.subs := s.ports.subs.filter fun u => !due u }
    else s)

/-- An originator with a window was heard (R41). -/
def State.markWindow (s : State) (port : Nat) (o : Originator) : State :=
  let mark (w : Window) : Window := if w.isOf port o = true then { w with lastSeen := s.tm.now } else w
  { s with ports.windows := s.ports.windows.map mark }

/-- Find or make the window of an originator whose acting command passed step 6; a full table loses the one longest
silent (R39, R41). -/
def State.touchWindow (s : State) (port : Nat) (o : Originator) : State :=
  if s.ports.windows.any fun w => w.isOf port o then s.markWindow port o
  else
    let same := s.ports.windows.filter fun w => (tableOf w.port).1 == (tableOf port).1
    let oldest := same.foldl (fun (acc : Option Window) w => match acc with
      | none => some w
      | some v => if w.lastSeen < v.lastSeen then some w else some v) none
    let ws := if same.length < (tableOf port).2 then s.ports.windows else match oldest with
      | some v => s.ports.windows.erase v
      | none => s.ports.windows
    { s with ports.windows := { port := port, orig := o, lastSeen := s.tm.now, entries := [] } :: ws }

def windowOf (s : State) (port : Nat) (o : Originator) : List WinEntry :=
  ((s.ports.windows.find? fun w => w.isOf port o).map (·.entries)).getD []

/-- Enter an acting command; 64 newer ones push the oldest out. -/
def State.enterWindow (s : State) (port : Nat) (o : Originator) (e : WinEntry) : State :=
  let add (w : Window) : Window :=
    if w.isOf port o = true then { w with entries := (e :: w.entries).take 64 } else w
  { s with ports.windows := s.ports.windows.map add }

/-! ## Relaying (R62 to R65, R227) -/

/-- Send a relay body in RELAY_SEGMENT frames. -/
def State.sendRelay (s : State) (dest tag dir : Nat) (body : Bytes) : State :=
  let n := ceilDiv body.length 232
  (List.range n).foldl (fun (acc : State) i =>
    acc.originate 0x20 dest (le 2 tag ++ le 1 dir ++ le 1 i ++ le 1 n ++ zeros 1 ++ le 2 body.length
      ++ (body.drop (232 * i)).take 232)) s

/-- The relay body of Table 02-8. -/
def relayBody (origNode origPort dir tag : Nat) (pkt : Bytes) : Bytes :=
  le 4 (origNode * 64) ++ le 1 origPort ++ le 1 dir ++ le 2 tag ++ pkt

/-- The target cannot be reached (R64). -/
def unreachable (s : State) (n : Nat) : Bool :=
  !(nodeEntry s n).used || (decide (3 ≤ s.repl.rep.absents.length) && s.repl.rep.absents.all fun h => absentIn h n)

/-- Keep the relay tag of a relayed command in its window entry, if it has one (R64). -/
def State.noteTag (s : State) (port : Nat) (i : InPkt) (tag : Nat) : State :=
  let c := cmdOf port i
  let note (w : Window) : Window :=
    if w.isOf port i.orig = true then
      { w with entries := w.entries.map fun e => if e.seq = c.seq ∧ e.crc = c.crc then { e with relayTag := some tag } else e }
    else w
  { s with ports.windows := s.ports.windows.map note }

/-- Relay a command of P0 to P2 under its tag, or refuse it (R62, R64, R65). The command's own record, where it is a
retransmission, is not counted against the 64. -/
def State.relay (s : State) (i : InPkt) (port target : Nat) (known : Option Nat) : State :=
  if unreachable s target then s.refuseEntered port i Status.stationUnreachable
  else if 64 ≤ s.ports.relays.countP (fun r => r.counted && decide (known ≠ some r.tag)) then
    s.refuseEntered port i Status.queueFull
  else if 256 < outUsed s 2 + ceilDiv (i.pkt.length + 8) 232 then
    (s.refuseEntered port i Status.queueFull).ringDrop 22
  else
    let tag := known.getD s.ports.relayTag
    let s1 := if known.isSome then s else { s with ports.relayTag := (s.ports.relayTag + 1) % 0x10000 }
    let rs := (s1.ports.relays.filter (·.tag != tag)) ++ [{ tag, cmd := i, port, sentAt := s.tm.now, counted := true }]
    let s2 := ({ s1 with ports.relays := rs } : State).noteTag port i tag
    s2.sendRelay target tag 0 (relayBody s.node port 0 tag i.pkt)

/-- RELAY_REPLY_TIMEOUT: no reply 1,000 ms after the frame (R64). -/
def execRelayReplyTimeout (s : State) : Out :=
  .next (
    if s.core = .running then
      let due (r : RelayOut) : Bool := r.counted && decide (r.sentAt + 1000000 ≤ s.tm.now)
      (s.ports.relays.filter due).foldl
        (fun (acc : State) r => acc.refusePkt r.port r.cmd Status.stationUnreachable)
        { s with ports.relays := s.ports.relays.filter fun r => !due r }
    else s)

/-- RELAY_REASSEMBLY_TIMEOUT: 100 ms after the first segment (R227). -/
def execRelayReassemblyTimeout (s : State) : Out :=
  .next (
    if s.core = .running then
      let due (a : RelayAsm) : Bool := decide (a.first + 100000 ≤ s.tm.now)
      { s with
        ports.asms := s.ports.asms.filter fun a => !due a
        ports.asmDrops := sat32 (s.ports.asmDrops + s.ports.asms.countP due) }
    else s)

/-- A relayed reply at the origin: the enclosed packet goes to the host unchanged (R62, R65). -/
def State.relayReply (s : State) (tag : Nat) (p : Bytes) : State :=
  match s.ports.relays.find? (·.tag == tag) with
  | none => s
  | some r =>
    let pending := decide (u16 (pktPayload p) 0 = Status.acceptedPending)
    let rest := s.ports.relays.filter (·.tag != tag)
    let s1 := { s with ports.relays := if pending then rest ++ [{ r with counted := false }] else rest }
    s1.pushOut r.port { dest := r.cmd.orig, pkt := p }

/-- A complete relay message (R62). A command goes to the ring of the fabric port it came by. -/
def State.relayMessage (s : State) (inPort origin dir : Nat) (b : Bytes) : State :=
  let node := u32 b 0 / 64
  let port := u8 b 4
  let tag := u16 b 6
  let p := b.drop 8
  if u8 b 5 ≠ dir ∨ 0x40000 ≤ u32 b 0 ∨ 2 < port ∨ p.length < 20 then s
  else if dir = 0 then
    if node = origin then
      s.placePkt (3 + inPort) { orig := .relay node tag, origNode := node, origPort := port, pkt := p }
    else s
  else if node = s.node then s.relayReply tag p
  else s

/-- RELAY_SEGMENT_RECEIVED (R227): segments are assembled by origin, tag and direction. -/
def State.onRelaySegment (s : State) (port : Nat) (f : Frame) : State :=
  let b := f.body
  let tag := u16 b 0
  let dir := u8 b 2
  let i := u8 b 3
  let n := u8 b 4
  let total := u16 b 6
  let size := if i + 1 = n then total - 232 * i else 232
  if b.length < 9 ∨ 1 < dir ∨ n = 0 ∨ 18 < n ∨ n ≤ i ∨ !allZero b 5 1 ∨ total < 28 ∨ 4108 < total
      ∨ ceilDiv total 232 ≠ n ∨ b.length ≠ 8 + size then s
  else
    let mine (a : RelayAsm) : Bool := a.origin == f.origin && a.tag == tag && a.dir == dir
    let found := s.ports.asms.find? mine
    if found.isNone ∧ 256 ≤ s.ports.asms.length then { s with ports.asmDrops := sat32 (s.ports.asmDrops + 1) }
    else
      let a : RelayAsm := found.getD { origin := f.origin, tag, dir, inPort := port, first := s.tm.now, count := n, total,
                                       segs := [] }
      let a1 := { a with segs := put a.segs i (b.drop 8) }
      let rest := s.ports.asms.filter fun x => !mine x
      if a1.segs.length = a1.count then
        let bs : Bytes := a1.segs.flatMap fun (p : Nat × Bytes) => p.2
        ({ s with ports.asms := rest } : State).relayMessage a1.inPort f.origin dir bs
      else { s with ports.asms := rest ++ [a1] }

/-! ## Steps 2 to 8 (Table 02-3) -/

/-- Step 8: relay, refuse or execute here. A node without an image has no number yet: every target is its own (log
entry 30). The manual gives no case for a packet that arrives by a fabric port and targets another node's station: it
is answered STATION_UNREACHABLE (log entry 82, DESIGN CHOICE). -/
def State.step8 (s : State) (port : Nat) (i : InPkt) (relayTag : Option Nat) : State × Option Instr :=
  let p := i.pkt
  let node := pktTarget p / 64
  let c := cmdOf port i
  if hasImage s ∧ node ≠ s.node then
    if port ≤ 2 then (s.relay i port node relayTag, none)
    else (s.refuseEntered port i Status.stationUnreachable, none)
  else if c.slot ≠ 0 ∧ (slotChannel s c.slot).isNone then (s.refuseEntered port i Status.paramRange, none)
  else (s, instrOf (pktOpcode p) c)

/-- Take a packet from a command ring through steps 2 to 8: the state with what was counted, replied or relayed,
and the command to execute. -/
def State.admitPacket (s : State) (port : Nat) (i : InPkt) : State × Option Instr :=
  let p := i.pkt
  let n := pktLength p
  let op := pktOpcode p
  if 4080 < n ∨ p.length ≠ 20 + n then (s.refusePkt port i Status.lenRange, none)
  else if crc32c (p.take (16 + n)) ≠ pktCrc p then (s.refusePkt port i Status.crcBad, none)
  else if pktFlags p ≠ 0 ∨ !allZero p 12 4 then (s.refusePkt port i Status.paramRange, none)
  else if !assigned op then (s.refusePkt port i Status.opcodeUnknown, none)
  else match authority s port op with
    | some st => ((s.refusePkt port i st).countRefusal port st, none)
    | none =>
      if !acting op ∨ port = 7 then (s.markWindow port i.orig).step8 port i none
      else
        let s1 := (s.touchWindow port i.orig).expireWindows
        match (windowOf s1 port i.orig).find? (·.seq == pktSeq p) with
        | some e =>
          if e.crc.toNat ≠ pktCrc p then (s1.refusePkt port i Status.seqReused, none)
          else if e.relayTag.isSome then s1.step8 port i e.relayTag
          else match e.reply with
            | some r => (s1.pushOut port { dest := i.orig, origPort := i.origPort, pkt := r }, none)
            | none => (s1, none)
        | none =>
          (s1.enterWindow port i.orig { seq := pktSeq p, crc := BitVec.ofNat 32 (pktCrc p), entered := s.tm.now }).step8
            port i none

/-- The command processor's intake (R67): the next ring in rotation with a command and a free reply descriptor. -/
def nextRing (s : State) : Option Nat :=
  ((List.range 8).map fun i => (s.ports.turn + i) % 8).find? fun q =>
    !(nth s.ports.inRings q).isEmpty && decide ((nth s.ports.outRings q).length < 256)

/-- Take one command from the rings. -/
def State.intake (s : State) : State × Option Instr :=
  match nextRing s with
  | none => (s, none)
  | some q =>
    match nth s.ports.inRings q with
    | i :: rest =>
      { s with ports.inRings := upd s.ports.inRings q fun _ => rest, ports.turn := (q + 1) % 8 }.admitPacket q i
    | [] => (s, none)

end Sys2Proof.Machine
end

