-- ==== Sys2Proof/Machine/Curves.lean ====
section
/-! DEFINITION. The standard curves of Table 11-3 (R326 to R328), exactly: temperatures are in 0.000 001 °C, values are
integers over 10¹²⁶. -/

namespace Sys2Proof.Machine

/-- A polynomial in °C, lowest power first: each coefficient a mantissa and the power of ten that divides it. -/
abbrev Poly := List (Int × Nat)

/-- Numerator over 10¹²⁶ of the value at m micro-degrees, for polynomials of degree up to 14. -/
def polyAt (p : Poly) (m : Int) : Int :=
  (p.zipIdx.foldr (fun (c : (Int × Nat) × Nat) acc => acc * m + c.1.1 * 10 ^ (42 - c.1.2) * 1000000 ^ (14 - c.2)) 0)

/-- Numerator over 10¹²⁶ of the derivative per °C. -/
def slopeAt (p : Poly) (m : Int) : Int :=
  (p.zipIdx.drop 1).foldr (fun (c : (Int × Nat) × Nat) acc =>
    acc * m + c.2 * (c.1.1 * 10 ^ (42 - c.1.2) * 1000000 ^ (15 - c.2))) 0

/-! ## Thermocouples: the reference functions of IEC 60584-1, mV over °C

The manual names the standard and does not reprint it: the coefficients are the standard's (log entry 21, PRESUMED). A name ends
in the number of its piece. -/

def typeB0 : Poly :=
  [(0, 0), (-24650818346, 14), (59040421171, 16), (-13257931636, 19), (15668291901, 22), (-1694452924, 24),
   (62990347094, 29)]

def typeB1 : Poly :=
  [(-38938168621, 10), (2857174747, 11), (-84885104785, 15), (15785280164, 17), (-16835344864, 20), (11109794013, 23),
   (-44515431033, 27), (98975640821, 31), (-93791330289, 35)]

def typeE0 : Poly :=
  [(0, 0), (58665508708, 12), (45410977124, 15), (-77998048686, 17), (-25800160843, 18), (-59452583057, 20),
   (-93214058667, 22), (-10287605534, 23), (-80370123621, 26), (-43979497391, 28), (-16414776355, 30), (-39673619516, 33),
   (-55827328721, 36), (-34657842013, 39)]

def typeE1 : Poly :=
  [(0, 0), (5866550871, 11), (45032275582, 15), (28908407212, 18), (-33056896652, 20), (6502440327, 22), (-19197495504, 26),
   (-12536600497, 28), (21489217569, 31), (-14388041782, 34), (35960899481, 38)]

def typeJ0 : Poly :=
  [(0, 0), (50381187815, 12), (3047583693, 14), (-8568106572, 17), (13228195295, 20), (-17052958337, 23), (20948090697, 26),
   (-12538395336, 29), (15631725697, 33)]

def typeJ1 : Poly :=
  [(29645625681, 8), (-14976127786, 10), (31787103924, 13), (-31847686701, 16), (15720819004, 19), (-30691369056, 23)]

def typeK0 : Poly :=
  [(0, 0), (39450128025, 12), (23622373598, 15), (-32858906784, 17), (-49904828777, 19), (-67509059173, 21),
   (-57410327428, 23), (-31088872894, 25), (-10451609365, 27), (-19889266878, 30), (-16322697486, 33)]

def typeK1 : Poly :=
  [(-17600413686, 12), (38921204975, 12), (18558770032, 15), (-99457592874, 18), (31840945719, 20), (-56072844889, 23),
   (56075059059, 26), (-32020720003, 29), (97151147152, 33), (-12104721275, 36)]

def typeN0 : Poly :=
  [(0, 0), (26159105962, 12), (10957484228, 15), (-93841111554, 18), (-46412039759, 21), (-26303357716, 22),
   (-22653438003, 24), (-76089300791, 27), (-93419667835, 30)]

def typeN1 : Poly :=
  [(0, 0), (25929394601, 12), (1571014188, 14), (43825627237, 18), (-25261169794, 20), (64311819339, 23),
   (-10063471519, 25), (99745338992, 29), (-60863245607, 32), (20849229339, 35), (-30682196151, 39)]

def typeR0 : Poly :=
  [(0, 0), (528961729765, 14), (139166589782, 16), (-238855693017, 19), (356916001063, 22), (-462347666298, 25),
   (500777441034, 28), (-373105886191, 31), (157716482367, 34), (-281038625251, 38)]

def typeR1 : Poly :=
  [(295157925316, 11), (-252061251332, 14), (159564501865, 16), (-764085947576, 20), (205305291024, 23),
   (-293359668173, 27)]

def typeR2 : Poly :=
  [(152232118209, 9), (-268819888545, 12), (171280280471, 15), (-345895706453, 19), (-934633971046, 26)]

def typeS0 : Poly :=
  [(0, 0), (540313308631, 14), (12593428974, 15), (-232477968689, 19), (322028823036, 22), (-331465196389, 25),
   (255744251786, 28), (-125068871393, 31), (271443176145, 35)]

def typeS1 : Poly :=
  [(132900444085, 11), (334509311344, 14), (654805192818, 17), (-164856259209, 20), (129989605174, 25)]

def typeS2 : Poly :=
  [(146628232636, 9), (-258430516752, 12), (163693574641, 15), (-330439046987, 19), (-943223690612, 26)]

def typeT0 : Poly :=
  [(0, 0), (38748106364, 12), (44194434347, 15), (11844323105, 17), (20032973554, 18), (90138019559, 20), (22651156593, 21),
   (36071154205, 23), (38493939883, 25), (28213521925, 27), (14251594779, 29), (48768662286, 32), (1079553927, 33),
   (13945027062, 37), (79795153927, 41)]

def typeT1 : Poly :=
  [(0, 0), (38748106364, 12), (3329222788, 14), (20618243404, 17), (-21882256846, 19), (10996880928, 21),
   (-30815758772, 24), (4547913529, 26), (-27512901673, 30)]

/-- The exponential term of type K above 0 °C, 0.1185976 exp(−1.183432 × 10⁻⁴ (t − 126.9686)²), by its series at a 256th of the
exponent and eight squarings with 40 decimal places; beyond an exponent of 200 it is below every place kept. -/
def expK (m : Int) : Int :=
  let d := m - 126968600
  let x := 1183432 * d * d
  let one : Int := 10 ^ 40
  let y := x * 10 ^ 18 / 256
  let series := (List.range 24).foldr (fun k acc => one - y * acc / (one * (k + 1 : Nat))) one
  let square (v : Int) (_ : Nat) : Int := v * v / one
  if 200 * 10 ^ 22 < x then 0 else (List.range 8).foldl square series * 1185976 * 10 ^ 79

/-! ## Resistance thermometers, as a multiple of N -/

def platinumLow : Poly := [(1, 0), (39083, 7), (-5775, 10), (4183, 13), (-4183, 15)]
def platinum : Poly := [(1, 0), (39083, 7), (-5775, 10)]
def nickel : Poly := [(1, 0), (5485, 6), (665, 8), (0, 0), (2805, 14), (0, 0), (-2, 17)]
def copper : Poly := [(1, 0), (427, 5)]

/-! ## The curves -/

/-- The polynomial of a curve at a temperature. -/
def pieceOf (curve : Nat) (m : Int) : Poly :=
  match curve with
  | 1 => if m < 630615000 then typeB0 else typeB1
  | 2 => if m < 0 then typeE0 else typeE1
  | 3 => if m < 760000000 then typeJ0 else typeJ1
  | 4 => if m < 0 then typeK0 else typeK1
  | 5 => if m < 0 then typeN0 else typeN1
  | 6 => if m < 1064180000 then typeR0 else if m < 1664500000 then typeR1 else typeR2
  | 7 => if m < 1064180000 then typeS0 else if m < 1664500000 then typeS1 else typeS2
  | 8 => if m < 0 then typeT0 else typeT1
  | n => if n < 0x18 then (if m < 0 then platinumLow else platinum) else if n < 0x20 then nickel else copper

/-- A curve's range in micro-degrees and the factor N (1 mV for a thermocouple). -/
structure Curve where
  lo : Int
  hi : Int
  n  : Nat
  deriving DecidableEq, Repr

/-- Table 11-3. -/
def curveOf : Nat → Option Curve
  | 0x01 => some ⟨250000000, 1820000000, 1⟩ | 0x02 => some ⟨-200000000, 1000000000, 1⟩
  | 0x03 => some ⟨-210000000, 1200000000, 1⟩ | 0x04 => some ⟨-200000000, 1372000000, 1⟩
  | 0x05 => some ⟨-200000000, 1300000000, 1⟩ | 0x06 => some ⟨-50000000, 1768000000, 1⟩
  | 0x07 => some ⟨-50000000, 1768000000, 1⟩ | 0x08 => some ⟨-200000000, 400000000, 1⟩
  | 0x10 => some ⟨-200000000, 850000000, 100⟩ | 0x11 => some ⟨-200000000, 850000000, 500⟩
  | 0x12 => some ⟨-200000000, 850000000, 1000⟩ | 0x18 => some ⟨-60000000, 180000000, 100⟩
  | 0x19 => some ⟨-60000000, 180000000, 500⟩ | 0x1A => some ⟨-60000000, 180000000, 1000⟩
  | 0x20 => some ⟨-50000000, 150000000, 10⟩ | 0x21 => some ⟨-50000000, 150000000, 50⟩
  | 0x22 => some ⟨-50000000, 150000000, 100⟩
  | _ => none

/-- A curve signal in mV or Ω as an integer over 2¹⁴⁹ × 10¹²⁶: a binary32 value of which `mv` over 10¹²⁶ is added. -/
def curveSignal (x : Word) (mv : Int) : Int := F32.units x * 10 ^ 126 + mv * 2 ^ 149

/-- The curve's value at m micro-degrees over 10¹²⁶, N apart. -/
def curveAt (curve : Nat) (m : Int) : Int :=
  polyAt (pieceOf curve m) m + (if curve = 4 ∧ 0 ≤ m then expK m else 0)

/-- The curve's slope per °C at the same scale; d of the exponential is twice its rate times the distance from its centre. -/
def curveSlope (curve : Nat) (m : Int) : Int :=
  slopeAt (pieceOf curve m) m + (if curve = 4 ∧ 0 ≤ m then expK m * (-2 * 1183432 * (m - 126968600)) / 10 ^ 16 else 0)

/-- How far a signal lies above the curve at m, over 2¹⁴⁹ × 10¹²⁶. -/
def aboveCurve (curve n : Nat) (sig m : Int) : Int := sig - curveAt curve m * n * 2 ^ 149

/-- The last m from `lo` on, within `span`, at which the curve does not exceed the signal, by halving. -/
def curveSearch (curve n : Nat) (sig : Int) : Nat → Int → Int → Int
  | 0, lo, _ => lo
  | fuel + 1, lo, hi =>
    if hi ≤ lo + 1 then lo
    else
      let mid := (lo + hi) / 2
      if 0 ≤ aboveCurve curve n sig mid then curveSearch curve n sig fuel mid hi else curveSearch curve n sig fuel lo mid

/-- Extrapolation from an end of the range with the slope there (R328): none beyond 5 % of the span, else the temperature. -/
def beyondEnd (curve : Nat) (k : Curve) (sig at_ : Int) : Option Word :=
  let past := aboveCurve curve k.n sig at_
  let slope := curveSlope curve at_ * k.n * 2 ^ 149
  if past.natAbs * 20000000 ≤ (k.hi - k.lo).natAbs * slope.natAbs then
    let num := at_ * slope + past * 1000000
    some (F32.ofRat (decide (num < 0)) num.natAbs (slope.natAbs * 1000000))
  else none

/-- A curve solved for a signal (R327, R328): the temperature and whether it lies outside the range, or failure; `err` is the node's
own error of less than 0.005 °C in micro-degrees (log entry 4). -/
def solveCurve (curve : Nat) (k : Curve) (sig err : Int) : Option (Word × Bool) :=
  if aboveCurve curve k.n sig k.lo < 0 then (beyondEnd curve k sig k.lo).map (·, true)
  else if 0 < aboveCurve curve k.n sig k.hi then (beyondEnd curve k sig k.hi).map (·, true)
  else
    let m := curveSearch curve k.n sig 32 k.lo (k.hi + 1)
    some (F32.ofIntDiv (max k.lo (min k.hi (m + err))) 1000000, false)

end Sys2Proof.Machine
end

