-- ==== Sys2Proof/Machine/Rx.lean ====
section
/-! DEFINITION. The way of a frame through the node: injectors (R527 to R529), header check, forwarding,
acceptance (R215 to R224), and delivery to what its type means. -/

namespace Sys2Proof.Machine

/-! ## Injectors -/

/-- Advance the generator (R528). -/
def xorshift (x : Word) : Word :=
  let a := x ^^^ (x <<< 13)
  let b := a ^^^ (a >>> 17)
  b ^^^ (b <<< 5)

/-- An armed injector matches a frame (R528). -/
def injMatches (p : Bytes) (b : Bytes) : Bool :=
  let ty := u8 b 0
  (if u8 p 8 = 0 then !decide (0x09 ≤ ty ∧ ty ≤ 0x0C) else u8 p 8 == ty)
    && (u16 p 10 == 0xFFFF || u16 p 10 == u16 b 4)

/-- Count a matching frame and decide selection. -/
def InjArm.select (a : InjArm) : InjArm × Bool :=
  let n := sat32 (a.matching + 1)
  if u8 a.payload 3 = 1 then ({ a with matching := n }, decide ((a.matching + 1) % max 1 (u16 a.payload 4) = 0))
  else
    let x := xorshift a.gen
    ({ a with matching := n, gen := x }, decide (x.toNat % 2 ^ u8 a.payload 6 = 0))

/-- Invert one bit of a frame; offsets beyond its length are ignored (Table 20-1). -/
def flipBit (b : Bytes) (o : Nat) : Bytes :=
  if o < 8 * b.length then upd b (o / 8) (· ^^^ BitVec.ofNat 8 (2 ^ (o % 8))) else b

/-- Recompute header check and CRC-32C over the frame with byte 2 taken as zero. -/
def repair (b : Bytes) : Bytes :=
  if b.length < 24 then b
  else
    let z (l : Bytes) : Bytes := upd l 2 fun _ => 0
    let head := b.take 18
    let b1 := head ++ le 2 (crc16 (z head)) ++ (b.take (b.length - 4)).drop 20
    b1 ++ le 4 (crc32c (z b1))

/-- The corrupt action. -/
def corrupt (p : Bytes) (b : Bytes) : Bytes :=
  let b1 := ([20, 22, 24, 26].map fun o => u16 p o).foldl (fun acc o => if o = 0xFFFF then acc else flipBit acc o) b
  if (u8 p 7).testBit 0 then repair b1 else b1

/-- A frame at an armed injector: the injector after it and the frames that pass now, in order (R529). While reorder
holds a frame, no further frame is selected and each that passes counts toward its release; delay holds every frame
selected, each for its time. -/
def InjArm.act (a : InjArm) (f : RxFrame) (now : Nat) : InjArm × List RxFrame :=
  let (a1, chosen) := if injMatches a.payload f.bytes then a.select else (a, false)
  if chosen && (u8 a.payload 2 != 3 || a.held.isEmpty) then
    let a2 := { a1 with acted := sat32 (a1.acted + 1) }
    match u8 a.payload 2 with
    | 1 => (a2, [])
    | 2 => (a2, [{ f with bytes := corrupt a.payload f.bytes }])
    | 3 => ({ a2 with held := [(f, u16 a.payload 14, now + 10000)] }, [])
    | _ => ({ a2 with held := a2.held ++ [(f, 0, now + u16 a.payload 14)] }, [])
  else if u8 a.payload 2 = 3 then
    match a1.held with
    | (h, n, due) :: _ =>
      if n = 1 then ({ a1 with held := [] }, [f, h])
      else ({ a1 with held := [(h, n - 1, due)] }, [f])
    | [] => (a1, [f])
  else (a1, [f])

/-- Pass a frame through an injector of a port: 0 receive, 1 transmit. -/
def State.inject (s : State) (dir : Nat) (f : RxFrame) : State × List RxFrame :=
  let i := 2 * f.port + dir
  match nth s.inj i with
  | some a =>
    let (a1, fs) := a.act f s.tm.now
    ({ s with inj := upd s.inj i fun _ => some a1 }, fs)
  | none => (s, [f])

/-! ## Header and acceptance -/

/-- The fields of a received frame (Table 08-4); the class bits of a listed type are its class (R217). -/
def hdrFrame (b : Bytes) : Frame :=
  { type := u8 b 0, cls := if (frameClass (u8 b 0)).isSome then 0 else u8 b 1 % 4, trunk := (u8 b 1).testBit 2, ttl := u8 b 2, origin := u16 b 4, dest := u16 b 6, inc := u16 b 8
    seq := u32 b 12, body := (b.drop 20).take (u16 b 16) }

/-- R217: the header is good. -/
def headerOk (b : Bytes) : Bool :=
  let z := upd (b.take 18) 2 fun _ => 0
  decide (20 ≤ b.length) && crc16 z == u16 b 18 && u8 b 3 == 1 && u8 b 2 != 0
    && (match frameClass (u8 b 0) with | some c => u8 b 1 % 4 == c | none => true)
    && decide (u8 b 1 < 8) && decide (u16 b 4 < 0x1000) && allZero b 10 2
    && !decide (0x1000 ≤ u16 b 6 ∧ u16 b 6 ≤ 0xFFFD)

/-- The CRC-32C is good and the frame as long as its body says. -/
def crcOk (b : Bytes) : Bool :=
  let z := upd (b.take (b.length - 4)) 2 fun _ => 0
  b.length == 24 + u16 b 16 && crc32c z == u32 b (b.length - 4)

/-- Whether a copy has been accepted (R221), and the origin's entry once this one is. -/
def OriginEntry.take (o : OriginEntry) (inc seq : Nat) : Option OriginEntry :=
  if inc = o.inc then
    if o.high < seq then
      let d := seq - o.high
      some { o with high := seq, seen := if d < 1024 then (o.seen <<< d) ||| 1 else 1 }
    else
      let d := o.high - seq
      if d < 1024 ∧ !o.seen.toNat.testBit d then some { o with seen := o.seen ||| BitVec.ofNat 1024 (2 ^ d) } else none
  else if atOrAfter16 inc o.inc then some { o with inc, high := seq, seen := 1 }
  else none

/-- The tables after accepting a frame; none where a copy was accepted before. -/
def acceptOrigin (l : List OriginEntry) (f : Frame) : Option (List OriginEntry) :=
  match l.find? (·.node == f.origin) with
  | some o => (o.take f.inc f.seq).map fun o' => o' :: l.filter (·.node != f.origin)
  | none => some ({ node := f.origin, inc := f.inc, high := f.seq, seen := 1 } :: l)

/-- Voters discard the seals and aggregates of their runs (R256, R257). -/
def votedAgainst (s : State) (f : Frame) : Bool :=
  let e := liftEpoch s (u32 f.body 4)
  f.type == 1 && s.repl.voted.contains (e, if u8 f.body 0 = 0 then f.origin else 4096 + u8 f.body 1)

/-- What a type delivers (Table 08-5). `SNAPSHOT` is discarded and counted (R273). Through a core restart only the
clock unit and the ports take frames (R481). -/
def State.deliver (s : State) (port ns : Nat) (f : Frame) : State :=
  if s.core ≠ .running ∧ !decide (0x09 ≤ f.type ∧ f.type ≤ 0x0C) then s
  else match f.type with
  | 0x01 => if u8 f.body 0 = 1 then s.onAggregate f else s.onSeal f
  | 0x02 => if u8 f.body 0 = 2 then s.onJoin f else if u8 f.body 0 = 1 ∨ u8 f.body 0 = 3 then s.onVote f else s
  | 0x03 => s.onDigest f
  | 0x04 => match u8 f.body 0 with
    | 1 => s.onFoundingAnnounce f
    | 2 => s.onFoundingReady f
    | 3 => s.onFoundingRoster f
    | _ => s
  | 0x08 => s.onAnnounce f
  | 0x09 => s.onSync port f ns
  | 0x0A => s.onDelayReq port f ns
  | 0x0B => s.onDelayResp port f ns
  | 0x0C => s.onHello port f
  | 0x10 => s.onTagUpdate port f
  | 0x11 => s.onAction f
  | 0x12 => if u8 f.body 0 = 1 then s.onWitness f else if u8 f.body 0 = 2 then s.onWitnessAck f else s
  | 0x20 => s.onRelaySegment port f
  | 0x30 => s.onTransfer port f
  | 0x31 => s.onTransfer port f
  | 0x32 => s.headError port
  | _ => s

/-- Act on what the inbound rings Q24 to Q27 hold, class by class (log entry 12, DEDUCED). -/
def State.drainIn (s : State) : State :=
  s.fab.inQ.flatten.foldl (fun (acc : State) (x : Nat × Nat × Frame) => acc.deliver x.1 x.2.1 x.2.2)
    { s with fab.inQ := List.replicate 4 [] }

/-- Accept a good frame at its port: on the inbound ring of its class, or none when that ring is full (R228). Link-local
frames of time and links go to the port's own logic, and through a core restart nothing else is taken. -/
def State.accept (s : State) (port ns : Nat) (f : Frame) : Option State :=
  let counted := s.setPort port fun x => { x with accepted := sat32 (x.accepted + 1) }
  if s.core ≠ .running ∨ (0x09 ≤ f.type ∧ f.type ≤ 0x0C) then some (counted.deliver port ns f)
  else
    let c := f.class
    let q := nth s.fab.inQ c ++ [(port, ns, f)]
    if 256 < q.length then none
    else some (({ counted with fab.inQ := upd s.fab.inQ c fun _ => q } : State).ringUsed (24 + c) q.length).drainIn

/-- The other port of the ring a port belongs to. -/
def otherPort (p : Nat) : Nat := if p % 2 = 0 then p + 1 else p - 1

/-- Put a frame in transit to a port. -/
def State.forward (s : State) (ports : List Nat) (f : Frame) (coded : Bool) : State :=
  { s with fab.transit := s.fab.transit ++ [{ ports, frame := f, coded }] }

/-- Bridging between segment and trunk (R224); node seals and segment votes stay in their segment (R250). -/
def State.bridge (s : State) (port : Nat) (f : Frame) : State :=
  let stays := (f.type == 1 && u8 f.body 0 == 0) || (f.type == 2 && u8 f.body 0 == 1)
  if bridgeRole s = 0 then s
  else if port ≤ 1 then
    if !f.trunk && !stays && (f.dest == 0xFFFF || segOf f.dest != segOf s.node) then
      s.forward [2, 3] { f with trunk := true, ttl := 63 } false
    else s
  else if segOf f.origin ≠ segOf s.node ∧ (f.dest = 0xFFFF ∨ segOf f.dest = segOf s.node) then
    s.forward [0, 1] { f with trunk := true, ttl := 63 } false
  else s

/-- A bridge carries a frame on between segment and trunk (R224). -/
def bridges (s : State) (port : Nat) (f : Frame) : Bool := decide ((s.bridge port f).fab.transit ≠ s.fab.transit)

/-- A frame with a good header that is not link-local (R220 to R224). What a bridge carries on counts as accepted there, so
that R221 keeps one copy of it; a type not listed is never accepted, and each good copy is carried on (log entry 88,
DEDUCED). -/
def State.switchFrame (s : State) (rx : RxFrame) (f : Frame) (good : Bool) : State :=
  if f.origin = s.node ∨ votedAgainst s f then s
  else
    let taken := acceptOrigin s.fab.origins f
    let s1 := if f.ttl ≠ 1 ∧ f.dest ≠ s.node ∧ taken.isSome ∧ hasImage s then
        s.forward [otherPort rx.port] { f with ttl := f.ttl - 1 } (rx.coded || !good)
      else s
    match taken with
    | none => s1
    | some os =>
      if !good then s1
      else if (frameClass f.type).isNone then s1.bridge rx.port f
      else if f.dest = 0xFFFF ∨ f.dest = s.node then
        match ({ s1 with fab.origins := os }.bridge rx.port f).accept rx.port rx.ns f with
        | some s2 => s2
        | none => s1.ringDrop (24 + f.class)
      else if bridges s rx.port f then { s1 with fab.origins := os }.bridge rx.port f
      else s1

/-- A frame behind the receive injector: counts, header check and the switch (R211, R213, R215, R217, R222). -/
def State.receive (s : State) (rx : RxFrame) : State :=
  let f := hdrFrame rx.bytes
  let link := decide (0x0A ≤ f.type ∧ f.type ≤ 0x0C)
  let takes := isUp s rx.port || (linkFrames s rx.port && link)
  if !takes ∨ 3 < rx.port then s
  else
    let broken := rx.coded || decide (rx.bytes.length < 24 ∨ 264 < rx.bytes.length)
    let good := !broken && crcOk rx.bytes
    let s1 := if broken then s.setPort rx.port fun x => { x with coded := sat32 (x.coded + 1) } else s
    if !headerOk rx.bytes then (if rx.bytes.length < 20 then s1 else s1.headError rx.port)
    else
      let s2 := if !broken && !good then s1.setPort rx.port fun x => { x with crcErrors := sat32 (x.crcErrors + 1) } else s1
      if 264 < rx.bytes.length then s2
      else if f.dest = 0xFFFE then
        if good ∧ (frameClass f.type).isSome then
          match s2.accept rx.port rx.ns f with
          | some s3 => s3
          | none => s2.ringDrop (24 + f.class)
        else s2
      else s2.switchFrame rx f good

/-- A frame as the PCS delivers it: the receive injector, then the switch. -/
def State.arrive (s : State) (rx : RxFrame) : State :=
  if !switchRuns s ∨ 3 < rx.port then s
  else
    let (s1, fs) := s.inject 0 rx
    fs.foldl (fun (acc : State) f => acc.receive f) s1

/-- The command of a frame row: frames of its type, and body kind where the row names one. -/
def frameRow (types : List Nat) (kind : Option Nat) (rx : RxFrame) (s : State) : Out :=
  let ok := types.contains (u8 rx.bytes 0) && (match kind with | some k => u8 rx.bytes 20 == k | none => true)
  .next (if ok then s.arrive rx else s)

def execSealReceived (rx : RxFrame) (s : State) : Out := frameRow [0x01] (some 0) rx s
def execSegmentAggregateReceived (rx : RxFrame) (s : State) : Out := frameRow [0x01] (some 1) rx s
def execSegmentVoteReceived (rx : RxFrame) (s : State) : Out := frameRow [0x02] (some 1) rx s
def execTrunkVoteReceived (rx : RxFrame) (s : State) : Out := frameRow [0x02] (some 3) rx s
def execMembershipJoinReceived (rx : RxFrame) (s : State) : Out := frameRow [0x02] (some 2) rx s
def execTagUpdateReceived (rx : RxFrame) (s : State) : Out := frameRow [0x10] none rx s
def execActionReceived (rx : RxFrame) (s : State) : Out := frameRow [0x11] none rx s
def execDigestReceived (rx : RxFrame) (s : State) : Out := frameRow [0x03] none rx s
def execWitnessRecordReceived (rx : RxFrame) (s : State) : Out := frameRow [0x12] (some 1) rx s
def execWitnessAckReceived (rx : RxFrame) (s : State) : Out := frameRow [0x12] (some 2) rx s
def execTransferRequestReceived (rx : RxFrame) (s : State) : Out := frameRow [0x30, 0x31] (some 1) rx s
def execTransferBlockReceived (rx : RxFrame) (s : State) : Out := frameRow [0x30, 0x31] (some 2) rx s
def execTransferEndReceived (rx : RxFrame) (s : State) : Out := frameRow [0x30, 0x31] (some 3) rx s
def execTransferReadyReceived (rx : RxFrame) (s : State) : Out := frameRow [0x30, 0x31] (some 4) rx s
def execTransferAbortReceived (rx : RxFrame) (s : State) : Out := frameRow [0x30, 0x31] (some 5) rx s
def execSnapshotFrameReceived (rx : RxFrame) (s : State) : Out := frameRow [0x32] none rx s
def execLinkHelloReceived (rx : RxFrame) (s : State) : Out := frameRow [0x0C] none rx s
def execDelayReqReceived (rx : RxFrame) (s : State) : Out := frameRow [0x0A] none rx s
def execDelayRespReceived (rx : RxFrame) (s : State) : Out := frameRow [0x0B] none rx s
def execTimeAnnounceReceived (rx : RxFrame) (s : State) : Out := frameRow [0x08] none rx s
def execTimeSyncReceived (rx : RxFrame) (s : State) : Out := frameRow [0x09] none rx s
def execRelaySegmentReceived (rx : RxFrame) (s : State) : Out := frameRow [0x20] none rx s
def execFoundingAnnounceReceived (rx : RxFrame) (s : State) : Out := frameRow [0x04] (some 1) rx s
def execFoundingReadyReceived (rx : RxFrame) (s : State) : Out := frameRow [0x04] (some 2) rx s
def execFoundingRosterReceived (rx : RxFrame) (s : State) : Out := frameRow [0x04] (some 3) rx s

/-- Some row of the table names the type, and the body kind where its rows name one. -/
def hasRow (b : Bytes) : Bool :=
  let k := u8 b 20
  match u8 b 0 with
  | 0x01 => decide (k ≤ 1)
  | 0x02 => decide (1 ≤ k ∧ k ≤ 3)
  | 0x04 => decide (1 ≤ k ∧ k ≤ 3)
  | 0x12 => decide (1 ≤ k ∧ k ≤ 2)
  | 0x30 => decide (1 ≤ k ∧ k ≤ 5)
  | 0x31 => decide (1 ≤ k ∧ k ≤ 5)
  | t => (frameClass t).isSome

/-- UNKNOWN_FRAME_RECEIVED (R217): a type not listed is forwarded under the rules and never accepted. The row also
carries a frame of a listed type whose body kind no row names. -/
def execUnknownFrameReceived (rx : RxFrame) (s : State) : Out :=
  .next (if !hasRow rx.bytes then s.arrive rx else s)

end Sys2Proof.Machine
end

