-- ==== Sys2Proof/Machine/InjCmds.lean ====
section
/-! DEFINITION. The INJ opcodes, disarming and release of held frames (R530 to R533), and the SEC opcodes that blow
fuses (R82 to R87). -/

namespace Sys2Proof.Machine

/-! ## Disarming (R531) -/

/-- Release held frames: on the receive side they are checked and accepted as on arrival; on the transmit side they
leave. -/
def State.releaseFrames (s : State) (i : Nat) (fs : List RxFrame) : State :=
  if i % 2 = 0 then fs.foldl (fun (acc : State) f => acc.receive f) s else s

/-- INJ_DISARMED and the event (R534), then any held frame is released. -/
def State.disarm (s : State) (i cause : Nat) : State :=
  match nth s.inj i with
  | some a =>
    let s1 := { s with inj := upd s.inj i fun _ => none }
    let head := le 1 (i / 2) ++ le 1 (i % 2) ++ le 1 cause
    let s2 := s1.logNotify 0x0541 (le 4 (epochField s1) ++ head ++ zeros 1 ++ le 4 a.matching ++ le 4 a.acted
      ++ le 4 (sat32 ((s.tm.op - a.armedOp) / 10)) ++ zeros 2) 0xC0FB (le 1 2 ++ head ++ le 4 a.acted)
    s2.releaseFrames i (a.held.map (·.1))
  | none => s

/-- Disarm every injector for a cause. -/
def State.disarmAll (s : State) (cause : Nat) : State :=
  (List.range 8).foldl (fun (acc : State) i => acc.disarm i cause) s

/-- INJ_DURATION_EXPIRY (Table 20-3, cause 3). -/
def execInjDurationExpiry (injector : Nat) (s : State) : Out :=
  .next (match nth s.inj injector with
    | some a => if s.core = .running ∧ a.endOp ≤ s.tm.op then s.disarm injector 3 else s
    | none => s)

/-- INJ_HOLD_RELEASE: the held frames whose time has run (R529). -/
def execInjHoldRelease (injector : Nat) (s : State) : Out :=
  .next (match nth s.inj injector with
    | some a =>
      if s.core = .running then
        let go := (a.held.filter fun x => decide (x.2.2 ≤ s.tm.now)).map (·.1)
        let stay := a.held.filter fun x => decide (s.tm.now < x.2.2)
        { s with inj := upd s.inj injector fun _ => some { a with held := stay } }.releaseFrames injector go
      else s
    | none => s)

/-! ## INJ opcodes -/

/-- INJ.STATUS after its status (R533). -/
def injStatusData (s : State) : Bytes :=
  zeros 2 ++ (List.range 8).flatMap fun i => match nth s.inj i with
    | some a => le 1 1 ++ le 1 (u8 a.payload 2) ++ le 1 (u8 a.payload 8) ++ zeros 1
        ++ le 4 (sat32 (ceilDiv (a.endOp - s.tm.op) 10)) ++ le 4 a.matching ++ le 4 a.acted
    | none => zeros 16

def execInjStatus (c : Cmd) (s : State) : Out := runPlain 0x0E01 c s injStatusData

/-- Every field lies within Table 20-2. -/
def injPayloadOk (p : Bytes) : Bool :=
  let act := u8 p 2
  let offs := [20, 22, 24, 26].map fun o => u16 p o
  p.length == 28 && decide (u8 p 0 ≤ 3 ∧ u8 p 1 ≤ 1 ∧ 1 ≤ act ∧ act ≤ 4)
    && (if u8 p 3 = 1 then decide (1 ≤ u16 p 4) && u8 p 6 == 0 && u32 p 16 == 0
        else u8 p 3 == 2 && u16 p 4 == 0 && decide (1 ≤ u8 p 6 ∧ u8 p 6 ≤ 16) && u32 p 16 != 0)
    && (if act = 2 then decide (u8 p 7 ≤ 1) else u8 p 7 == 0) && allZero p 9 1
    && (decide (u16 p 10 ≤ 4095) || u16 p 10 == 0xFFFF) && decide (1 ≤ u16 p 12 ∧ u16 p 12 ≤ 600)
    && (if act = 3 then decide (1 ≤ u16 p 14 ∧ u16 p 14 ≤ 255)
        else if act = 4 then decide (1 ≤ u16 p 14 ∧ u16 p 14 ≤ 1000) else u16 p 14 == 0)
    && (if act = 2 then offs.all (fun o => decide (o ≤ 2111) || o == 0xFFFF) && offs.any (· != 0xFFFF)
        else offs.all (· == 0xFFFF))

/-- INJ.ARM (R530): the five checks in order. -/
def execInjArm (c : Cmd) (s : State) : Out :=
  runOpcode 0x0E40 c s fun s =>
    if c.port ≠ 2 then refuseAuthority s c Status.notPermittedPort
    else if !s.sec.keyClosed then refuseAuthority s c Status.keyRequired
    else if !s.sec.injAllowed then refuse s Status.injNotAllowed
    else if isCaller s then refuse s Status.injCaller
    else if !injPayloadOk c.payload then refuse s Status.paramRange
    else
      let i := 2 * u8 c.payload 0 + u8 c.payload 1
      let s1 := s.disarm i 2
      let a : InjArm := { payload := c.payload, gen := word32 c.payload 16, armedOp := s.tm.op
                          endOp := s.tm.op + u16 c.payload 12 * 10000 }
      let s2 := { s1 with inj := upd s1.inj i fun _ => some a }
      { st := s2.logNotify 0x0540 (le 4 (epochField s2) ++ c.payload ++ zeros 2) 0xC0FB
          (le 1 1 ++ le 1 (i / 2) ++ le 1 (i % 2) ++ zeros 1 ++ zeros 4) }

/-- INJ.DISARM (R532). -/
def execInjDisarm (c : Cmd) (s : State) : Out :=
  runOpcode 0x0E41 c s fun s =>
    let p := u8 c.payload 0
    let d := u8 c.payload 1
    if c.payload.length ≠ 4 ∨ !allZero c.payload 2 2 ∨ (3 < p ∧ p ≠ 0xFF) ∨ (1 < d ∧ d ≠ 0xFF) then
      refuse s Status.paramRange
    else
      { st := (List.range 8).foldl (fun (acc : State) i =>
          if (p = 0xFF ∨ i / 2 = p) ∧ (d = 0xFF ∨ i % 2 = d) then acc.disarm i 1 else acc) s }

/-! ## SEC opcodes (Table 03-5) -/

/-- R87: the conditions for programming. -/
def fuseConditions (s : State) : Bool :=
  !(decide (s.pw.mv1 < 20000 ∧ s.pw.mv2 < 20000) || decide (s.sec.coreTemp < 0 ∨ 850 < s.sec.coreTemp)
    || decide (s.op = .stopping))

/-- Try to blow the bits of a mask in a fuse word, each at most three times. Which bits do not take is open: a free
value (log entry 4, DESIGN CHOICE). -/
def State.blow (s : State) (w : Nat) (mask : Word) : State :=
  let (miss, s1) := s.takeFree
  let old := fuse s w
  { s1 with sec.fuses := upd s1.sec.fuses w fun _ => old ||| (mask &&& ~~~(BitVec.ofNat 32 miss)) }

/-- Admission of the programming opcodes by R82, for a command placed past step 6. -/
def programGate (c : Cmd) (s : State) : Option Nat :=
  if c.port ≠ 2 then some Status.notPermittedPort else if !s.sec.keyClosed then some Status.keyRequired else none

/-- Bits set in a word. -/
def popcount (w : Word) : Nat := (List.range 32).countP fun i => w.toNat.testBit i

/-- SEC.PROGRAM (R83): copy 1 then copy 2, the reply with both words. Where several refusals hold the order is
PARAM_RANGE, FUSE_SEALED, FUSE_CONDITIONS, FUSE_VERIFY, and the bits newly blown of FUSE_PROGRAM are those of both words
(log entry 83, DESIGN CHOICE). -/
def execSecProgram (c : Cmd) (s : State) : Out :=
  runOpcode 0x0F40 c s fun s =>
    let w := u8 c.payload 0
    let mask := word32 c.payload 4
    match programGate c s with
    | some st => refuseAuthority s c st
    | none =>
      if c.payload.length ≠ 8 ∨ !allZero c.payload 1 3 ∨ (7 < w ∧ w ≠ 16 ∧ w ≠ 17) then refuse s Status.paramRange
      else if s.sec.sealed then refuse s Status.fuseSealed
      else if !fuseConditions s then refuse s Status.fuseConditions
      else
        let w2 := if w ≤ 7 then 8 + w else w + 2
        let s1 := (s.blow w mask).blow w2 mask
        let new := popcount (fuse s1 w &&& ~~~(fuse s w)) + popcount (fuse s1 w2 &&& ~~~(fuse s w2))
        let words := le 4 (fuse s1 w).toNat ++ le 4 (fuse s1 w2).toNat
        let s2 := if new = 0 then s1
          else s1.log 0x0520 (le 4 (epochField s1) ++ le 1 w ++ le 1 new ++ zeros 2 ++ words ++ zeros 2)
        let ok := decide (fuse s1 w &&& mask = mask ∧ fuse s1 w2 &&& mask = mask)
        { st := s2, status := if ok then Status.ok else Status.fuseVerify, data := words }

/-- Words 0 to 7 and 16 to 17 of copy 1, as 40 bytes. -/
def copyOne (s : State) : Bytes := ((List.range 8) ++ [16, 17]).flatMap fun w => le 4 (fuse s w).toNat

/-- SEC.SEAL (R84, R85): once the second SEAL bit verifies, the fused matrix applies. -/
def execSecSeal (c : Cmd) (s : State) : Out :=
  runOpcode 0x0F41 c s fun s =>
    match programGate c s with
    | some st => refuseAuthority s c st
    | none =>
      if c.payload.length ≠ 4 then refuse s Status.paramRange
      else if s.sec.sealed then refuse s Status.fuseSealed
      else if !fuseConditions s then refuse s Status.fuseConditions
      else if mismatchMask s ≠ 0 ∨ identMismatch s ∨ crc32c (copyOne s) ≠ u32 c.payload 0 then refuse s Status.fuseVerify
      else
        let s1 := ((s.blow 20 0x100).blow 20 0x200).blow 20 0x400
        let s2 := if 2 ≤ sealBits s1 then s1.deriveAuthority else s1
        let s3 := s2.log 0x0521 (le 4 (epochField s2) ++ le 4 (u32 c.payload 0) ++ le 1 (sealBits s1) ++ zeros 1)
        { st := s3, status := if sealBits s1 = 3 then Status.ok else Status.fuseVerify }

/-- SEC.WITHDRAW_INJ (R86). -/
def execSecWithdrawInj (c : Cmd) (s : State) : Out :=
  runOpcode 0x0F42 c s fun s =>
    match programGate c s with
    | some st => refuseAuthority s c st
    | none =>
      if c.payload.length ≠ 0 then refuse s Status.paramRange
      else if !fuseConditions s then refuse s Status.fuseConditions
      else
        let n := s.inj.countP Option.isSome
        let s1 := (s.disarmAll 5).blow 20 0x7
        let s2 := { s1 with sec.injAllowed := decide (injBits s1 ≤ 1) }
        let s3 := s2.log 0x0524 (le 4 (epochField s2) ++ le 1 n ++ zeros 1)
        { st := s3, status := if injBits s1 = 3 then Status.ok else Status.fuseVerify }

/-- Whether a contact resistance in Ω is a valid closure (R562: at most 100 Ω). A valid opening is at least 100 kΩ; what
lies between reads as open (R76). -/
def keyClosure (ohms : Nat) : Bool := decide (ohms ≤ 100)

/-- SVC_KEY_CHANGE (R76, R77): the contact reads a resistance and has read the same state for a time in µs. A state held
for 20 ms is accepted, a shorter one leaves the debounced state in force; opening disarms (R531). -/
def execSvcKeyChange (ohms heldUs : Nat) (s : State) : Out :=
  .next (
    let closed := keyClosure ohms
    if s.sec.keyClosed = closed ∨ heldUs < 20000 then s
    else
      let s1 := { s with sec.keyClosed := closed }.log 0x0525
        (le 4 (epochField s) ++ le 1 (if closed then 1 else 0) ++ zeros 1)
      if closed then s1 else s1.disarmAll 4)

end Sys2Proof.Machine
end

