-- ==== Sys2Proof/Machine/Linearise.lean ====
section
/-! DEFINITION. From a result code to an engineering value (chapter 11): the signal, the cold junction,
polynomials and scaling. -/

namespace Sys2Proof.Machine

/-! ## The signal (Table 11-2) -/

def chanGain (k : ChanCfg) : Nat := 2 ^ k.gain

/-- k_v = 2,500 / (G × 2²³). -/
def kv (k : ChanCfg) : Word := F32.ofRat false 2500 (chanGain k * 0x800000)

/-- Calibrated excitation current of a slice for a setting, in mA. -/
def iCalOf (sl : Slice) (ua : Nat) : Word := (look sl.iCal ua).getD (F32.ofIntDiv ua 1000)

/-- The signal x of a code on a slice (R323, R339). -/
def signal (k : ChanCfg) (sl : Slice) (code : Int) : Word :=
  let c := F32.ofInt code
  let span := F32.ofInt (chanGain k * 0x800000)
  if k.mode ≤ 2 then F32.mul c (kv k)
  else if k.mode ≤ 5 then
    let z := if k.ratio then F32.div (F32.mul c sl.qRef) span else F32.div (F32.mul c (kv k)) (iCalOf sl k.excUa)
    if k.mode = 3 then F32.sub z (word32 k.raw 72) else z
  else if k.mode = 6 then F32.div (F32.mul c (F32.ofInt 1000)) span
  else F32.div (F32.mul c (kv k)) sl.rsCal

/-! ## Cold junction and auxiliary temperature (R329 to R331) -/

/-- The latest housekeeping reading taken before a result's end (R329). -/
def readingBefore (b : BankState) (endUs : Nat) : Option HkReading := b.readings.find? fun r => decide (r.atUs < endUs)

/-- Cold-junction temperature of a reading for terminals P and M; none while both sensors have failed (R329, R330). -/
def coldJunction (r : HkReading) (p m : Nat) : Option Word :=
  let a := if r.failA then r.tB else r.tA
  let c := if r.failB then r.tA else r.tB
  if r.failA && r.failB then none
  else match a, c with
    | some ta, some tb =>
      let pos := F32.div (F32.ofInt (p + m : Nat)) (F32.ofInt 2)
      some (F32.add ta (F32.div (F32.mul (F32.sub tb ta) (F32.sub pos (F32.ofInt 1))) (F32.ofInt 39)))
    | _, _ => none

/-- The auxiliary temperature of a channel for a result that ended at `endUs`; none is a failure. -/
def auxTemp (s : State) (ch : Nat) (k : ChanCfg) (endUs : Nat) : Option Word :=
  let bank : BankState := nth s.ana.banks (ch / 8)
  match u8 k.raw 66 with
  | 1 => (readingBefore bank endUs).bind fun r => coldJunction r k.pos k.neg
  | 2 => some (word32 k.raw 68)
  | 3 => match (nth s.ana.chans (u8 k.raw 67) : Chan).base with
    | some (u, t) => if endUs ≤ t + 10000000 then some u else none
    | none => none
  | 4 => (readingBefore bank endUs).map (·.temp)
  | _ => some 0

/-- For kinds 1 and 4 a reading was taken before the result's end since the last start (R329). -/
def auxReady (s : State) (ch : Nat) (k : ChanCfg) (endUs : Nat) : Bool :=
  let bank : BankState := nth s.ana.banks (ch / 8)
  (u8 k.raw 66 != 1 && u8 k.raw 66 != 4) || (readingBefore bank endUs).isSome

/-! ## Polynomial and scaling (R332 to R334) -/

def coef (k : ChanCfg) (i j : Nat) : Word := word32 k.raw (96 + 4 * (4 * i + j))

/-- Route 2, in the order written. -/
def polynomial (k : ChanCfg) (x t : Word) : Word :=
  let a (i : Nat) : Word :=
    F32.add (F32.mul (F32.add (F32.mul (F32.add (F32.mul (coef k i 3) t) (coef k i 2)) t) (coef k i 1)) t) (coef k i 0)
  [4, 3, 2, 1, 0].foldl (fun acc i => F32.add (F32.mul acc x) (a i)) (a 5)

/-- The base value and whether it lies outside the curve's range; none is a linearisation failure. -/
def baseValue (k : ChanCfg) (x t : Word) (err : Int) : Option (Word × Bool) :=
  match u8 k.raw 64 with
  | 1 =>
    let cv := u8 k.raw 65
    match curveOf cv with
    | none => none
    | some c => solveCurve cv c (curveSignal x (if cv < 0x10 then curveAt cv (F32.floorScaled t 1000000 1) else 0)) err
  | 2 => some (polynomial k x t, false)
  | _ => some (x, false)

/-- Base value, engineering value and whether it is outside the validity range (R333, R334). -/
def linearise (s : State) (ch : Nat) (k : ChanCfg) (sl : Slice) (code : Int) (endUs : Nat) (err : Int) :
    Option (Word × Word × Bool) :=
  match auxTemp s ch k endUs with
  | none => none
  | some t =>
    let x := signal k sl code
    if !F32.finite x then none
    else match baseValue k x t err with
      | none => none
      | some (u, out) =>
        let y := F32.add (F32.mul (word32 k.raw 76) u) (word32 k.raw 80)
        if F32.finite y then some (u, y, out || F32.lt y (word32 k.raw 84) || F32.lt (word32 k.raw 88) y) else none

end Sys2Proof.Machine
end

