-- ==== Sys2Proof/Machine/Ledger.lean ====
section
/-! DEFINITION. The margin ledger's entries and their measurement (chapter 18), with the configuration entries of
digital channels (Table 13-1) and panels (Table 15-1) that say which sites are in use. -/

namespace Sys2Proof.Machine

/-! ## Digital channel and panel entries -/

/-- A channel entry (Table 13-1). -/
structure DioCfg where
  mode      : Nat
  invert    : Bool
  pulse     : Bool
  openCheck : Bool
  n         : Nat
  threshold : Nat
  safe      : Bool
  hold      : Nat
  kind      : Nat
  slot      : Nat
  mask      : Nat
  source    : Nat
  lease     : Nat
  deriving DecidableEq, Repr, Inhabited

def DioCfg.ofBytes (b : Bytes) : DioCfg :=
  { mode := u8 b 0, invert := (u8 b 1).testBit 0, pulse := (u8 b 1).testBit 1, openCheck := (u8 b 1).testBit 2
    n := u16 b 2, threshold := u8 b 4, safe := u8 b 5 == 1, hold := u16 b 6, kind := u8 b 8, slot := u8 b 9
    mask := u16 b 10, source := u32 b 12, lease := u16 b 16 }

/-- Entry of channel 1 to 48. -/
def dioCfg (s : State) (n : Nat) : DioCfg := .ofBytes (regBytes s 86 (16 + 32 * (n - 1)) 32)

def isDio (n : Nat) : Bool := decide (1 ≤ n ∧ n ≤ 48)

/-- A panel entry (Table 15-1). -/
structure PanelCfg where
  used    : Bool
  columns : Nat
  rows    : Nat
  area    : Nat
  vcom    : Int
  kind    : Nat
  param   : Nat
  watch   : Nat
  prios   : Nat
  areas   : Nat
  deriving DecidableEq, Repr, Inhabited

def PanelCfg.ofBytes (b : Bytes) : PanelCfg :=
  { used := u8 b 0 == 1, columns := u16 b 2, rows := u16 b 4, area := u16 b 6, vcom := sint 2 (u16 b 8), kind := u8 b 10
    param := u32 b 12, watch := u8 b 16, prios := u8 b 17, areas := u16 b 18 }

def panelCfg (s : State) (p : Nat) : PanelCfg := .ofBytes (regBytes s 87 (16 + 32 * p) 32)

/-! ## Entries (R486, R487) -/

/-- Operating hours. -/
def opHours (s : State) : Nat := s.tm.op / 36000000

/-- Whether an entry falls toward its limit. -/
def fallsEntry (m : Nat) : Bool := m == 6 || m == 12 || m == 14

/-- Whether an entry's value is a mean over 24 operating hours. -/
def meanEntry (m : Nat) : Bool := m == 1 || m == 3 || m == 5 || m == 7 || m == 8 || m == 9

/-- Limit of an entry at a site; only M11 depends on the site. -/
def entryLimit (s : State) (m site : Nat) : Word :=
  match m with
  | 1 => F32.ofInt 10 | 2 => F32.ofRat false 9 10 | 3 => F32.ofInt 2000 | 4 => F32.ofInt 2000 | 5 => F32.ofInt 180
  | 6 => F32.ofInt 250 | 7 => F32.ofInt 400 | 8 => F32.ofInt 150 | 9 => F32.ofInt 150 | 10 => F32.ofInt 100
  | 11 => F32.ofIntDiv (nth s.age.der.bias (if site < 4 then site else 0)) 10
  | 12 => F32.ofInt 10 | 13 => F32.ofInt 120 | 14 => F32.ofInt 1000 | 15 => F32.ofInt 500 | _ => F32.ofInt 5000000

/-- A site of an entry is in use. -/
def siteUsed (s : State) (m site : Nat) : Bool :=
  match m with
  | 1 => decide (site < 12)
  | 4 | 5 | 6 => decide (site < 40) && decide ((nth s.ana.slices site).phase ≠ .retired)
  | 7 | 8 => isDio site && (dioCfg s site).mode == 2
  | 9 => decide (site < 4)
  | 10 => decide (site < 5) && !nth s.rcd.lost site
  | 11 => decide (site < 4) && decide ((nth s.fab.ports site).state ≠ .disabled)
  | 15 | 16 => decide (site < 4) && (panelCfg s site).used
  | _ => site == 0xFF

/-- Values of an entry at its sites in use: the mean of the last 24 operating hours, or the latest. -/
def siteValues (s : State) (m : Nat) : List (Nat × Word) :=
  let ms := s.age.meas.filter fun x => x.1 == m && siteUsed s m x.2.1
  let sites := ms.foldl (fun acc x => ins acc x.2.1) []
  sites.map fun k =>
    let vs := (ms.filter fun x => x.2.1 == k).map (·.2.2.2)
    if meanEntry m then (k, F32.ofIntDiv (vs.map F32.units).sum (vs.length * 2 ^ 149)) else (k, vs.getLastD 0)

/-- The worst site. -/
def worst (m : Nat) (l : List (Nat × Word)) : Option (Nat × Word) :=
  l.foldl (fun acc x => match acc with
    | none => some x
    | some y => if (if fallsEntry m then F32.lt x.2 y.2 else F32.lt y.2 x.2) then some x else some y) none

def atLimit (m : Nat) (v limit : Word) : Bool := if fallsEntry m then F32.le v limit else F32.le limit v

def ledgerEntry (s : State) (m : Nat) : LedgerEntry := nth s.age.entries (m - 1)
def State.setEntry (s : State) (m : Nat) (f : LedgerEntry → LedgerEntry) : State :=
  { s with age.entries := upd s.age.entries (m - 1) f }

/-- MARGIN_EVENT with its record (R503). -/
def State.marginEvent (s : State) (ev a site d : Nat) (x y : Int) : State :=
  s.logEvent (0x0600 + ev) 0xC0C0 (le 1 ev ++ le 1 a ++ le 1 site ++ le 1 d ++ leInt 4 x ++ leInt 4 y ++ zeros 4)

/-- A change of an entry's state, shown in its diagnostic and written (R491, R492). -/
def State.marginState (s : State) (m : Nat) : State :=
  let e := ledgerEntry s m
  (s.diagnostic (0x0400 + m) e.state).marginEvent 2 m e.site e.state (e.value.getD 0x7FC00000).toNat e.projection

/-- Take a measurement; of an entry without a mean only the latest stays, of the others 24 operating hours. -/
def State.keepMeasure (s : State) (m site : Nat) (v : Word) : State :=
  let keep (x : Nat × Nat × Nat × Word) : Bool :=
    if x.1 != m then true
    else if meanEntry m then decide (s.tm.op < x.2.2.1 + 24 * 36000000)
    else x.2.1 != site
  { s with age.meas := s.age.meas.filter keep ++ [(m, site, s.tm.op, v)] }.setEntry m fun e => { e with hours := opHours s }

/-- Recompute an entry from its sites; a first value at or beyond the limit exhausts it at once (R487, R491). -/
def State.refreshEntry (s : State) (m : Nat) : State :=
  match worst m (siteValues s m) with
  | none => s.setEntry m fun e => { e with state := 3, value := none, site := 0xFF }
  | some (k, v) =>
    let out := atLimit m v (entryLimit s m k)
    s.setEntry m fun e =>
      { e with value := some v, site := k
               state := if out then 2 else if e.state = 3 then 0 else e.state }

/-- Note a change of state after an operation on the entries. -/
def State.noteState (s : State) (m was : Nat) : State := if (ledgerEntry s m).state = was then s else s.marginState m

/-- An entry is worked out again from the sites in use, and a change of its state noted. -/
def State.judgeEntry (s : State) (m : Nat) : State := (s.refreshEntry m).noteState m (ledgerEntry s m).state

/-- Measure a site of an entry; a site not in use only leaves the entry to the others (R487). -/
def State.measure (s : State) (m site : Nat) (v : Word) : State :=
  if !siteUsed s m site then s.judgeEntry m
  else if !F32.finite v then s
  else
    let was := (ledgerEntry s m).state
    ((s.keepMeasure m site v).refreshEntry m).noteState m was

/-- The ports follow the system region, and M11 the ports in use (R213, R487). -/
def State.judgePorts (s : State) : State := s.refreshPorts.judgeEntry 11

/-- Accumulated gain correction or last ROVE_DRIFT of a slice, whichever is larger, in ppm (M04). -/
def gainDrift (y : Slice) : Word :=
  let a := F32.ofInt y.accGain.natAbs
  let d := F32.ofIntDiv (y.drift.natAbs * 1000000 : Nat) 8388608
  if F32.lt a d then d else a

end Sys2Proof.Machine
end

