-- ==== Sys2Proof/Machine/AnalogOps.lean ====
section
/-! DEFINITION. Operations of the analogue banks (chapter 10): slices and channels, channel events, publication,
self-checks, retirement, remaps and visits. -/

namespace Sys2Proof.Machine

/-! ## Access -/

def slice (s : State) (b k : Nat) : Slice := nth s.ana.slices (10 * b + k)
def State.setSlice (s : State) (b k : Nat) (f : Slice → Slice) : State :=
  { s with ana.slices := upd s.ana.slices (10 * b + k) f }
def chan (s : State) (c : Nat) : Chan := nth s.ana.chans c
def State.setChan (s : State) (c : Nat) (f : Chan → Chan) : State := { s with ana.chans := upd s.ana.chans c f }
def bankSt (s : State) (b : Nat) : BankState := nth s.ana.banks b
def State.setBank (s : State) (b : Nat) (f : BankState → BankState) : State :=
  { s with ana.banks := upd s.ana.banks b f }
def loopSt (s : State) (c : Nat) : Loop := nth s.ana.loops c
def State.setLoop (s : State) (c : Nat) (f : Loop → Loop) : State := { s with ana.loops := upd s.ana.loops c f }

/-! ## Slice states (Table 10-6); a retired slice stays so -/

def Slice.toOff (y : Slice) : Slice := if y.phase = .retired then y else { y with phase := .off, excOn := false }

/-- IDLE: the excitation goes off, but for a next request within 1 ms (R293). -/
def Slice.toIdle (y : Slice) (stays : Bool) : Slice :=
  if y.phase = .retired then y else { y with phase := .idle, excOn := y.excOn && stays }

/-- LEAD, from when the excitation is on, until an instant. -/
def Slice.toLead (y : Slice) (k : ChanCfg) (until_ : Nat) : Slice :=
  if y.phase = .retired then y else { y with phase := .lead, leadEnd := until_, excOn := k.exc != 0 }

/-- CHECK leaves the excitation as it is. -/
def Slice.toCheck (y : Slice) : Slice := if y.phase = .retired then y else { y with phase := .check }

def Slice.retire (y : Slice) : Slice := { y with phase := .retired, excOn := false }

/-- The filter starts at a fabric time with the settings then in force (R295); corrections of a re-plan come into force (R497). -/
def Slice.filterStart (y : Slice) (rate : Nat) (chop : Bool) (at_ : Nat) : Slice :=
  { y with phase := .settle, rate, chop, filterAt := at_, offset := (y.newCal.map (·.1)).getD y.offset
           gainPpm := (y.newCal.map (·.2)).getD y.gainPpm, newCal := none }

/-- The channel a slice serves (R280). -/
def servedBy (s : State) (b k : Nat) : Option Nat :=
  ((List.range 8).map (8 * b + ·)).find? fun c => (chan s c).slice == some k

/-- A slice neither retired, serving, nor about to serve (R280). -/
def sliceFree (s : State) (b k : Nat) : Bool :=
  decide ((slice s b k).phase ≠ .retired) && (servedBy s b k).isNone
    && !((List.range 8).any fun i => match (chan s (8 * b + i)).remap with
      | some r => r.new == k
      | none => false)

/-- Available slices of a bank, highest first. -/
def freeSlices (s : State) (b : Nat) : List Nat := ((List.range 10).filter (sliceFree s b)).reverse

/-- The rovers: the two highest-numbered available slices (R309). -/
def rovers (s : State) (b : Nat) : List Nat := (freeSlices s b).take 2

def visitOn (s : State) (c : Nat) : Option Visit := (bankSt s (c / 8)).visits.find? (·.channel == c)
def visitBy (s : State) (b k : Nat) : Option Visit := (bankSt s b).visits.find? (·.rover == k)

/-- A rover's results stand for the channel (R311). -/
def covered (s : State) (c : Nat) : Bool :=
  match visitOn s c with
  | some v => decide (v.stage = .cover ∨ v.stage = .resettle)
  | none => false

/-- A visit ends because its rover is taken or its channel is gone. -/
def State.dropVisit (s : State) (b k : Nat) : State :=
  (s.setBank b fun x => { x with visits := x.visits.filter (·.rover != k) }).setSlice b k Slice.toOff

/-- A visit is over: the rover runs its own self-check before the next (R309). -/
def State.endVisit (s : State) (b k : Nat) : State := (s.dropVisit b k).setSlice b k Slice.toCheck

def State.putVisit (s : State) (b : Nat) (v : Visit) : State :=
  s.setBank b fun x => { x with visits := x.visits.map fun w => if w.rover = v.rover then v else w }

/-- CHANNEL_EVENT with its record (R321). -/
def State.chanEvent (s : State) (ev bank ch sl sl2 detail : Nat) (a b : Int) : State :=
  s.logEvent (0x0200 + ev) 0xC040 (le 1 ev ++ le 1 bank ++ le 1 ch ++ le 1 sl ++ le 1 sl2 ++ le 1 detail ++ zeros 2
    ++ leInt 4 a ++ leInt 4 b)

def sliceOr (c : Chan) : Nat := c.slice.getD 0xFF

/-! ## Conversion settings (R293, R295) -/

def effRate (s : State) (k : ChanCfg) : Nat := if s.lanes.running = .quiet then 0 else k.rate
def effChop (s : State) (k : ChanCfg) : Bool := decide (s.lanes.running = .fine) && decide (effRate s k ≤ 4)

/-- Terminals a channel claims (R288). -/
def claimed (k : ChanCfg) : List Nat := [k.pos, k.neg, k.excT, k.bias].filter (· != 0)

def clampSet (s : State) (c : Nat) : Bool :=
  (chan s c).clamped || (claimed (chanCfg s c)).any fun t => (nth (bankSt s (c / 8)).clamps (t - 1)).flag

/-- The start of the next conversion clears the flags of clamps that no longer conduct (R299). -/
def State.clearClamps (s : State) (c : Nat) : State :=
  let ts := claimed (chanCfg s c)
  let clear (p : Clamp × Nat) : Clamp :=
    if ts.contains (p.2 + 1) && p.1.flag && !p.1.conducting then { p.1 with flag := false, cleared := s.tm.now } else p.1
  (s.setBank (c / 8) fun b => { b with clamps := b.clamps.zipIdx.map clear }).setChan c fun x => { x with clamped := false }

/-- A filter start of slice n for channel c, with the settings in force. -/
def State.startFilter (s : State) (c n : Nat) : State :=
  let k := chanCfg s c
  (s.setSlice (c / 8) n fun y => y.filterStart (effRate s k) (effChop s k) ((fabUs s).getD 0)).clearClamps c

/-- The settings in force are not those slice n's conversions began with. -/
def settingsChanged (s : State) (c n : Nat) : Bool :=
  let k := chanCfg s c
  let y := slice s (c / 8) n
  y.rate != effRate s k || y.chop != effChop s k

/-- The next request of a pulsed channel falls within 1 ms (R293). -/
def requestNear (s : State) (c : Nat) : Bool := decide ((chan s c).requestDue ≤ s.tm.now + 1000)

/-- A request that waited is issued, else the slice idles. -/
def State.idleOrLead (s : State) (c n : Nat) : State :=
  let k := chanCfg s c
  if (chan s c).requestWaits then
    (s.setChan c fun x => { x with requestWaits := false }).setSlice (c / 8) n fun y => y.toLead k (s.tm.now + k.lead)
  else s.setSlice (c / 8) n fun y => y.toIdle (requestNear s c)

/-- Start the channel on its slice (Table 10-6): a pulsed channel idles until its request, a continuous one enters LEAD. -/
def State.startConversion (s : State) (c : Nat) : State :=
  let k := chanCfg s c
  match (chan s c).slice with
  | some n =>
    let s1 := s.setChan c fun x => { x with settling := true, retry := false, checkWaits := false }
    if k.mode = 0 then s1.setSlice (c / 8) n Slice.toOff
    else if k.pulsed then s1.idleOrLead c n
    else s1.setSlice (c / 8) n fun y => y.toLead k (s.tm.now + k.lead)
  | none => s

/-- The schedules of a channel that begins its conversions anew: requests, windows and checks count from now. -/
def State.startSchedules (s : State) (c : Nat) : State :=
  s.setChan c fun x => { x with requestDue := s.tm.now, requestWaits := false, windowDue := s.tm.now, checkDue := s.tm.now + 600000000 }

/-- A window in progress is broken off and runs again (R301); a CHAN.CHECK waits for the new one. -/
def State.breakWindow (s : State) (c : Nat) : State :=
  if (chan s c).inWindow then
    s.setChan c fun x => { x with inWindow := false, toneHz := 0, windowWaits := true
                                  check := x.check.map fun q => { q with window := false } }
  else s

/-! ## Publication (R303 to R305) -/

/-- Publish a quality and value to every tag that names the channel. -/
def State.publishChan (s : State) (c : Nat) (q : BitVec 8) (v : Word) : State :=
  (s.setChan c fun x => { x with quality := q, published := some (q, v) }).publishSource 1 c q v

/-- An owned tag of a source has taken no result since the core started: the next counts as differing (R248). -/
def freshTag (s : State) (kind ref : Nat) : Bool :=
  (ownedTags s).any fun t => (desc s t).srcKind == kind && (desc s t).srcRef == ref && (look s.repl.results t).isNone

/-- Publish a quality to a tag with its value unchanged: the one last published, else the one the replica holds. -/
def State.publishHeld (s : State) (t : Nat) (q : BitVec 8) : State :=
  s.publish t q (((look s.repl.results t).map (·.2)).getD (tagDyn s t).value)

/-- A BAD quality at the moment its condition is found, the value unchanged (R305). -/
def State.publishBad (s : State) (c : Nat) (q : BitVec 8) : State :=
  ((ownedTags s).filter fun t => (desc s t).srcKind == 1 && (desc s t).srcRef == c).foldl (fun (acc : State) t => acc.publishHeld t q)
    (s.setChan c fun x => { x with quality := q, published := x.published.map fun p => (q, p.2) })

/-- The magnitude of a difference is at least the deadband, or differs at all for a deadband of 0 (R304). -/
def beyondBand (v last band : Word) : Bool :=
  if F32.key band = 0 then decide (F32.key v ≠ F32.key last)
  else
    let d := F32.sub v last
    F32.le band (if F32.neg? d then F32.neg d else d)

/-- Publish a VALID result when R304 asks for it. -/
def State.publishValid (s : State) (c : Nat) (k : ChanCfg) (q : BitVec 8) (v : Word) : State :=
  match (chan s c).published with
  | some (q0, v0) =>
    if q0 ≠ q ∨ beyondBand v v0 k.deadband ∨ freshTag s 1 c then s.publishChan c q v else s
  | none => s.publishChan c q v

/-! ## HART suspension (R366) -/

/-- The owned tags that name a variable of an instrument (R363). -/
def varTags (s : State) (slot i : Nat) : List Nat :=
  (ownedTags s).filter fun t =>
    let d := desc s t
    d.srcKind == 3 && d.srcRef == i && d.owner % 64 == slot

/-- Publish a variable of an instrument to the tags that name it. -/
def State.publishVar (s : State) (slot i : Nat) (q : BitVec 8) (v : Word) : State :=
  (varTags s slot i).foldl (fun acc t => acc.publish t q v) s

/-- The four variables of an instrument become BAD_INSTRUMENT, their values unchanged. -/
def State.instBad (s : State) (c slot : Nat) : State :=
  let s1 := ((List.range 4).flatMap (varTags s slot)).foldl (fun (acc : State) t => acc.publishHeld t qBadInstrument) s
  s1.setLoop c fun l => { l with insts := l.insts.map fun x =>
    if x.slot = slot then { x with vars := x.vars.map fun v => (qBadInstrument, v.2) } else x }

/-- LOOP_UNAVAILABLE for every transaction waiting on the channel (R366, R369). -/
def State.loopUnavailable (s : State) (c : Nat) : State :=
  let mine := s.ana.q30.filter (·.channel == c)
  let running := ((loopSt s c).trans.bind (·.cmd)).toList
  (mine.map (·.cmd) ++ running).foldl (fun (acc : State) d => acc.complete d 0x0640 Status.loopUnavailable)
    ({ s with ana.q30 := s.ana.q30.filter (·.channel != c) }.setLoop c fun l => { l with trans := none })

def State.suspendFsk (s : State) (c : Nat) : State :=
  if (chanCfg s c).fsk then
    (loopSt s c).insts.foldl (fun (acc : State) i => acc.instBad c i.slot) (s.loopUnavailable c)
  else s

/-- Instruments are read again (R360, R366). -/
def State.readInstruments (s : State) (c : Nat) : State :=
  s.setLoop c fun l => { l with insts := l.insts.map fun i => { i with found := false, nextRead := s.tm.now } }

/-! ## Forces, and what a channel's retirement stops (R358, R370) -/

/-- LOOP_FORCE record: 1 started, 2 released, 3 expired, 4 ended by restart, commit or retirement. -/
def State.forceEvent (s : State) (c detail ua : Nat) : State :=
  s.chanEvent 21 (c / 8) c (sliceOr (chan s c)) 0xFF detail ua 0

def State.endLoopForce (s : State) (c detail : Nat) : State :=
  match (loopSt s c).forced with
  | some (ua, _) => (s.setLoop c fun l => { l with forced := none }).forceEvent c detail ua
  | none => s

/-- A driver and supply that no longer drive their loop: 0 mA until a setpoint comes (R358), and neither COMPLIANCE nor THERMAL. -/
def State.stopDriver (s : State) (c : Nat) : State :=
  s.setLoop c fun l => { l with setpoint := 0, latched := 0, supply := 24, current := 0, power := 0, failing := false, refused := false, compliance := false, thermal := false
                                hotSince := none, coolSince := none, badSince := none, goodSince := some (l.goodSince.getD s.tm.now) }

/-! ## CHAN.CHECK (R320) -/

/-- Complete a CHAN.CHECK whose window, visit and self-check are known. -/
def State.tryComplete (s : State) (c : Nat) : State :=
  match (chan s c).check with
  | some k =>
    match k.ohms, k.visit, k.selfCheck with
    | some o, some (r, d), some sc =>
      (s.setChan c fun x => { x with check := none }).complete k.cmd 0x0542 Status.ok
        (zeros 2 ++ le 4 o ++ le 1 r ++ le 1 sc ++ zeros 2
          ++ (match d with | some v => leInt 4 v | none => leInt 4 (-0x80000000)))
    | _, _, _ => s
  | none => s

def State.noteCheck (s : State) (c : Nat) (f : ChanCheck → ChanCheck) : State :=
  (s.setChan c fun x => { x with check := x.check.map f }).tryComplete c

/-- The result of the serving slice's self-check, once the visit it belongs to is known (R311, R320). -/
def State.noteSelfCheck (s : State) (c v : Nat) : State :=
  s.noteCheck c fun k => if k.visit.isSome then { k with selfCheck := some (k.selfCheck.getD v) } else k

/-- The visit a CHAN.CHECK waits for will not run, or ends without a self-check of the serving slice. -/
def State.noVisit (s : State) (c : Nat) : State :=
  s.noteCheck c fun k => { k with visit := some (k.visit.getD (3, none)), selfCheck := some (k.selfCheck.getD 2) }

/-- A CHAN.CHECK on a channel that leaves service ends with what it has; a window that never ran reads as never
checked. -/
def State.endCheck (s : State) (c : Nat) : State :=
  let s1 := s.setBank (c / 8) fun b => { b with wanted := b.wanted.filter (· != c % 8) }
  (s1.noVisit c).noteCheck c fun k => { k with ohms := some (k.ohms.getD 0xFFFFFFFF) }

/-- The visit on a channel is dropped; a CHAN.CHECK that asked for it ends without it. -/
def State.loseVisit (s : State) (b : Nat) (v : Visit) : State :=
  if v.forCheck then (s.dropVisit b v.rover).noVisit v.channel else s.dropVisit b v.rover

/-- Without a rover the visits that checks wait for are not run. -/
def State.checkRovers (s : State) (b : Nat) : State :=
  if (rovers s b).isEmpty then
    (bankSt s b).wanted.foldl (fun (acc : State) j => acc.noVisit (8 * b + j)) (s.setBank b fun x => { x with wanted := [] })
  else s

/-- A rover is taken from its visit to serve a channel: a CHAN.CHECK that waits for the visit waits for another, and
one whose visit had its result goes on without an after-check. -/
def State.takeRover (s : State) (b k : Nat) : State :=
  let s1 := s.dropVisit b k
  match visitBy s b k with
  | some v =>
    if !v.forCheck then s1
    else if v.stage = .afterCheck then s1.noVisit v.channel
    else if v.stage = .preCheck ∨ v.stage = .collect then s1.setBank b fun x => { x with wanted := v.channel % 8 :: x.wanted }
    else s1
  | none => s1

/-! ## Retirement and remap (R312, R314, R319) -/

/-- Retire a channel: 3 by fault (detail 1), 4 by command (detail 2). -/
def State.retireChan (s : State) (c kind : Nat) : State :=
  let x := chan s c
  let s1 : State := match x.slice with
    | some n => s.setSlice (c / 8) n Slice.toOff
    | none => s
  let s2 := s1.setChan c fun y => { y with retired := kind, slice := none, remap := none, isOpen := false, excFault := false
                                           settling := false, inWindow := false, toneHz := 0, late := none }
  let s3 := (s2.publishBad c qChannel).chanEvent 3 (c / 8) c (sliceOr x) 0xFF (if kind = 4 then 2 else 1) 0 0
  let s4 := (s3.suspendFsk c).endLoopForce c 4
  let s5 := s4.stopDriver c
  ((visitOn s5 c).elim s5 fun v => s5.endVisit (c / 8) v.rover).endCheck c

/-- The slice that takes over a channel, and whether it is already on it (R312). -/
def successor (s : State) (b c : Nat) : Option (Nat × Bool) :=
  match visitOn s c with
  | some v => if (slice s b v.rover).phase = SlicePhase.retired then none else some (v.rover, true)
  | none =>
    let free := freeSlices s b
    let covers (k : Nat) : Bool := match visitBy s b k with
      | some v => decide (v.stage = .cover ∨ v.stage = .resettle)
      | none => false
    match free.find? fun k => !covers k with
    | some k => some (k, false)
    | none => (free.find? covers).map fun k => (k, false)

/-- Remap a channel whose slice is lost, or retire it. -/
def State.remapChan (s : State) (b c old : Nat) : State :=
  let s0 := (s.breakWindow c).setChan c fun x => { x with slice := none, late := none }
  match successor s0 b c with
  | none => s0.retireChan c 3
  | some (k, onIt) =>
    let s1 := if onIt then (visitOn s0 c).elim s0 fun v => s0.loseVisit b v else s0.takeRover b k
    let at_ := s.tm.now + (if onIt then 0 else 100)
    let s2 := s1.setLoop c fun l => { l with trans := l.trans.map fun t => { t with sent := none } }
    (s2.setChan c fun x => { x with settling := true, remap := some { new := k, old, decided := s.tm.now, at_ } }).checkRovers b

/-- The slice a used channel without one starts on: its home slice, else the highest-numbered available slice; with
none available the channel is retired (R280, R314; log entry 73, DEDUCED). -/
def State.assignSlice (s : State) (c : Nat) : State :=
  let x := chan s c
  let b := c / 8
  if (chanCfg s c).mode = 0 ∨ x.retired ≠ 0 ∨ x.slice.isSome ∨ x.remap.isSome then s
  else match if sliceFree s b (c % 8) then some (c % 8) else (freeSlices s b).head? with
    | some k => ((s.takeRover b k).setChan c fun y => { y with slice := some k }).checkRovers b
    | none => s.retireChan c 3

/-- An unused channel has no slice: what served it becomes available (R280). -/
def State.releaseSlice (s : State) (c : Nat) : State :=
  let b := c / 8
  let s1 : State := match (chan s c).slice with
    | some n => s.setSlice b n Slice.toOff
    | none => s
  let s2 := s1.setChan c fun y => { y with slice := none, remap := none, isOpen := false, excFault := false
                                           settling := false, inWindow := false, toneHz := 0, late := none }
  ((visitOn s2 c).elim s2 fun v => s2.endVisit b v.rover).endCheck c

/-- Retire a slice: 1 self-checks, 2 roving difference (R307, R310, R312, R315). -/
def State.retireSlice (s : State) (b k reason : Nat) (d : Int) : State :=
  let c := servedBy s b k
  let s1 := (s.setSlice b k Slice.retire).chanEvent 1 b (c.getD 0xFF) k 0xFF reason d 0
  let s2 := s1.setBank b fun x => { x with visits := x.visits.filter (·.rover != k) }
  let s2 := [4, 5, 6].foldl (fun (acc : State) m => acc.judgeEntry m) s2
  match c with
  | some ch => s2.remapChan b ch k
  | none => s2.checkRovers b

/-- REMAP_HANDOVER: the new slice takes all four roles (R312, R358). -/
def execRemapHandover (channel : Nat) (s : State) : Out :=
  .next (match (chan s channel).remap with
    | some r =>
      if s.core = .running ∧ !r.done ∧ r.at_ ≤ s.tm.now then
        let s1 := s.setChan channel fun x => { x with slice := some r.new, remap := some { r with done := true } }
        (s1.startConversion channel).setLoop channel fun l => { l with trans := l.trans.map fun t => { t with sent := none } }
      else s
    | none => s)

/-! ## Self-checks (R307, R313) -/

/-- Put a slice into CHECK; no window runs in it (R301). -/
def State.checkSlice (s : State) (b k : Nat) : State :=
  ((servedBy s b k).elim s fun c => s.breakWindow c).setSlice b k Slice.toCheck

/-- An excitation change, or a check of the working slice, restarts a visit at step 3 (R310). -/
def State.restartVisit (s : State) (c : Nat) : State :=
  match visitOn s c with
  | some v => if v.stage = .collect then s.putVisit (c / 8) { v with diffs := [], codesS := [], codesW := [] } else s
  | none => s

/-- The self-check of a channel's slice in place: at once when continuous, in IDLE when pulsed (R311, R313). -/
def State.checkInPlace (s : State) (c k : Nat) : State :=
  if (chanCfg s c).pulsed ∧ (slice s (c / 8) k).phase ≠ .idle then s.setChan c fun x => { x with checkWaits := true }
  else s.checkSlice (c / 8) k

/-- The immediate self-check of a channel's slice (R308), not while a rover covers it. -/
def State.checkNow (s : State) (c : Nat) : State :=
  match (chan s c).slice with
  | some k => if covered s c then s else ((s.setChan c fun x => { x with settling := true }).checkInPlace c k).restartVisit c
  | none => s

/-- No rover visits the channel, because none is available or it is excluded (R313). -/
def unroved (s : State) (c : Nat) : Bool :=
  ((chanCfg s c).noRove || (rovers s (c / 8)).isEmpty) && (visitOn s c).isNone

/-! ## Visits (R309 to R311) -/

/-- Tolerance T of a visit at a rate (R310). -/
def roveT (rate : Nat) : Int := if rate ≤ 7 then 1678 else 3356

/-- The next channel of a rotation that may be visited. -/
def nextVisit (s : State) (b i : Nat) : Option Nat :=
  let start := nth (bankSt s b).rotation i
  ((List.range 8).map fun j => 8 * b + (start + j) % 8).find? fun c =>
    let k := chanCfg s c
    decide (k.mode ≠ 0) && (chan s c).slice.isSome && (chan s c).retired == 0 && !k.noRove && (visitOn s c).isNone

/-- ROVE_VISIT_START: a rover visits the channel a CHAN.CHECK waits for, else the next of its rotation; with none it
checks itself. -/
def execRoveVisitStart (bank slice_ : Nat) (s : State) : Out :=
  .next (
    let rs := rovers s bank
    if s.core = .running ∧ bank < 4 ∧ rs.contains slice_ ∧ (visitBy s bank slice_).isNone ∧ (slice s bank slice_).phase = .off then
      let i := rs.findIdx (· == slice_)
      let waits := (bankSt s bank).wanted.find? fun j => (visitOn s (8 * bank + j)).isNone
      let target := match waits with
        | some j => some (8 * bank + j)
        | none => nextVisit s bank i
      let s1 := s.checkSlice bank slice_
      match target with
      | some c =>
        s1.setBank bank fun x =>
          { x with visits := x.visits ++ [{ rover := slice_, channel := c, forCheck := waits.isSome }]
                   wanted := x.wanted.filter (· != c % 8)
                   rotation := if waits.isSome then x.rotation else upd x.rotation i fun _ => (c % 8 + 1) % 8 }
      | none => s1
    else s)

/-- Judge eight pairs (R310): pass or drift lead to the cover, a difference beyond 4T to the after-check. -/
def State.judgeVisit (s : State) (b : Nat) (v : Visit) (diffs : List Int) : State :=
  let c := v.channel
  let k := chanCfg s c
  let d := Int.tdiv diffs.sum 8
  let w := sliceOr (chan s c)
  let t := roveT (slice s b w).rate
  let a : Int := d.natAbs
  let s1 := s.setChan c fun x => { x with roveD := some d }
  let note (z : State) (r : Nat) : State :=
    if v.forCheck then z.noteCheck c fun q => { q with visit := some (r, some d) } else z
  if a ≤ 4 * t then
    let s2 : State := if t < a then
        let z := (s1.chanEvent 7 b c w v.rover 0 d t).setSlice b w fun y => { y with drift := d }
        z.measure 4 (10 * b + w) (gainDrift (slice z b w))
      else s1
    let s3 := note s2 (if t < a then 1 else 0)
    if k.pulsed then (s3.endVisit b v.rover).checkInPlace c w
    else (s3.putVisit b { v with stage := .cover, diffs, codesS := [], codesW := [] }).checkSlice b w
  else
    ((note s1 2).putVisit b { v with stage := .afterCheck, diffs, codesS := [], codesW := [] }).checkSlice b v.rover

/-- A code of the rover or of the working slice: codes whose conversions end together are a pair (R310). -/
def State.pairCode (s : State) (b : Nat) (v : Visit) (rover : Bool) (code : Int) (endUs : Nat) : State :=
  let later (l : List (Int × Nat)) : List (Int × Nat) := l.filter fun x => decide (endUs < x.2)
  match (if rover then v.codesW else v.codesS).find? (·.2 == endUs) with
  | some (other, _) =>
    let diffs := v.diffs ++ [if rover then code - other else other - code]
    let v1 := { v with codesS := later v.codesS, codesW := later v.codesW, diffs }
    if diffs.length = 8 then s.judgeVisit b v1 diffs else s.putVisit b v1
  | none => s.putVisit b (if rover then { v with codesS := v.codesS ++ [(code, endUs)] }
      else { v with codesW := v.codesW ++ [(code, endUs)] })

/-- SELF_CHECK_DONE (R307, R310, R311, R313): count, repeat or retire, then what the check was for. -/
def State.selfCheck (s : State) (b k : Nat) (off gain : Int) : State :=
  let bad1 := decide (off < -839 ∨ 839 < off)
  let bad2 := decide (gain < -500 ∨ 500 < gain)
  let ok := !bad1 && !bad2
  let now := s.tm.now
  let served := servedBy s b k
  let s1 := s.setSlice b k fun y =>
    { y with lastOffset := off, lastGain := gain
             fails := if ok then 0 else y.fails + 1
             failedEver := if ok then y.failedEver else sat16 (y.failedEver + 1)
             passed := if ok then (off, gain) :: y.passed else y.passed }
  let fails := (slice s1 b k).fails
  if !ok then
    let s2 := s1.chanEvent 9 b (served.getD 0xFF) k 0xFF (flagBits [bad1, bad2]) off gain
    let s3 := match served with
      | some c => s2.noteSelfCheck c 1
      | none => s2
    -- a failed pre-check or after-check ends the visit; after a pre-check a CHAN.CHECK waits for the next
    let s4 := match visitBy s3 b k with
      | some v =>
        let z := s3.setBank b fun x => { x with visits := x.visits.filter (·.rover != k) }
        if v.stage = .preCheck then
          (if v.forCheck then z.setBank b fun x => { x with wanted := v.channel % 8 :: x.wanted } else z)
        else if v.stage = .afterCheck then (if v.forCheck then z.noVisit v.channel else z)
        else s3
      | none => s3
    if 3 ≤ fails then s4.retireSlice b k 1 0 else s4
  else match served with
    | some c =>
      let q := chanCfg s c
      let s2 := s1.noteSelfCheck c 0
      if covered s2 c then
        match visitOn s2 c with
        | some v => (s2.putVisit b { v with stage := .resettle, held := none }).startFilter c k
        | none => s2
      else
        let x := chan s2 c
        let back : State := if q.pulsed then s2.idleOrLead c k else s2.setSlice b k fun y => y.toLead q (now + q.lead)
        -- the check passes after an OVERRANGE whose retry failed: the signal is overrange (R308)
        let declared := x.retry && !x.inRange
        let s4 := back.setChan c fun x => { x with checkDue := now + 600000000, retry := false, overrange := x.overrange || declared }
        if declared && !x.isOpen && !x.excFault then s4.publishBad c qConversion else s4
    | none =>
      match visitBy s1 b k with
      | some v =>
        if v.stage = .preCheck then
          (s1.putVisit b { v with stage := .collect }).setSlice b k fun y =>
            y.filterStart (effRate s (chanCfg s v.channel)) (effChop s (chanCfg s v.channel)) ((fabUs s).getD 0)
        else if v.stage = .afterCheck then
          match (chan s1 v.channel).slice with
          | some w => s1.retireSlice b w 2 ((chan s1 v.channel).roveD.getD 0)
          | none => s1.dropVisit b k
        else s1
      | none => s1.setSlice b k Slice.toOff

def execSelfCheckDone (bank slice_ : Nat) (offsetErr gainPpm : Int) (s : State) : Out :=
  .next (
    if s.core = .running ∧ bank < 4 ∧ slice_ < 10 ∧ (slice s bank slice_).phase = .check then
      s.selfCheck bank slice_ offsetErr gainPpm
    else s)

/-- IN_PLACE_CHECK_TIMER: every 600 s on a channel no rover visits (R313). -/
def execInPlaceCheckTimer (channel : Nat) (s : State) : Out :=
  .next (
    let x := chan s channel
    let k := chanCfg s channel
    if s.core = .running ∧ channel < 32 ∧ x.checkDue ≤ s.tm.now ∧ k.mode ≠ 0 ∧ unroved s channel then
      match x.slice with
      | some n =>
        let ph := (slice s (channel / 8) n).phase
        let s1 := s.setChan channel fun y => { y with checkDue := s.tm.now + 600000000 }
        if ph = .check ∨ (k.pulsed ∧ ph ≠ .idle) then s else s1.checkNow channel
      | none => s
    else s)

end Sys2Proof.Machine
end

