-- ==== Sys2Proof/Machine/Analog.lean ====
section
/-! DEFINITION. Conversions and the events of the analogue banks (chapters 10 and 11), and the CHAN opcodes. -/

namespace Sys2Proof.Machine

/-! ## Result codes (R292, R294) -/

/-- Round to nearest, ties to even. -/
def roundEven (n : Int) (d : Nat) : Int :=
  let q := n.fdiv d
  let r := n - q * d
  if 2 * r < d then q else if (d : Int) < 2 * r then q + 1 else if q % 2 = 0 then q else q + 1

def satCode (x : Int) : Int := max (-8388607) (min 8388607 x)

/-- A raw filter output less the offset, times the gain correction. -/
def calibrate (sl : Slice) (raw : Int) : Int := roundEven ((raw - sl.offset) * (1000000 + sl.gainPpm)) 1000000

/-- The code before saturation of a result from its settled conversions. -/
def combine (k : ChanCfg) (chop : Bool) (cs : List Int) : Int :=
  let one (i : Nat) : Int := if chop then roundEven (satCode (nth cs (2 * i)) - satCode (nth cs (2 * i + 1))) 2 else nth cs i
  if k.mode = 4 then satCode (one 0) - satCode (one 1) else one 0

/-- Result word (Table 10-5). -/
def resultWord (status : Nat) (code : Int) (clamp chopped cover : Bool) : Word :=
  let c := if status = 0 ∨ status = 3 then (satCode code % 16777216).toNat else 0
  BitVec.ofNat 32 (c + status * 0x1000000 + flagBits [clamp, chopped, cover] * 0x10000000)

/-! ## Delivery (R302, R304, R305, R354, R355) -/

/-- Deliver a result word to CHAN.READ. -/
def State.deliverWord (s : State) (c : Nat) (w : Word) (endUs : Nat) : State :=
  s.setChan c fun x => { x with last := w, endUs, settling := false }

/-- NE 43 class of a current in mA (R354): 0 in range, 1 low, 2 high, 3 outside the measuring range. -/
def ne43Class (x : Word) : Nat :=
  let ma (n : Nat) : Word := F32.ofRat false n 10
  if F32.le x (ma 36) then 1 else if F32.le (ma 210) x then 2
  else if F32.lt x (ma 38) || F32.lt (ma 205) x then 3 else 0

/-- Current in µA of a signal in mA. -/
def toUa (x : Word) : Int := F32.floorScaled x 1000 1

/-- Account for the NE 43 class of a point-to-point input: events at the start and end of a failure band. -/
def State.ne43 (s : State) (c cls : Nat) (x : Word) : State :=
  let was := (loopSt s c).ne43
  let ev (n detail : Nat) : State := (s.setLoop c fun l => { l with ne43 := if n = 14 then cls else 0 }).chanEvent n (c / 8) c
    (sliceOr (chan s c)) 0xFF detail (toUa x) 0
  if (cls = 1 ∨ cls = 2) ∧ was ≠ cls then ev 14 cls
  else if cls = 0 ∧ was ≠ 0 then ev 15 0
  else s

/-- A VALID result under an entry: linearised and published with the first quality that applies (Tables 10-8 and 12-3). `sl` is the
slice whose sense the signal comes from. -/
def State.validResult (s : State) (c : Nat) (k : ChanCfg) (sl : Slice) (code : Int) (clamp : Bool) (endUs : Nat) : State :=
  let (fv, s0) := (s.setChan c fun y => { y with overrange := false, inRange := true, retry := false }).takeFree
  let err : Int := (fv % 9801 : Nat) - 4900
  if !auxReady s0 c k endUs then s0
  else
    let x := signal k sl code
    let classed := (k.mode = 7 ∨ k.mode = 8) && !k.multidrop
    let cls := if classed then ne43Class x else 0
    let s1 := if classed then s0.ne43 c cls x else s0
    match linearise s1 c k sl code endUs err with
    | none =>
      let s2 := s1.setChan c fun y => { y with upsets := sat16 (y.upsets + 1) }
      s2.publishBad c (if cls = 1 ∨ cls = 2 then qNe43 else qConversion)
    | some (u, y, out) =>
      let s2 := s1.setChan c fun z => { z with base := some (u, endUs), value := y }
      let l := loopSt s2 c
      if cls = 1 ∨ cls = 2 then s2.publishBad c qNe43
      else if isLoopMode k.mode && (l.compliance || l.thermal) then s2.publishValid c k qCompliance y
      else if clamp then s2.publishValid c k qClamp y
      else if out || cls == 3 then s2.publishValid c k qRange y
      else s2.publishValid c k qGood y

/-- An excitation fault begins or ends (R298): three output periods within the limits end it. -/
def State.excitation (s : State) (c : Nat) (limit : Bool) : State :=
  let x := chan s c
  let ev (n detail : Nat) (z : State) : State := z.chanEvent n (c / 8) c (sliceOr x) 0xFF detail (sint 4 x.ohms) 0
  if limit then
    if x.excFault then s.setChan c fun y => { y with excGood := 0 }
    else ev 5 2 ((s.setChan c fun y => { y with excFault := true, excGood := 0 }).publishBad c qOpen)
  else if x.excFault then
    if 3 ≤ x.excGood + 1 then ev 6 0 (s.setChan c fun y => { y with excFault := false, excGood := 0 })
    else s.setChan c fun y => { y with excGood := y.excGood + 1 }
  else s

/-- The remap's first result (R312). -/
def State.remapped (s : State) (c : Nat) : State :=
  match (chan s c).remap with
  | some r =>
    if r.done then
      (s.setChan c fun x => { x with remap := none }).chanEvent 2 (c / 8) c r.old r.new 0 ((s.tm.now - r.decided : Nat) : Int) 0
    else s
  | none => s

/-- Restoration after an open circuit: the filter of slice n is flushed and settling restarts (R302). -/
def State.settleAgain (s : State) (c n : Nat) : State :=
  let s1 := s.setChan c fun x => { x with settling := true }
  if (slice s (c / 8) n).phase = .run then s1.startFilter c n else s1

/-- A code from the sub-conversions of a result (R292, R294). -/
def resultCode (k : ChanCfg) (sl : Slice) (chop : Bool) (r : ConvResult) : Int :=
  combine k chop ((r.raw.take (subCount k chop)).map (calibrate sl))

def overloaded (r : ConvResult) (code : Int) : Bool := r.overload || decide (code < -8388607 ∨ 8388607 < code)

/-- A result of slice n, whose results are the channel's (R292, R302, R308). A rover senses across the serving slice `sg`: its own
calibration gives the code, the serving slice's references the signal (R310, R341). -/
def State.channelResult (s : State) (c n : Nat) (sg : Slice) (r : ConvResult) (cover : Bool) : State :=
  let k := chanCfg s c
  let sl := slice s (c / 8) n
  let code := resultCode k sl sl.chop r
  let clamp := clampSet s c
  let was := (chan s c).excFault
  let s1 := (s.excitation c r.excLimit).remapped c
  let x := chan s1 c
  let word (st : Nat) : Word := resultWord st code clamp sl.chop cover
  if x.isOpen || x.excFault then (s1.deliverWord c (word 2) r.endUs).setChan c fun y => { y with retry := false }
  else if was then
    -- the result at which the fault clears is still OPEN, and settling restarts (R302)
    ((s1.deliverWord c (word 2) r.endUs).setChan c fun y => { y with retry := false }).settleAgain c n
  else if overloaded r code then
    if x.overrange then s1.deliverWord c (word 3) r.endUs
    else if x.inRange && !x.retry then
      let s2 := s1.setChan c fun y => { y with retry := true, upsets := sat16 (y.upsets + 1) }
      if k.pulsed then s2.setSlice (c / 8) n fun y => y.toLead k (s.tm.now + k.lead) else s2
    else ((s1.deliverWord c (word 3) r.endUs).setChan c fun y => { y with inRange := false, retry := true }).checkNow c
  else
    let s2 := (s1.deliverWord c (word 0) r.endUs).validResult c k sg (satCode code) clamp r.endUs
    -- the retry of a discarded OVERRANGE succeeded: an upset all the same (R313)
    if x.retry && x.inRange && unroved s c then s2.checkNow c else s2

/-- After a result of the serving slice: a pulsed slice idles, checks or answers a request that waited, flags clear as the next
conversion starts, new settings apply (R293, R295, R299, R311). -/
def State.afterResult (s : State) (c n : Nat) : State :=
  let b := c / 8
  let k := chanCfg s c
  if (slice s b n).phase ≠ .run then s
  else if k.pulsed then
    if (chan s c).checkWaits then
      ((s.setChan c fun x => { x with checkWaits := false }).setSlice b n fun y => y.toIdle false).checkSlice b n
    else s.idleOrLead c n
  else if settingsChanged s c n then ((s.setChan c fun x => { x with settling := true }).startFilter c n).restartVisit c
  else s.clearClamps c

/-- A frame or its single re-read passes its check (R282, Table 10-9). -/
def goodResult (r : ConvResult) : Bool := frameOk r.frame || frameOk r.reread

/-- A frame that fails its check is an upset, whatever its re-read gives. -/
def State.countUpset (s : State) (c : Nat) (r : ConvResult) : State :=
  if frameOk r.frame then s else s.setChan c fun x => { x with upsets := sat16 (x.upsets + 1) }

/-- LINK_CRC is delivered for a result whose re-read fails too. -/
def State.linkCrc (s : State) (c n : Nat) (r : ConvResult) (cover : Bool) : State :=
  (s.deliverWord c (resultWord 4 0 (clampSet s c) (slice s (c / 8) n).chop cover) r.endUs).setChan c fun x => { x with retry := false }

/-- A covering rover's result is the channel's; then the settings in force apply to it too (R295, R311). -/
def State.coverResult (s : State) (v : Visit) (r : ConvResult) : State :=
  let c := v.channel
  let s1 := if goodResult r then s.channelResult c v.rover (slice s (c / 8) (sliceOr (chan s c))) r true else s.linkCrc c v.rover r true
  if (slice s1 (c / 8) v.rover).phase ≠ .run then s1
  else if settingsChanged s1 c v.rover then (s1.setChan c fun x => { x with settling := true }).startFilter c v.rover
  else s1.clearClamps c

/-- The covering rover's held result is delivered, unless the working slice's valid output ended with it (R311). -/
def State.settleHeld (s : State) (v : Visit) (valid : Option Nat) : State :=
  match v.held with
  | some h =>
    let s1 := s.putVisit (v.channel / 8) { v with held := none }
    if valid = some h.endUs then s1 else s1.coverResult v h
  | none => s

/-- A result that ended before its conversion was interrupted (R297): delivered to CHAN.READ where nothing later stands, and
published under the entry it was made under. -/
def State.lateResult (s : State) (c : Nat) (l : LateResult) (r : ConvResult) : State :=
  let k := ChanCfg.ofBytes l.entry
  let sl := slice s (c / 8) l.slice
  let code := resultCode k sl l.chop r
  let x := chan s c
  let clamp := clampSet s c
  let st := if !goodResult r then 4 else if x.isOpen || x.excFault then 2 else if overloaded r code then 3 else 0
  let s1 := s.countUpset c r
  let s2 := if x.endUs ≤ r.endUs then
      s1.setChan c fun y => { y with last := resultWord st code clamp l.chop false, endUs := r.endUs }
    else s1
  if st = 0 then s2.validResult c k sl (satCode code) clamp r.endUs else s2

/-- A result of the slice that serves a channel. While its rover still covers, a bad frame is no valid output. -/
def State.workingResult (s : State) (c n : Nat) (r : ConvResult) : State :=
  let b := c / 8
  let s1 := (s.setSlice b n fun y => { y with phase := .run }).countUpset c r
  let sl := slice s1 b n
  let again (z : State) : State := if !frameOk r.frame && unroved s c then z.checkNow c else z
  match (visitOn s c).filter (·.stage == .resettle) with
  | some v =>
    let s2 := s1.settleHeld v (if goodResult r then some r.endUs else none)
    if goodResult r then ((s2.endVisit b v.rover).channelResult c n sl r false).afterResult c n else s2
  | none =>
    if !goodResult r then ((s1.linkCrc c n r false).checkNow c).afterResult c n
    else
      let s2 := s1.channelResult c n sl r false
      let s3 := match visitOn s2 c with
        | some v =>
          if v.stage = .collect ∧ (slice s2 b n).phase = .run then
            s2.pairCode b v false (satCode (resultCode (chanCfg s c) sl sl.chop r)) r.endUs
          else s2
        | none => s2
      (again s3).afterResult c n

/-- A result of a visiting rover: its channel's while it covers, held from the instant the working slice may deliver; else a code
to pair. -/
def State.roverResult (s : State) (v : Visit) (r : ConvResult) : State :=
  let c := v.channel
  let b := c / 8
  let k := chanCfg s c
  let s1 := s.setSlice b v.rover fun y => { y with phase := .run }
  let sl := slice s1 b v.rover
  let w := slice s b (sliceOr (chan s c))
  if v.stage = .cover then (s1.countUpset c r).coverResult v r
  else if v.stage = .resettle then
    let s2 := (s1.countUpset c r).settleHeld v none
    if w.filterAt + settleUs k w.rate w.chop ≤ r.endUs then s2.putVisit b { v with held := some r } else s2.coverResult v r
  else if v.stage = .collect ∧ goodResult r then s1.pairCode b v true (satCode (resultCode k sl sl.chop r)) r.endUs
  else s1

/-- CONVERSION_RESULT: a result of a slice reaches the core. -/
def execConversionResult (bank slice_ : Nat) (r : ConvResult) (s : State) : Out :=
  .next (
    let p := (slice s bank slice_).phase
    if s.core ≠ .running ∨ 3 < bank ∨ 9 < slice_ then s
    else match servedBy s bank slice_ with
      | some c =>
        match (chan s c).late.filter fun l => l.slice == slice_ && decide (r.endUs ≤ l.atUs) with
        | some l => if (chanCfg s c).mode = 0 then s else s.lateResult c l r
        | none => if (chanCfg s c).mode = 0 ∨ (p ≠ .settle ∧ p ≠ .run) then s else s.workingResult c slice_ r
      | none =>
        match visitBy s bank slice_ with
        | some v => if p ≠ .settle ∧ p ≠ .run then s else s.roverResult v r
        | none => s)

/-! ## Requests and lead times (R293) -/

/-- PULSED_REQUEST. -/
def execPulsedRequest (channel : Nat) (s : State) : Out :=
  .next (
    let k := chanCfg s channel
    let x := chan s channel
    match x.slice with
    | some n =>
      if s.core = .running ∧ k.pulsed ∧ k.mode ≠ 0 ∧ x.requestDue ≤ s.tm.now then
        let s1 := s.setChan channel fun y => { y with requestDue := s.tm.now + k.interval * 1000 }
        if (slice s (channel / 8) n).phase = .idle then s1.setSlice (channel / 8) n fun y => y.toLead k (s.tm.now + k.lead)
        else s1.setChan channel fun y => { y with requestWaits := true }
      else s
    | none => s)

/-- LEAD_TIME_EXPIRY: the filter starts. -/
def execLeadTimeExpiry (bank slice_ : Nat) (s : State) : Out :=
  .next (
    let y := slice s bank slice_
    if s.core = .running ∧ bank < 4 ∧ y.phase = .lead ∧ y.leadEnd ≤ s.tm.now then
      (servedBy s bank slice_).elim s fun c => s.startFilter c slice_
    else s)

/-! ## Wire check (R300 to R302, R364) -/

/-- Interval of a channel's windows in µs: 0 is continuous, as while an open circuit stands (R302). -/
def windowInterval (s : State) (c : Nat) : Nat :=
  if (chan s c).isOpen || (chan s c).excFault then 0 else (chanCfg s c).wireS * 1000000

/-- A window of the channel falls due: the check is enabled, and windows are continuous, one waits, or the series has reached one. -/
def windowIsDue (s : State) (c : Nat) : Bool :=
  let x := chan s c
  (chanCfg s c).wire && (windowInterval s c == 0 || x.windowWaits || decide (x.windowDue ≤ s.tm.now))

/-- The due time after a window: the series keeps its interval whenever each window actually runs (R364). -/
def nextDue (due interval now : Nat) : Nat :=
  if interval = 0 then now else if now < due then due + interval else due + ((now - due) / interval + 1) * interval

/-- Rate of the channel's filter: as it runs, else as it will start. -/
def toneRate (s : State) (c : Nat) : Nat :=
  let y := slice s (c / 8) (sliceOr (chan s c))
  if y.phase = .settle ∨ y.phase = .run then y.rate else effRate s (chanCfg s c)

/-- Begin a window of length D with its tone (R300, R301): one of the series where it is due, or `early` before a transaction
(R364), and a CHAN.CHECK's own where that waits for it. -/
def State.openWindow (s : State) (c : Nat) (early : Bool) : State :=
  let k := chanCfg s c
  let now := s.tm.now
  s.setChan c fun x =>
    { x with inWindow := true, windowWaits := false, windowEnd := now + windowUs k (toneRate s c), toneHz := toneHz k (toneRate s c)
             windowDue := if early ∨ x.windowDue ≤ now then nextDue x.windowDue (k.wireS * 1000000) now else x.windowDue
             check := x.check.map fun q => { q with window := true } }

/-- WIRE_CHECK_WINDOW_START: a window due; on an FSK channel that is busy it waits (R364). A CHAN.CHECK runs one at
once. -/
def execWireCheckWindowStart (channel : Nat) (s : State) : Out :=
  .next (
    let k := chanCfg s channel
    let x := chan s channel
    let asked := match x.check with | some q => q.ohms.isNone && !q.window | none => false
    match x.slice with
    | some n =>
      if s.core = .running ∧ k.mode ≠ 0 ∧ !x.inWindow ∧ (slice s (channel / 8) n).phase ≠ .check
          ∧ (windowIsDue s channel = true ∨ asked = true) then
        let l := loopSt s channel
        let busy := k.fsk && ((match l.trans with | some t => t.sent.isSome | none => false) || decide (s.tm.now < l.carrierEnd))
        if busy then s.setChan channel fun y => { y with windowWaits := true } else s.openWindow channel false
      else s
    | none => s)

/-- WINDOW_PREEMPTION: still busy 500 ms after the due time, the window starts all the same; a response in progress
is discarded and repeated without counting (R364 step 5). -/
def execWindowPreemption (channel : Nat) (s : State) : Out :=
  .next (
    let x := chan s channel
    if s.core = .running ∧ x.windowWaits ∧ x.windowDue + 500000 ≤ s.tm.now then
      (s.openWindow channel false).setLoop channel fun l =>
        { l with preempts := sat16 (l.preempts + 1), trans := l.trans.map fun t => { t with sent := none } }
    else s)

/-- A window's impedance against the open threshold (R301, R302). -/
def State.judgeWindow (s : State) (c ohms : Nat) : State :=
  let k := chanCfg s c
  let x := chan s c
  let n := sliceOr x
  if x.isOpen then
    if ohms * 10 < 8 * k.openKohm * 1000 then
      if 3 ≤ x.wireGood + 1 then
        let s2 := (s.setChan c fun y => { y with isOpen := false, wireGood := 0 }).settleAgain c n
        let s3 := s2.chanEvent 6 (c / 8) c n 0xFF 0 (satI32 ohms) 0
        if k.fsk then s3.readInstruments c else s3
      else s.setChan c fun y => { y with wireGood := y.wireGood + 1 }
    else s.setChan c fun y => { y with wireGood := 0 }
  else if k.openKohm * 1000 < ohms then
    let s1 := (s.setChan c fun y => { y with isOpen := true, wireGood := 0 }).publishBad c qOpen
    (s1.chanEvent 5 (c / 8) c n 0xFF 1 (satI32 ohms) 0).suspendFsk c
  else s

/-- WIRE_CHECK_WINDOW_END with the impedance in Ω. -/
def execWireCheckWindowEnd (channel : Nat) (ohms : Nat) (s : State) : Out :=
  .next (
    if s.core = .running ∧ (chan s channel).inWindow ∧ (chan s channel).windowEnd ≤ s.tm.now then
      let z := if 10000000 < ohms then 0xFFFFFFFF else ohms
      let s1 := s.setChan channel fun x => { x with inWindow := false, toneHz := 0, ohms := z }
      let s2 := if (chanCfg s channel).wire then s1.judgeWindow channel ohms else s1
      s2.noteCheck channel fun q => if q.window then { q with ohms := some (q.ohms.getD z) } else q
    else s)

/-! ## Clamps (R299) -/

/-- CLAMP_CONDUCTION on a terminal 1 to 40 of a bank. -/
def execClampConduction (bank terminal : Nat) (conducting : Bool) (s : State) : Out :=
  .next (
    let i := terminal - 1
    let k := nth (bankSt s bank).clamps i
    let now := s.tm.now
    if (s.core ≠ .running ∧ !s.pw.valid) ∨ 3 < bank ∨ terminal = 0 ∨ 40 < terminal then s
    else if !conducting then
      s.setBank bank fun b => { b with clamps := upd b.clamps i fun x =>
        { x with conducting := false, ended := if x.conducting then now else x.ended } }
    else
      let owner := ((List.range 8).map (8 * bank + ·)).find? fun c => (claimed (chanCfg s c)).contains terminal
      let report := !k.flag && decide (k.cleared + 10000000 ≤ now)
        && (match k.lastEvent with | some t => decide (t + 60000000 ≤ now) | none => true)
      let s1 := s.setBank bank fun b => { b with clamps := upd b.clamps i fun x =>
        { x with conducting := true, flag := true, lastEvent := if report then some now else x.lastEvent } }
      let s2 := match owner with
        | some c => s1.setChan c fun x => { x with clamped := true }
        | none => s1
      if report then s2.chanEvent 8 bank (owner.getD 0xFF) (match owner with | some c => sliceOr (chan s c) | none => 0xFF)
        0xFF terminal 0 0 else s2)

/-- CLAMP_FLAG_TIMEOUT: an unclaimed terminal's flag clears 1 s after conduction ends. -/
def execClampFlagTimeout (bank terminal : Nat) (s : State) : Out :=
  .next (
    let i := terminal - 1
    let k := nth (bankSt s bank).clamps i
    let owned := ((List.range 8).map (8 * bank + ·)).any fun c => (claimed (chanCfg s c)).contains terminal
    if s.core = .running ∧ bank < 4 ∧ 1 ≤ terminal ∧ terminal ≤ 40 ∧ !owned ∧ k.flag ∧ !k.conducting ∧ k.ended + 1000000 ≤ s.tm.now then
      s.setBank bank fun b => { b with clamps := upd b.clamps i fun x => { x with flag := false, cleared := s.tm.now } }
    else s)

/-! ## Housekeeping (R329, R330) -/

/-- A sensor's reading is good: converted and within −40 to +105 °C. -/
def goodReading (t : Option Word) : Bool :=
  match t with
  | some w => F32.le (F32.ofInt (-40)) w && F32.le w (F32.ofInt 105)
  | none => false

def nanOr (t : Option Word) : Int := sint 4 (t.getD 0x7FC00000).toNat

/-- CJ_SENSOR_FAULT and CJ_SENSOR_RESTORED (R337). -/
def State.cjEvent (s : State) (b ev detail : Nat) : State :=
  let x := bankSt s b
  s.chanEvent ev b 0xFF 0xFF 0xFF detail (nanOr x.tA) (nanOr x.tB)

/-- HOUSEKEEPING_READING of a bank, every 100 ms. -/
def execHousekeepingReading (bank : Nat) (tA tB : Option Word) (bankTemp : Word) (supplyMv : Nat) (s : State) : Out :=
  .next (
    if s.core ≠ .running ∨ 3 < bank then s
    else
      let x := bankSt s bank
      let ga := goodReading tA
      let gb := goodReading tB
      let na := if ga then min 10 (x.goodA + 1) else 0
      let nb := if gb then min 10 (x.goodB + 1) else 0
      let fa := if x.failA then decide (na < 10) else !ga
      let fb := if x.failB then decide (nb < 10) else !gb
      let gap := match tA, tB with
        | some a, some b =>
          let d := F32.sub a b
          F32.lt (F32.ofInt 10) (if F32.neg? d then F32.neg d else d)
        | _, _ => false
      let both := !fa && !fb
      let apart := if both && gap then min 10 (x.apart + 1) else 0
      let together := if both && !gap then min 10 (x.together + 1) else 0
      let dis := if x.disagree then !decide (together = 10) else decide (apart = 10)
      let s1 := s.setBank bank fun y =>
        { y with tA := tA.orElse (fun _ => y.tA), tB := tB.orElse (fun _ => y.tB), temp := some bankTemp, supplyMv := some supplyMv
                 readings := ({ atUs := (fabUs s).getD 0, tA := tA.orElse (fun _ => y.tA), tB := tB.orElse (fun _ => y.tB), failA := fa
                                failB := fb, temp := bankTemp } :: y.readings).take 16
                 goodA := na, goodB := nb, failA := fa, failB := fb, apart, together, disagree := dis }
      let s2 := if fa ∧ !x.failA then s1.cjEvent bank 10 1 else if !fa ∧ x.failA then s1.cjEvent bank 11 1 else s1
      let s3 := if fb ∧ !x.failB then s2.cjEvent bank 10 2 else if !fb ∧ x.failB then s2.cjEvent bank 11 2 else s2
      if dis ∧ !x.disagree then s3.cjEvent bank 10 4 else if !dis ∧ x.disagree then s3.cjEvent bank 11 4 else s3)

/-! ## CHAN opcodes (R316 to R320, R336) -/

/-- State byte of CHAN.READ. -/
def chanStateByte (s : State) (c : Nat) : Nat :=
  let x := chan s c
  if (chanCfg s c).mode = 0 then 0
  else if x.retired ≠ 0 then x.retired
  else if x.slice = some (c % 8) then 1 else 2

def chanEntry (s : State) (c : Nat) : Bytes :=
  let x := chan s c
  let fails := match x.slice with | some n => (slice s (c / 8) n).fails | none => 0
  le 1 c ++ le 1 (chanStateByte s c) ++ le 1 (sliceOr x)
    ++ le 1 (flagBits [x.isOpen, x.last.toNat.testBit 28, x.overrange, covered s c, x.settling, x.excFault])
    ++ le 4 x.last.toNat ++ le 4 x.value.toNat ++ le 1 x.quality.toNat ++ le 1 (min 255 fails) ++ le 2 (sat16 x.upsets)
    ++ le 8 x.endUs ++ le 4 x.ohms ++ (match x.roveD with | some d => leInt 4 d | none => leInt 4 (-0x80000000))

/-- CHAN.READ after its status. -/
def chanReadData (s : State) (start n : Nat) : Bytes :=
  zeros 2 ++ le 8 ((fabUs s).getD 0) ++ le 1 n ++ zeros 3 ++ (List.range n).flatMap fun i => chanEntry s (start + i)

/-- Start channel and count of CHAN.READ and LOOP.STATUS. -/
def rangeOk (p : Bytes) : Bool :=
  p.length == 4 && allZero p 2 2 && decide (1 ≤ u8 p 1 ∧ u8 p 1 ≤ 32 ∧ u8 p 0 + u8 p 1 ≤ 32)

def execChanRead (c : Cmd) (s : State) : Out :=
  runOpcode 0x0501 c s fun s =>
    if rangeOk c.payload then { st := s, data := chanReadData s (u8 c.payload 0) (u8 c.payload 1) }
    else refuse s Status.paramRange

/-- Slice state of CHAN.MAP. -/
def sliceCode (s : State) (b k : Nat) : Nat :=
  if (slice s b k).phase = .retired then 5
  else if (servedBy s b k).isSome then 0
  else match visitBy s b k with
    | some v => if v.stage = .cover ∨ v.stage = .resettle then 3 else 2
    | none => if k < 8 then 4 else 1

def mapBank (s : State) (b : Nat) : Bytes :=
  le 1 b ++ zeros 3 ++ bitmap 8 (((bankSt s b).clamps.zipIdx.filter fun p => p.1.flag).map (·.2))
    ++ (List.range 10).flatMap fun k =>
      let y := slice s b k
      let c := match servedBy s b k with
        | some c => c % 8
        | none => match visitBy s b k with | some v => v.channel % 8 | none => 0xFF
      le 1 (sliceCode s b k) ++ le 1 c ++ le 1 (min 255 y.fails) ++ zeros 1 ++ leInt 2 (satI16 y.lastOffset)
        ++ leInt 2 (satI16 y.lastGain) ++ le 2 (sat16 y.failedEver) ++ zeros 2

def execChanMap (c : Cmd) (s : State) : Out :=
  runOpcode 0x0502 c s fun s =>
    let b := u8 c.payload 0
    if c.payload.length ≠ 4 ∨ !allZero c.payload 1 3 ∨ (3 < b ∧ b ≠ 0xFF) then refuse s Status.paramRange
    else
      let bs := if b = 0xFF then [0, 1, 2, 3] else [b]
      { st := s, data := zeros 2 ++ le 1 bs.length ++ zeros 3 ++ bs.flatMap (mapBank s) }

/-- A used channel named by an acting CHAN opcode. -/
def chanNamed (s : State) (p : Bytes) : Bool :=
  p.length == 4 && allZero p 1 3 && decide (u8 p 0 < 32) && decide ((chanCfg s (u8 p 0)).mode ≠ 0)

def execChanRetire (c : Cmd) (s : State) : Out :=
  runOpcode 0x0540 c s fun s =>
    let ch := u8 c.payload 0
    if !chanNamed s c.payload then refuse s Status.paramRange
    else if (chan s ch).retired ≠ 0 then { st := s }
    else { st := s.retireChan ch 4 }

def execChanRestore (c : Cmd) (s : State) : Out :=
  runOpcode 0x0541 c s fun s =>
    let ch := u8 c.payload 0
    let b := ch / 8
    if !chanNamed s c.payload then refuse s Status.paramRange
    else if (chan s ch).retired = 0 then { st := s }
    else
      let k := if sliceFree s b (ch % 8) then some (ch % 8) else (freeSlices s b).head?
      match k with
      | none => refuse s Status.channelRetired
      | some n =>
        let k := chanCfg s ch
        let s1 := ((s.takeRover b n).setChan ch fun x => { x with retired := 0, slice := some n, remap := none }).checkRovers b
        let s2 := ((s1.startSchedules ch).startConversion ch).setChan ch fun x => { x with requestDue := s.tm.now + k.interval * 1000 }
        let s3 := s2.setSlice b n fun y => y.toLead k (s.tm.now + k.lead)
        { st := (s3.readInstruments ch).chanEvent 4 b ch n 0xFF 0 0 0 }

/-- CHAN.CHECK: accepted; the window and the visit follow. Without a rover the visit is not run. -/
def execChanCheck (c : Cmd) (s : State) : Out :=
  runSilent 0x0542 c s fun s =>
    let ch := u8 c.payload 0
    if !chanNamed s c.payload then s.reply c 0x0542 Status.paramRange
    else if (chan s ch).retired ≠ 0 then s.reply c 0x0542 Status.channelRetired
    else if (chan s ch).check.isSome then s.reply c 0x0542 Status.checkBusy
    else
      let s1 := (s.reply c 0x0542 Status.acceptedPending).setChan ch fun x => { x with check := some { cmd := c } }
      if (rovers s (ch / 8)).isEmpty then s1.noVisit ch
      else s1.setBank (ch / 8) fun b => { b with wanted := b.wanted ++ [ch % 8] }

/-- CHAN.CJ after its status (R336). -/
def cjData (s : State) : Bytes :=
  zeros 2 ++ (List.range 4).flatMap fun b =>
    let x := bankSt s b
    let v (t : Option Word) : Bytes := le 4 (t.getD 0x7FC00000).toNat
    v x.tA ++ v x.tB ++ v x.temp ++ le 1 (flagBits [x.failA, x.failB, x.disagree]) ++ zeros 3

def execChanCj (c : Cmd) (s : State) : Out := runPlain 0x0503 c s cjData

end Sys2Proof.Machine
end

