-- ==== Sys2Proof/Machine/Loops.lean ====
section
/-! DEFINITION. Current loops and the FSK modem (chapter 12). -/

namespace Sys2Proof.Machine

/-! ## Setpoints and the current driven (R345, R346, R352, R356, R370) -/

/-- The effective failure direction: high only with the strap open and the setting high (R352). -/
def failureHigh (s : State) (c : Nat) : Bool := (bankSt s (c / 8)).strap == 0 && (chanCfg s c).failHigh

def failureUa (s : State) (c : Nat) : Nat := if failureHigh s c then 22000 else 3400

/-- R345 for a GOOD or UNCERTAIN value: mA. -/
def setpointMa (v low high : Word) : Word :=
  let i := F32.add (F32.ofInt 4) (F32.mul (F32.ofInt 16) (F32.div (F32.sub v low) (F32.sub high low)))
  let lo := F32.ofRat false 38 10
  let hi := F32.ofRat false 205 10
  if F32.lt i lo then lo else if F32.lt hi i then hi else i

/-- The current a channel's driver is asked for: a force of the running core first, then the safe state of an expired hold, then
the failure current, then the bank's latch, which holds the last setpoint sent, forced ones included (R9, R370). -/
def driven (s : State) (c : Nat) : Nat :=
  let k := chanCfg s c
  let l := loopSt s c
  if (chan s c).retired ≠ 0 ∨ !isOutputMode k.mode then 0
  else match l.forced.filter fun _ => s.core == .running with
    | some (ua, _) => ua
    | none =>
      if (bankSt s (c / 8)).expired ∧ k.safe = 1 then failureUa s c
      else if (bankSt s (c / 8)).expired ∧ k.safe = 2 then 0
      else if l.failing then failureUa s c
      else l.latched

/-- Series resistance R_i in Ω (R339). -/
def seriesOhm (k : ChanCfg) : Nat := if k.fsk then 300 else 50

/-- Modes whose slice has an adaptive supply (Table 12-1). -/
def supplied (m : Nat) : Bool := m == 7 || m == 9

/-- Supply target in steps of 0.25 V, rounded up and bounded to 6.00 to 28.00 V (R347), for a terminal voltage in
mV and a current in µA. -/
def supplyTarget (k : ChanCfg) (vtMv ua : Nat) : Nat :=
  max 24 (min 112 (ceilDiv (vtMv * 1000 + ua * seriesOhm k + 1500000) 250000))

/-- Supply setting times measured current of a channel, in nW (R348). -/
def loopNw (s : State) (c : Nat) : Nat :=
  if supplied (chanCfg s c).mode ∧ (chan s c).retired = 0 then (loopSt s c).supply * 250 * (loopSt s c).current.natAbs else 0

/-- A supply of `n` steps on the channel would exceed the bank's allowance. -/
def overAllowance (s : State) (c n : Nat) : Bool :=
  let b := c / 8
  let others := (((List.range 8).map (8 * b + ·)).filter (· != c)).map (loopNw s)
  decide (nth s.age.der.allowance b * 1000000 < others.sum + n * 250 * (loopSt s c).current.natAbs)

/-- Raise a supply, unless refused (R348). -/
def State.raiseSupply (s : State) (c n : Nat) : State :=
  if n ≤ (loopSt s c).supply then s.setLoop c fun l => { l with refused := false }
  else if overAllowance s c n then s.setLoop c fun l => { l with refused := true }
  else s.setLoop c fun l => { l with supply := n, refused := false }

/-- After a change of the current asked for: a rise in mode 0x09 raises the supply in advance, with V_t scaled by
the ratio of the currents (R347). -/
def State.preRaise (s : State) (c before : Nat) : State :=
  let k := chanCfg s c
  let now := driven s c
  if k.mode = 9 ∧ before < now then
    if before < 1000 then s.raiseSupply c 112
    else s.raiseSupply c (max (loopSt s c).supply (supplyTarget k ((loopSt s c).vt * now / before) now))
  else s

/-- The core's setpoint reaches the bank (R345, R356). -/
def State.latchSetpoint (s : State) (c ua : Nat) (failing : Bool) : State :=
  (s.setLoop c fun l => { l with setpoint := ua, latched := ua, failing }).preRaise c (driven s c)

/-- Compute and apply the setpoint of an output channel from its source tag. A value that is not a number has no
stated setpoint: a free value. -/
def State.outputSetpoint (s : State) (c : Nat) : State :=
  let k := chanCfg s c
  let d := desc s k.tag
  let t := tagDyn s k.tag
  if d.type = 0 ∨ isBad t.quality ∨ (s.op = .island ∧ d.node ≠ s.node) then s.latchSetpoint c (loopSt s c).setpoint true
  else
    let i := setpointMa (numeric d.type t.value) k.spanLow k.spanHigh
    if F32.isNan i then
      let (v, s1) := s.takeFree
      s1.latchSetpoint c (3800 + v % 16701) false
    else s.latchSetpoint c (F32.roundScaled i 1000 1).toNat false

/-- Every output channel (R345). -/
def State.outputSetpoints (s : State) : State :=
  (List.range 32).foldl (fun (acc : State) c =>
    if isOutputMode (chanCfg s c).mode ∧ (chan s c).retired = 0 then acc.outputSetpoint c else acc) s

/-! ## Readings, supply tracking, thermal limit and compliance (R347 to R351) -/

/-- Dissipation of a driver in nW at a current and terminal voltage (R349). -/
def dissipation (k : ChanCfg) (supplyMv vtMv ua : Nat) : Nat :=
  let drop : Int := if supplied k.mode then (supplyMv : Int) - vtMv - ua * seriesOhm k / 1000
    else if k.mode = 10 then (vtMv : Int) - ua * seriesOhm k / 1000 else 0
  ua * drop.toNat

/-- Take a slice's live readings. -/
def State.readLoop (s : State) (r : LoopReading) : State :=
  let k := chanCfg s r.channel
  s.setLoop r.channel fun l =>
    { l with current := r.currentUa, vt := r.vtMv, temp := r.tempDeci
             power := dissipation k (l.supply * 250) r.vtMv r.currentUa.natAbs / 1000000 }

/-- Readings of a bank's own loop channels. -/
def ownReadings (s : State) (bank : Nat) (rs : List LoopReading) : List LoopReading :=
  rs.filter fun r => r.channel / 8 == bank && isLoopMode (chanCfg s r.channel).mode && (chan s r.channel).retired == 0

/-- Track one supply. -/
def State.trackSupply (s : State) (r : LoopReading) : State :=
  let c := r.channel
  let k := chanCfg s c
  let s1 := s.readLoop r
  let l := loopSt s1 c
  if !supplied k.mode then s1
  else
    let target := supplyTarget k (if k.mode = 7 then k.termV * 10 else r.vtMv) r.currentUa.natAbs
    if l.supply < target then s1.raiseSupply c target
    else if target + 2 ≤ l.supply ∧ l.lastFall + 100000 ≤ s.tm.now then
      s1.setLoop c fun x => { x with supply := x.supply - 1, lastFall := s.tm.now, refused := false }
    else s1.setLoop c fun x => { x with refused := false }

/-- LOOP_SUPPLY_TRACK: in the bank, with or without the core's clock. -/
def execLoopSupplyTrack (bank : Nat) (readings : List LoopReading) (s : State) : Out :=
  .next (if s.pw.valid ∧ bank < 4 then (ownReadings s bank readings).foldl (fun (acc : State) r => acc.trackSupply r) s else s)

/-- COMPLIANCE or THERMAL set, or both clear, since when (R351). -/
def State.faultTimes (s : State) (c : Nat) : State :=
  s.setLoop c fun l =>
    if l.compliance || l.thermal then { l with badSince := some (l.badSince.getD s.tm.now), goodSince := none }
    else { l with badSince := none, goodSince := some (l.goodSince.getD s.tm.now) }

/-- The check of one channel (R350). -/
def State.compliance (s : State) (r : LoopReading) : State :=
  let c := r.channel
  let k := chanCfg s c
  let s1 := s.readLoop r
  let l := loopSt s1 c
  let limited := l.supply == 112 || l.refused
  let short := decide (r.currentUa + 100 < (driven s c : Int))
  let set := (k.mode == 9 && short && limited) || (k.mode == 10 && short && r.fullyOn)
    || (k.mode == 7 && decide (r.vtMv + 500 < k.termV * 10) && limited)
  (s1.setLoop c fun x => { x with compliance := set }).faultTimes c

/-- LOOP_COMPLIANCE_CHECK. -/
def execLoopComplianceCheck (bank : Nat) (readings : List LoopReading) (s : State) : Out :=
  .next (if s.pw.valid ∧ bank < 4 then (ownReadings s bank readings).foldl (fun (acc : State) r => acc.compliance r) s else s)

/-- Values A and B of LOOP_FAULT: setpoint and measured current, or in mode 0x07 the terminal voltages in mV. -/
def faultValues (s : State) (c : Nat) : Int × Int :=
  let k := chanCfg s c
  let l := loopSt s c
  if k.mode = 7 then (k.termV * 10, l.vt) else (driven s c, l.current)

/-- LOOP_FAULT: 200 ms with COMPLIANCE or THERMAL raises the diagnostic; 1 s clear lowers it (R351). -/
def execLoopFault (channel : Nat) (s : State) : Out :=
  .next (
    let l := loopSt s channel
    let n := sliceOr (chan s channel)
    if s.core ≠ .running ∨ 31 < channel then s
    else if isLoopMode (chanCfg s channel).mode ∧ !l.fault ∧ l.badSince.any (fun t => decide (t + 200000 ≤ s.tm.now)) then
      let detail := if l.compliance then (if l.refused then 2 else 1) else 3
      let s1 := (s.setLoop channel fun x => { x with fault := true, faultDetail := detail }).diagnostic (0x0100 + channel) 1
      s1.chanEvent 12 (channel / 8) channel n 0xFF detail (faultValues s channel).1 (faultValues s channel).2
    else if l.fault ∧ l.goodSince.any (fun t => decide (t + 1000000 ≤ s.tm.now)) then
      let s1 := (s.setLoop channel fun x => { x with fault := false }).diagnostic (0x0100 + channel) 0
      s1.chanEvent 13 (channel / 8) channel n 0xFF l.faultDetail (faultValues s channel).1 (faultValues s channel).2
    else s)

/-- Slice thermal limit in force of a channel, mW. -/
def thermalLimit (s : State) (c : Nat) : Nat :=
  match (chan s c).slice with
  | some n => nth s.age.der.slice (10 * (c / 8) + n)
  | none => 400

/-- Dissipation in nW were the full current driven, with V_t scaled by the ratio of the currents. -/
def fullDissipation (s : State) (r : LoopReading) : Nat :=
  let k := chanCfg s r.channel
  let full := if k.mode = 7 then 25000 else driven s r.channel
  let i := r.currentUa.natAbs
  dissipation k ((loopSt s r.channel).supply * 250) (if i = 0 then r.vtMv else r.vtMv * full / i) full

/-- DRIVER_THERMAL_LIMIT (R349). -/
def execDriverThermalLimit (reading : LoopReading) (s : State) : Out :=
  .next (
    let c := reading.channel
    let k := chanCfg s c
    if !s.pw.valid ∨ 31 < c ∨ !isLoopMode k.mode ∨ (chan s c).retired ≠ 0 then s
    else
      let s1 := s.readLoop reading
      let l := loopSt s1 c
      let limit := thermalLimit s c * 1000000
      let now := s.tm.now
      let beyond := decide (limit < dissipation k (l.supply * 250) reading.vtMv reading.currentUa.natAbs)
      let hot := if beyond then some (l.hotSince.getD now) else none
      let cool := if reading.tempDeci ≤ 1150 then some (l.coolSince.getD now) else none
      let set := decide (1250 ≤ reading.tempDeci) || (match hot with | some t => decide (t + 100000 ≤ now) | none => false)
      let clear := decide (10 * fullDissipation s1 reading ≤ 9 * limit)
        && (match cool with | some t => decide (t + 1000000 ≤ now) | none => false)
      (s1.setLoop c fun x => { x with hotSince := hot, coolSince := cool
                                      thermal := if x.thermal then !clear else set }).faultTimes c)

/-! ## Refresh, hold and strap (R353, R356, R357) -/

/-- The core refreshes its field side: from the node's first evaluated epoch since the core started (R357, R383), through a
re-seed and a state transfer (R346), but not in STOPPING (R474). -/
def refreshing (s : State) : Bool := decide (s.core = .running) && s.repl.fieldOn && decide (s.op ≠ .stopping)

/-- SETPOINT_REFRESH of a bank (R356); a frame that fails its check is discarded (R282). -/
def execSetpointRefresh (bank : Nat) (frame : BitVec 64) (s : State) : Out :=
  .next (
    let b := bankSt s bank
    if 3 < bank ∨ !refreshing s ∨ !frameOk frame then s
    else
      let now := s.tm.now
      let s1 := s.setBank bank fun x => { x with lastFrame := some now, expired := false }
      let s2 := ((List.range 8).map (8 * bank + ·)).foldl (fun (acc : State) c =>
        if isOutputMode (chanCfg s c).mode then
          (acc.setLoop c fun l => { l with latched := l.setpoint }).preRaise c (driven s c)
        else acc) s1
      if b.expired then s2.chanEvent 20 bank 0xFF 0xFF 0xFF 0 (((now - b.lastFrame.getD now) / 1000 : Nat) : Int) 0 else s2)

/-- HOLD_EXPIRED: the outputs take their safe states, in the bank. -/
def execHoldExpired (bank : Nat) (s : State) : Out :=
  .next (
    let h := bankHold s bank
    match (bankSt s bank).lastFrame with
    | some t =>
      if s.pw.valid ∧ bank < 4 ∧ h ≠ 0 ∧ t + h * 1000 ≤ s.tm.now then
        let s1 := s.setBank bank fun x => { x with expired := true }
        ((List.range 8).map (8 * bank + ·)).foldl (fun (acc : State) c => acc.preRaise c (driven s c)) s1
      else s
    | none => s)

/-- NSEL_READ with the strap's resistance to bank common. -/
def execNselRead (bank : Nat) (ohms : Nat) (s : State) : Out :=
  .next (
    if !s.pw.valid ∨ 3 < bank then s
    else
      let b := bankSt s bank
      let r := if ohms < 1000 then 1 else if 100000 < ohms then 0 else 2
      let n := if r = b.strapNew then min 3 (b.strapRun + 1) else 1
      let s1 := s.setBank bank fun x => { x with strapNew := r, strapRun := n }
      if n = 3 ∧ r ≠ b.strap then
        let s2 := s1.setBank bank fun x => { x with strap := r }
        (((List.range 8).map (8 * bank + ·)).foldl (fun (acc : State) c => acc.preRaise c (driven s c)) s2).chanEvent
          19 bank 0xFF 0xFF 0xFF r 0 0
      else s1)

/-! ## HART frames (R359 to R361) -/

/-- The HART data link of the family (log entry 31, PRESUMED): checksum, request and response forms. -/
def longitudinal (b : Bytes) : Byte := b.foldl (· ^^^ ·) 0

/-- Characters of a request on the loop: preamble, delimiter, address, command, count, data and checksum. -/
def requestChars (t : Trans) : Nat := 5 + 1 + (if t.kind = 0 then 1 else 5) + 3 + t.data.length

/-- Time of characters of 11 bits at 1,200 bit/s, in µs. -/
def charsUs (n : Nat) : Nat := ceilDiv (n * 11 * 1000000) 1200

/-- Expected end of a transaction after its start (R364). -/
def expectedUs (t : Trans) : Nat := charsUs (requestChars t + (if t.kind = 2 then 269 else 53)) + 350000

/-- A response taken apart: whether it is long, the address, the command and the bytes after the count. -/
structure HartFrame where
  isLong  : Bool
  primary : Bool
  burst   : Bool
  ack     : Bool
  addr    : Bytes
  command : Nat
  body    : Bytes
  deriving DecidableEq, Repr

/-- Take a received frame apart, its preamble dropped; none where delimiter, length or checksum fail. -/
def HartFrame.parse (bs : Bytes) : Option HartFrame :=
  let b := bs.dropWhile (· == 0xFF)
  let d := u8 b 0
  let isLong := d.testBit 7
  let n := if isLong then 5 else 1
  let count := u8 b (n + 2)
  let kind := d % 128
  if (kind ≠ 6 ∧ kind ≠ 1 ∧ kind ≠ 2) ∨ b.length ≠ n + 4 + count ∨ longitudinal b ≠ 0 then none
  else
    some { isLong, primary := (u8 b 1).testBit 7, burst := kind == 1, ack := kind == 6, addr := (b.drop 1).take n
           command := u8 b (n + 1), body := (b.drop (n + 3)).take count }

/-- The address of a response is the instrument's, the burst bit apart. -/
def HartFrame.isFrom (f : HartFrame) (i : Inst) (kind : Nat) : Bool :=
  if kind = 0 then !f.isLong && u8 f.addr 0 % 64 == i.poll
  else f.isLong && u8 f.addr 0 % 64 == u8 i.long 0 % 64 && f.addr.drop 1 == i.long.drop 1

/-! ## Transactions (R360 to R364, R369) -/

def instAt (s : State) (c slot : Nat) : Inst := ((loopSt s c).insts.find? (·.slot == slot)).getD { slot, poll := 0 }

def State.setInst (s : State) (c slot : Nat) (f : Inst → Inst) : State :=
  s.setLoop c fun l => { l with insts := l.insts.map fun i => if i.slot = slot then f i else i }

/-- FSK can run on the channel; on BOSC it is suspended (R459). -/
def fskUp (s : State) (c : Nat) : Bool :=
  let k := chanCfg s c
  decide (s.core = .running) && decide (s.clk.ref ≠ some .bosc) && decide (c < 32) && isLoopMode k.mode && k.fsk && !(chan s c).isOpen && (chan s c).retired == 0

/-- The instruments of a channel as its region now names them; each is to be read (R360). -/
def State.assignInstruments (s : State) (c : Nat) : State :=
  let k := chanCfg s c
  let is : List Inst := if isLoopMode k.mode && k.fsk then k.insts.map fun i => { slot := i.slot, poll := i.poll, nextRead := s.tm.now } else []
  is.foldl (fun (acc : State) i => acc.instBad c i.slot) (s.setLoop c fun l => { l with insts := is, trans := none, pollTurn := 0 })

/-- HART command and data of a host's command number (R369). -/
def hartCommand (n : Nat) (data : Bytes) : Nat × Bytes :=
  if 253 < n then (31, (le 2 n).reverse ++ data) else (n, data)

/-- After a poll: one waiting LOOP.TRANSACT of the loop (R362). An instrument that is not found has no address to
be called by, and its transaction is answered INSTRUMENT_SILENT. -/
def State.startHost (s : State) (c : Nat) : State :=
  match s.ana.q30.find? (·.channel == c) with
  | none => s
  | some r =>
    let s1 := { s with ana.q30 := s.ana.q30.erase r }
    if (instAt s c r.slot).found then
      let (n, d) := hartCommand r.command r.data
      s1.setLoop c fun l => { l with trans := some { kind := 2, slot := r.slot, command := n, data := d, cmd := some r.cmd } }
    else s1.complete r.cmd 0x0640 Status.instrumentSilent

/-- INSTRUMENT_READ: command 0 at the polling address. -/
def execInstrumentRead (channel slot : Nat) (s : State) : Out :=
  .next (
    let l := loopSt s channel
    let i := instAt s channel slot
    if fskUp s channel ∧ l.trans.isNone ∧ (l.insts.any (·.slot == slot)) ∧ !i.found ∧ i.nextRead ≤ s.tm.now then
      s.setLoop channel fun x => { x with trans := some { kind := 0, slot, command := 0 } }
    else s)

/-- HART_POLL: command 9 to the next found instrument; with none found, a waiting host transaction. -/
def execHartPoll (channel : Nat) (s : State) : Out :=
  .next (
    let l := loopSt s channel
    if fskUp s channel ∧ l.trans.isNone then
      let order := l.insts.drop l.pollTurn ++ l.insts.take l.pollTurn
      match order.find? (·.found) with
      | some i =>
        let at_ := l.insts.findIdx (·.slot == i.slot)
        s.setLoop channel fun x =>
          { x with pollTurn := (at_ + 1) % max 1 l.insts.length
                   trans := some { kind := 1, slot := i.slot, command := 9, data := [246, 247, 248, 249] } }
      | none => s.startHost channel
    else s)

/-- CARRIER_FREE_WAIT: after 50 ms without carrier, outside windows; a window due before the expected end runs
first (R361, R364). -/
def execCarrierFreeWait (channel : Nat) (s : State) : Out :=
  .next (
    let k := chanCfg s channel
    let x := chan s channel
    match (loopSt s channel).trans with
    | some t =>
      if fskUp s channel ∧ x.slice.isSome ∧ t.sent.isNone ∧ !x.inWindow ∧ (loopSt s channel).carrierEnd + 50000 ≤ s.tm.now then
        if k.wire ∧ x.windowDue ≤ s.tm.now + expectedUs t then s.openWindow channel true
        else s.setLoop channel fun l => { l with trans := some { t with sent := some (s.tm.now + charsUs (requestChars t)) } }
      else s
    | none => s)

/-- A transaction is over: a poll is followed by a host transaction. -/
def State.endTrans (s : State) (c kind : Nat) : State :=
  let s1 := s.setLoop c fun l => { l with trans := none }
  if kind = 1 then s1.startHost c else s1

/-- The last attempt failed. -/
def State.giveUp (s : State) (c : Nat) (t : Trans) : State :=
  let i := instAt s c t.slot
  match t.kind with
  | 0 => (s.setInst c t.slot fun i => { i with nextRead := s.tm.now + 10000000 }).endTrans c 0
  | 1 =>
    let s1 := s.setInst c t.slot fun i => { i with found := false, silent := true, nextRead := s.tm.now + 10000000 }
    let s2 := (s1.instBad c t.slot).chanEvent 16 (c / 8) c (sliceOr (chan s c)) 0xFF t.slot i.poll 0
    s2.endTrans c 1
  | _ =>
    let s1 := match t.cmd with
      | some d => s.complete d 0x0640 Status.instrumentSilent
      | none => s
    s1.endTrans c 2

/-- A failed attempt: repeated at once, three in all (R361). -/
def State.failAttempt (s : State) (c : Nat) (t : Trans) : State :=
  let s1 := s.setLoop c fun l => { l with failed := sat16 (l.failed + 1) }
  if 3 ≤ t.attempts + 1 then s1.giveUp c t
  else s1.setLoop c fun l => { l with trans := some { t with attempts := t.attempts + 1, sent := none } }

/-- Quality and value of variable `i` in a command 9 response (R363). -/
def variableOf (old : Word) (data : Bytes) (i : Nat) : BitVec 8 × Word :=
  let e := 1 + 8 * i
  if data.length < e + 8 then (qConversion, old)
  else
    let v := BitVec.ofNat 32 (leNat (sub data (e + 3) 4).reverse)
    let status := u8 data (e + 7) / 64
    if status = 0 ∨ !F32.finite v then (qConversion, old)
    else (if status = 3 then qGood else qInstrument, v)

/-- Take the variables of a poll; each is published when its value or quality changes. -/
def State.takeVariables (s : State) (c slot : Nat) (data : Bytes) : State :=
  let i := instAt s c slot
  let vs : List (BitVec 8 × Word) := (List.range 4).map fun j => variableOf (nth i.vars j).2 data j
  (List.range 4).foldl (fun (acc : State) j =>
    if nth vs j ≠ nth i.vars j then acc.publishVar slot j (nth vs j).1 (nth vs j).2 else acc)
    (s.setInst c slot fun x => { x with vars := vs })

/-- The identity of a command 0 response: expanded device type, device ID and long address. -/
def identityOf (data : Bytes) : Nat × Nat × Bytes :=
  let ty := leNat (sub data 1 2).reverse
  (ty, leNat (sub data 9 3).reverse, le 1 (ty / 256 % 64) ++ le 1 ty ++ sub data 9 3)

/-- A valid response (R360, R362, R369). -/
def State.takeResponse (s : State) (c : Nat) (t : Trans) (f : HartFrame) : State :=
  let data := f.body.drop 2
  let n := sliceOr (chan s c)
  let s0 := s.setLoop c fun l => { l with done := sat16 (l.done + 1) }
  match t.kind with
  | 0 =>
    let i := instAt s c t.slot
    let (ty, id, long) := identityOf data
    let changed := i.known && (i.devType != ty || i.devId != id)
    let s1 := s0.setInst c t.slot fun x =>
      { x with found := true, silent := false, known := true, devType := ty, devId := id, long }
    let s2 := s1.chanEvent 17 (c / 8) c n 0xFF t.slot ty id
    (if changed then s2.chanEvent 18 (c / 8) c n 0xFF t.slot ty id else s2).endTrans c 0
  | 1 => (s0.takeVariables c t.slot data).endTrans c 1
  | _ =>
    let number := if t.command = 31 ∧ t.cmd.any (fun d => decide (253 < u16 d.payload 0)) then
      leNat (sub t.data 0 2).reverse else t.command
    let s1 := match t.cmd with
      | some d => s0.complete d 0x0640 Status.ok
          (sub f.body 0 2 ++ le 2 number ++ le 1 (t.attempts + 1) ++ le 1 data.length ++ data)
      | none => s0
    s1.endTrans c 2

/-- HART_RESPONSE_RECEIVED: a frame on the loop, its preamble included or not. Burst frames are discarded and
counted; traffic that is no response to the primary master is ignored. -/
def execHartResponseReceived (channel : Nat) (bytes : Bytes) (parityOk : Bool) (s : State) : Out :=
  .next (
    if !fskUp s channel ∨ (chan s channel).inWindow then s
    else
      let s1 := s.setLoop channel fun l => { l with carrierEnd := s.tm.now }
      let waiting := (loopSt s channel).trans.filter fun t => t.sent.isSome
      match HartFrame.parse bytes, waiting with
      | some f, some t =>
        if f.burst then s1.setLoop channel fun l => { l with bursts := l.bursts + 1 }
        else if !f.ack || !f.primary then s1
        else if parityOk && f.isFrom (instAt s channel t.slot) t.kind && decide (2 ≤ f.body.length) && !(u8 f.body 0).testBit 7 then
          s1.takeResponse channel t f
        else s1.failAttempt channel t
      | some f, none => if f.burst then s1.setLoop channel fun l => { l with bursts := l.bursts + 1 } else s1
      | none, some t => s1.failAttempt channel t
      | none, none => s1)

/-- HART_RESPONSE_TIMEOUT: 350 ms after the request's last character. -/
def execHartResponseTimeout (channel : Nat) (s : State) : Out :=
  .next (
    match (loopSt s channel).trans with
    | some t =>
      if fskUp s channel ∧ t.sent.any (fun e => decide (e + 350000 ≤ s.tm.now)) then s.failAttempt channel t
      else s
    | none => s)

/-! ## LOOP opcodes (R367 to R370) -/

def loopEntry (s : State) (c : Nat) : Bytes :=
  let k := chanCfg s c
  let l := loopSt s c
  let b := bankSt s (c / 8)
  if !isLoopMode k.mode then le 1 c ++ le 1 k.mode ++ zeros 30
  else
    let on := supplied k.mode && (chan s c).retired == 0
    let failing := isOutputMode k.mode && (chan s c).retired == 0 && l.forced.isNone
      && (if b.expired && k.safe != 0 then k.safe == 1 else l.failing)
    let held := isOutputMode k.mode && (match b.lastFrame with | some t => decide (t + 10000 < s.tm.now) | none => false)
    le 1 c ++ le 1 k.mode
      ++ le 1 (flagBits [l.compliance, l.thermal, l.fault, l.forced.isSome, held, failing, k.fsk && ((chan s c).isOpen || decide (s.clk.ref = some .bosc))])
      ++ le 1 (if failureHigh s c then 1 else 0) ++ le 4 (driven s c) ++ leInt 4 (satI32 l.current)
      ++ le 2 (if on then l.supply * 25 else 0) ++ le 2 (sat16 (l.vt / 10)) ++ le 2 (sat16 l.power) ++ leInt 2 (satI16 l.temp)
      ++ le 2 (thermalLimit s c) ++ zeros 2 ++ le 2 l.done ++ le 2 l.failed ++ le 2 l.preempts ++ zeros 2

/-- LOOP.STATUS after its status (Table 12-5). -/
def loopStatusData (s : State) (start n : Nat) : Bytes :=
  zeros 2 ++ le 8 ((fabUs s).getD 0) ++ le 1 n ++ zeros 3 ++ (s.age.der.allowance.flatMap (le 2 ·))
    ++ (s.ana.banks.flatMap fun b => le 1 b.strap) ++ zeros 4 ++ (List.range n).flatMap fun i => loopEntry s (start + i)

def execLoopStatus (c : Cmd) (s : State) : Out :=
  runOpcode 0x0601 c s fun s =>
    if rangeOk c.payload then { st := s, data := loopStatusData s (u8 c.payload 0) (u8 c.payload 1) }
    else refuse s Status.paramRange

/-- LOOP.TRANSACT, the one opcode with an instrument target (R66). -/
def execLoopTransact (c : Cmd) (s : State) : Out :=
  .next (
    let p := c.payload
    let n := u16 p 0
    let len := u8 p 2
    if s.core ≠ .running then s
    else match slotChannel s c.slot with
      | none => s.reply c 0x0640 Status.paramRange
      | some (ch, _) =>
        if c.slot = 0 ∨ p.length ≠ 4 + len ∨ (if 253 < n then 251 else 253) < len ∨ !allZero p 3 1 then
          s.reply c 0x0640 Status.paramRange
        else if !fskUp s ch then s.reply c 0x0640 Status.loopUnavailable
        else if 256 ≤ s.ana.q30.length then (s.reply c 0x0640 Status.queueFull).ringDrop 30
        else
          let r : LoopReq := { cmd := c, channel := ch, slot := c.slot, command := n, data := p.drop 4 }
          ({ s with ana.q30 := s.ana.q30 ++ [r] }.ringUsed 30 (s.ana.q30.length + 1)).reply c 0x0640 Status.acceptedPending)

/-- LOOP.FORCE: start or release. -/
def loopForce (c : Cmd) (release : Bool) (s : State) : Answer :=
  let p := c.payload
  let ch := u8 p 0
  let d := u16 p 2
  let ua := u32 p 4
  if p.length ≠ 8 ∨ 31 < ch ∨ !allZero p 1 1 ∨ d < 10 ∨ 3600 < d ∨ (ua = 0xFFFFFFFF) ≠ (release = true)
      ∨ (24000 < ua ∧ ua ≠ 0xFFFFFFFF) ∨ !isOutputMode (chanCfg s ch).mode then refuse s Status.paramRange
  else if (chan s ch).retired ≠ 0 then refuse s Status.channelRetired
  else if release then { st := (s.endLoopForce ch 2).preRaise ch (driven s ch) }
  else
    let s1 := s.endLoopForce ch 4
    { st := ((s1.setLoop ch fun l => { l with forced := some (ua, s.tm.now + d * 1000000) }).preRaise ch (driven s ch)).forceEvent ch 1 ua }

def execLoopForce (c : Cmd) (s : State) : Out := runOpcode 0x0641 c s (loopForce c false)
def execLoopForceRelease (c : Cmd) (s : State) : Out := runOpcode 0x0641 c s (loopForce c true)

/-- LOOP_FORCE_EXPIRY. -/
def execLoopForceExpiry (channel : Nat) (s : State) : Out :=
  .next (match (loopSt s channel).forced with
    | some (_, e) => if s.core = .running ∧ e ≤ s.tm.now then (s.endLoopForce channel 3).preRaise channel (driven s channel) else s
    | none => s)

end Sys2Proof.Machine
end

