-- ==== Sys2Proof/Machine/Dio.lean ====
section
/-! DEFINITION. Digital inputs and outputs (chapter 13). Channels are numbered 1 to 48 (R372). -/

namespace Sys2Proof.Machine

/-! ## Access (R372) -/

def cell (s : State) (n : Nat) : Cell := nth s.dio.cells (n - 1)
def State.setCell (s : State) (n : Nat) (f : Cell → Cell) : State :=
  { s with dio.cells := upd s.dio.cells (n - 1) f }

/-- Index of a channel's supply: 0 FS1, 1 FS2. -/
def fsIndex (n : Nat) : Nat := if n ≤ 24 then 0 else 1
def fsOf (s : State) (n : Nat) : FieldSupply := nth s.dio.fs (fsIndex n)

/-- DIO_EVENT with its record (R398). -/
def State.dioEvent (s : State) (ev ch supply detail : Nat) (a b : Int) : State :=
  s.logEvent (0x0220 + ev) 0xC041 (le 1 ev ++ le 1 ch ++ le 1 supply ++ le 1 detail ++ zeros 4 ++ leInt 4 a ++ leInt 4 b)

/-- An event of a channel. -/
def State.cellEvent (s : State) (ev n detail : Nat) (a : Int := 0) (b : Int := 0) : State :=
  s.dioEvent ev n (fsIndex n + 1) detail a b

/-! ## Inputs (R376 to R378) -/

def filterStep (high : Bool) (n c : Nat) : Nat := if high then min (c + 1) n else c - 1

/-- Value of a channel's tags. -/
def dioValue (s : State) (n : Nat) : Bool :=
  let k := dioCfg s n
  if k.mode = 1 then (cell s n).state != k.invert else (cell s n).state

/-- Quality of a channel's tags. -/
def dioQuality (s : State) (n : Nat) : BitVec 8 :=
  let k := dioCfg s n
  let f := (fsOf s n).state
  if k.mode = 0 then qChannel
  else if f = 3 ∨ (1 ≤ k.threshold ∧ 2 ≤ f) ∨ (k.threshold = 2 ∧ 1 ≤ f) then qFieldSupply
  else qGood

/-- Publish a channel: its value with GOOD, else the quality with the value unchanged. -/
def State.publishDio (s : State) (n : Nat) : State :=
  let q := dioQuality s n
  let s1 := s.setCell n fun c => { c with quality := q }
  if q = qGood then s1.publishSource 2 n q (if dioValue s n then 1 else 0)
  else
    ((ownedTags s).filter fun t => (desc s t).srcKind == 2 && (desc s t).srcRef == n).foldl
      (fun (acc : State) t => acc.publishHeld t q) s1

/-- Tags that name no channel in use: BAD_CHANNEL. -/
def State.publishNoDio (s : State) : State :=
  ((ownedTags s).filter fun t => (desc s t).srcKind == 2 &&
      (!isDio (desc s t).srcRef || (dioCfg s (desc s t).srcRef).mode == 0)).foldl
    (fun (acc : State) t => acc.publishHeld t qChannel) s

/-! ## What drives an output (R382 to R393) -/

/-- The state a cell is commanded to: a force of the running core, else its latch, which holds the last state sent, forced ones
included (R9, R396). -/
def commanded (s : State) (n : Nat) : Bool :=
  match (cell s n).forced.filter fun _ => s.core == .running with
  | some (b, _) => b
  | none => (cell s n).latch

/-- The switch is on. -/
def driverOn (s : State) (n : Nat) : Bool :=
  let c := cell s n
  commanded s n && (dioCfg s n).mode == 2 && c.framed && !c.retired && !(c.overload && c.retryAt.isSome)
    && c.turnAt.isNone && (fsOf s n).state != 3

/-- Fault value (Table 13-4), the first that applies. -/
def faultValue (c : Cell) : Nat :=
  if c.retired then 2 else if c.overload then 1 else if c.stuck then 5 else if c.cross then 4
  else if c.backfeed then 3 else if c.openLoad then 6 else 0

/-- Show the fault value in the channel's diagnostic (R389). -/
def State.showFault (s : State) (n : Nat) : State :=
  let v := faultValue (cell s n)
  if v = (cell s n).shown then s else (s.setCell n fun c => { c with shown := v }).diagnostic (0x0200 + n) v

/-- Account for a change of what the cell is commanded to: faults that the edge clears, and the retry's instant
(Table 13-4, R391). -/
def State.dioEdge (s : State) (n : Nat) (was : Bool) : State :=
  let on := commanded s n
  let c := cell s n
  let now := s.tm.now
  if was = on then s
  else if on then
    let s1 := s.setCell n fun x => { x with edgeAt := now, onAt := now, backfeed := false, passes := 0 }
    (if c.backfeed then s1.cellEvent 7 n 0 else s1).showFault n
  else
    let s1 := s.setCell n fun x =>
      { x with edgeAt := now, stuck := false, cross := false, openLoad := false, passes := 0
               retryAt := if x.overload && x.retryAt.isNone then some (x.lastTry + 1000000) else x.retryAt }
    let s2 := if c.cross then s1.cellEvent 9 n 0 else s1
    let s3 := if c.stuck then s2.cellEvent 11 n 0 else s2
    (if c.openLoad then s3.cellEvent 13 n 0 c.ma else s3).showFault n

/-- A good frame reaches the cell (R382, R383). -/
def State.couplerFrame (s : State) (n : Nat) : State :=
  let c := cell s n
  let now := s.tm.now
  let was := commanded s n
  let s1 := s.setCell n fun x => { x with latch := x.command, framed := true, lastFrame := some now, expired := false }
  (if c.expired then s1.cellEvent 14 n 1 (((now - c.lastFrame.getD now) / 1000 : Nat) : Int) else s1).dioEdge n was

/-- A new command of the core, sent at a change. -/
def State.setCommand (s : State) (n : Nat) (on : Bool) : State :=
  let s1 := s.setCell n fun c => { c with command := on }
  if (cell s n).command ≠ on ∧ refreshing s then s1.couplerFrame n else s1

/-! ## Commands from the evaluated picture (R379, R380) -/

/-- States and priorities of a group's conditions over the tags given. -/
def groupStates (s : State) (tags : List Nat) (g : Nat) : List (AlarmState × Nat) :=
  (tags.filter fun t => (desc s t).group == g).flatMap fun t =>
    let d := desc s t
    let x := tagDyn s t
    ((List.range 8).filter fun i => (nth d.conds i).kind != 0).map fun i => ((nth x.conds i).state, (nth d.conds i).priority)

/-- The command of Table 13-2. -/
def dioCommand (s : State) (k : DioCfg) : Bool :=
  let island := decide (s.op = .island)
  let d := desc s k.source
  let x := tagDyn s k.source
  if k.kind = 1 then
    if (island && d.node != s.node) || (d.type != 2 && d.type != 3) || isBad x.quality then k.safe
    else k.mask.testBit x.value.toNat
  else if k.kind = 2 then
    if island && d.node != s.node then k.safe
    else if (nth d.conds k.slot).kind = 0 then k.mask.testBit 0
    else k.mask.testBit (nth x.conds k.slot).state.code
  else
    let l := groupStates s (if island then ownedTags s else usedTags s) k.source
    let code := groupCode (l.map (·.1))
    k.mask.testBit code && (code == 0 || k.slot.testBit (groupPriority l))

/-- Every output of kinds 1 to 3 takes its command. -/
def State.dioCommands (s : State) : State :=
  (List.range 48).foldl (fun (acc : State) i =>
    let k := dioCfg acc (i + 1)
    if k.mode = 2 ∧ 1 ≤ k.kind ∧ k.kind ≤ 3 then acc.setCommand (i + 1) (dioCommand acc k) else acc) s

/-! ## Samples and frames -/

/-- Instant of the off-pulse clock in µs: fabric time, or the node's own timebase in ISLAND (R393). -/
def pulseClock (s : State) : Nat := if s.op = .island then s.tm.now else (fabUs s).getD s.tm.now

/-- An off-pulse may run on the channel (R388, R393). -/
def pulseRuns (s : State) (n : Nat) : Bool :=
  let f := fsOf s n
  (dioCfg s n).pulse && driverOn s n && decide ((cell s n).onAt + 1000000 ≤ s.tm.now) && decide (f.state ≤ 1)
    && f.restoredAt.all fun t => decide (t + 46000 < s.tm.now)

/-- Where the off-pulse clock stands in a channel's 10 s, in µs from its pulse's beginning (R393). -/
def pulsePhase (s : State) (n : Nat) : Nat := (pulseClock s + 10000000 - (n - 1) * 200000) % 10000000

/-- Samples of a pulse and of the 100 µs after it are not counted (R384). -/
def blanked (s : State) (n : Nat) : Bool :=
  pulseRuns s n && decide (pulsePhase s n < 200)

/-- DIO_FILTER_COUNT: one sample of a channel. A change of the filtered state is written to the tags (R378), and so is the first
sample the core takes after its start, as the source's first result (log entry 100, DEDUCED). -/
def execDioFilterCount (channel : Nat) (high : Bool) (s : State) : Out :=
  .next (
    let k := dioCfg s channel
    let c := cell s channel
    if !isDio channel ∨ k.mode = 0 ∨ blanked s channel then s
    else
      let n := filterStep high k.n c.count
      let st := if n = k.n then true else if n = 0 then false else c.state
      let s1 := s.setCell channel fun x => { x with count := n, sample := high, state := st }
      let s2 := if st = c.state then s1
        else s1.setCell channel fun x => { x with edges := sat16 (x.edges + 1), edgeUs := (fabUs s).getD 0 }
      if s.core = .running ∧ (st ≠ c.state ∧ dioQuality s channel = qGood ∨ freshTag s 2 channel) then s2.publishDio channel else s2)

/-- COUPLER_REFRESH: every 10 ms (R382); a frame that fails its check is ignored. -/
def execCouplerRefresh (channel : Nat) (frame : BitVec 64) (s : State) : Out :=
  .next (
    if isDio channel ∧ (dioCfg s channel).mode = 2 ∧ refreshing s ∧ frameOk frame then s.couplerFrame channel else s)

/-- DIO_HOLD_EXPIRED: the latch takes the safe state. -/
def execDioHoldExpired (channel : Nat) (s : State) : Out :=
  .next (
    let k := dioCfg s channel
    match (cell s channel).lastFrame with
    | some t =>
      if isDio channel ∧ k.mode = 2 ∧ k.hold ≠ 0 ∧ !(cell s channel).expired ∧ t + k.hold * 1000 ≤ s.tm.now then
        (s.setCell channel fun c => { c with latch := k.safe, expired := true }).dioEdge channel (commanded s channel)
      else s
    | none => s)

/-- HOST_LEASE_EXPIRY (R381). -/
def execHostLeaseExpiry (channel : Nat) (s : State) : Out :=
  .next (
    let k := dioCfg s channel
    match (cell s channel).lease with
    | some e =>
      if s.core = .running ∧ isDio channel ∧ k.mode = 2 ∧ k.kind = 4 ∧ e ≤ s.tm.now then
        ((s.setCell channel fun c => { c with lease := none }).setCommand channel k.safe).cellEvent 14 channel 2
          ((k.lease * 1000 + (s.tm.now - e) / 1000 : Nat) : Int)
      else s
    | none => s)

/-! ## Field supply (R385 to R389) -/

/-- State a voltage gives. -/
def fsBand (mv : Nat) : Nat := if 19200 ≤ mv then 0 else if 16000 ≤ mv then 1 else if 12000 ≤ mv then 2 else 3

/-- The channels of a supply. -/
def fsChannels (i : Nat) : List Nat := (List.range 24).map (24 * i + 1 + ·)

/-- Publish the channels of a supply whose quality has changed. -/
def State.fsQualities (s : State) (i : Nat) : State :=
  if s.core = .running then
    (fsChannels i).foldl (fun (acc : State) n =>
      if (dioCfg acc n).mode ≠ 0 ∧ dioQuality acc n ≠ (cell acc n).quality then acc.publishDio n else acc) s
  else s

/-- Change a supply's state. -/
def State.setFs (s : State) (i new mv : Nat) : State :=
  let old := (nth s.dio.fs i).state
  let s1 := { s with dio.fs := upd s.dio.fs i fun f => { f with state := new, mv } }
  if old = new then s1
  else ((s1.dioEvent 1 0 (i + 1) new mv old).diagnostic (0x0240 + i) new).fsQualities i

/-- FS_STATE: supply 1 or 2 has held a voltage long enough; OFF is entered and left by FS_OFF and FS_RESTORE. -/
def execFsState (supply mv : Nat) (s : State) : Out :=
  if 36000 < mv then .fault .absoluteMaximum
  else .next (
    let i := supply - 1
    let old := (nth s.dio.fs i).state
    if supply = 0 ∨ 2 < supply ∨ old = 3 ∨ fsBand mv = 3 then s else s.setFs i (fsBand mv) mv)

/-- FS_OFF: switches off, latch, counter, retry state and hold timer kept. -/
def execFsOff (supply : Nat) (mv : Nat) (s : State) : Out :=
  .next (
    let i := supply - 1
    if supply = 0 ∨ 2 < supply ∨ 12000 ≤ mv ∨ (nth s.dio.fs i).state = 3 then s
    else ({ s with dio.fs := upd s.dio.fs i fun f => { f with offAt := s.tm.now } }).setFs i 3 mv)

/-- FS_RESTORE: the restoration instant; channels take turns and retries go on from where they stood. -/
def execFsRestore (supply : Nat) (mv : Nat) (s : State) : Out :=
  if 36000 < mv then .fault .absoluteMaximum
  else .next (
    let i := supply - 1
    let f : FieldSupply := nth s.dio.fs i
    if supply = 0 ∨ 2 < supply ∨ mv ≤ 17000 ∨ f.state ≠ 3 then s
    else
      let now := s.tm.now
      let s1 := { s with dio.fs := upd s.dio.fs i fun f => { f with restoredAt := some now } }
      let s2 := (fsChannels i).foldl (fun (acc : State) n =>
        if (dioCfg acc n).mode = 2 then
          acc.setCell n fun c => { c with turnAt := some (now + 2000 * ((n - 1) % 24))
                                          retryAt := c.retryAt.map fun t => t + (now - f.offAt)
                                          lastTry := if c.overload then c.lastTry + (now - f.offAt) else c.lastTry }
        else acc) s1
      s2.setFs i (fsBand mv) mv)

/-- FS_CHANNEL_RESUME: a channel's turn (R386). -/
def execFsChannelResume (channel : Nat) (s : State) : Out :=
  .next (match (cell s channel).turnAt with
    | some t =>
      if isDio channel ∧ t ≤ s.tm.now ∧ (fsOf s channel).state ≠ 3 then
        s.setCell channel fun c => { c with turnAt := none, edgeAt := s.tm.now }
      else s
    | none => s)

/-- CELL_RESET: below 8.0 V (R387). -/
def execCellReset (channel : Nat) (s : State) : Out :=
  .next (
    if !isDio channel ∨ (dioCfg s channel).mode = 0 then s
    else
      let c := cell s channel
      let s1 := s.setCell channel fun x =>
        { x with latch := false, framed := false, lastFrame := none, expired := false, count := 0, state := false
                 retired := false, overload := false, stuck := false, cross := false, backfeed := false, openLoad := false
                 attempts := 0, retryAt := none, passes := 0 }
      (if c.retired then s1.cellEvent 5 channel 3 else s1).showFault channel)

/-! ## Output faults (R390 to R393) -/

/-- An output is retired: its force ends with it (R396). -/
def State.endDioForce (s : State) (n detail : Nat) : State :=
  match (cell s n).forced with
  | some (b, _, d) =>
    ((s.setCell n fun c => { c with forced := none }).cellEvent 15 n detail d (if b then 1 else 0)).dioEdge n b
  | none => s

/-- OUTPUT_OVERLOAD: current-limited for 20 ms, or thermal shutdown. The fourth overload is the failed third retry,
which retires the output. -/
def execOutputOverload (channel ma : Nat) (thermal : Bool) (s : State) : Out :=
  .next (
    let c := cell s channel
    let now := s.tm.now
    if !isDio channel ∨ !driverOn s channel then s
    else
      let a := c.attempts + 1
      let s1 := s.setCell channel fun x =>
        { x with overload := true, attempts := a, lastTry := now, retryAt := some (now + 1000000), ma }
      let s2 := s1.cellEvent 2 channel a ma (if thermal then 1 else 0)
      if 4 ≤ a then
        let s3 := s2.setCell channel fun x => { x with retired := true, overload := false, retryAt := none }
        ((s3.cellEvent 4 channel 0 a).endDioForce channel 4).showFault channel
      else s2.showFault channel)

/-- OVERLOAD_RETRY: the retry that is due, or the end of 1 s of a retry without overload. -/
def execOverloadRetry (channel : Nat) (s : State) : Out :=
  .next (
    let c := cell s channel
    let now := s.tm.now
    if !isDio channel ∨ !c.overload ∨ !commanded s channel ∨ c.turnAt.isSome ∨ (fsOf s channel).state = 3 then s
    else match c.retryAt with
      | some t =>
        if t ≤ now then s.setCell channel fun x => { x with retryAt := none, lastTry := now } else s
      | none =>
        if c.lastTry + 1000000 ≤ now then
          ((s.setCell channel fun x => { x with overload := false, attempts := 0 }).cellEvent 3 channel c.attempts).showFault channel
        else s)

/-- Set or clear a fault of a channel with its two events. -/
def State.setFault (s : State) (n ev : Nat) (was now : Bool) (f : Cell → Cell) (a b : Int) : State :=
  if was = now then s
  else ((s.setCell n f).cellEvent (if now then ev else ev + 1) n 0 (if now then a else b)).showFault n

/-- Timers of the fault checks run: the supply is not OFF and the time since the edge or turn has passed. -/
def faultTimers (s : State) (n us : Nat) : Bool :=
  isDio n && (dioCfg s n).mode == 2 && (fsOf s n).state != 3 && decide ((cell s n).edgeAt + us ≤ s.tm.now)

/-- STUCK_OFF: commanded on, driver on and reading low for 5 ms; or reading high again for 100 ms. -/
def execStuckOff (channel ma : Nat) (present : Bool) (s : State) : Out :=
  .next (
    let c := cell s channel
    if (present ∧ faultTimers s channel 5000 ∧ driverOn s channel) ∨ (!present ∧ faultTimers s channel 0) then
      (s.setCell channel fun x => { x with ma }).setFault channel 10 c.stuck present (fun x => { x with stuck := present }) ma 0
    else s)

/-- BACKFEED: commanded off and reading high for 5 ms; or low again for 100 ms. -/
def execBackfeed (channel mv : Nat) (present : Bool) (s : State) : Out :=
  if 36000 < mv then .fault .absoluteMaximum
  else .next (
    if (present ∧ faultTimers s channel 5000 ∧ !commanded s channel) ∨ (!present ∧ faultTimers s channel 0) then
      s.setFault channel 6 (cell s channel).backfeed present (fun x => { x with backfeed := present }) mv 0
    else s)

/-- OPEN_LOAD: with the check set, on and below 5 mA for 1 s; or 10 mA and above for 1 s. -/
def execOpenLoad (channel ma : Nat) (present : Bool) (s : State) : Out :=
  .next (
    let ok := (dioCfg s channel).openCheck && driverOn s channel && faultTimers s channel 1000000
    if ok ∧ ((present ∧ ma < 5) ∨ (!present ∧ 10 ≤ ma)) then
      (s.setCell channel fun x => { x with ma }).setFault channel 12 (cell s channel).openLoad present
        (fun x => { x with openLoad := present }) ma ma
    else s)

/-- OFF_PULSE with the terminal's sample 90 µs into it. -/
def execOffPulse (channel mv : Nat) (s : State) : Out :=
  if 36000 < mv then .fault .absoluteMaximum
  else .next (
    let c := cell s channel
    if !isDio channel ∨ !pulseRuns s channel ∨ 100 < pulsePhase s channel then s
    else if mv < 5000 then
      let n := c.passes + 1
      let s1 := s.setCell channel fun x => { x with pulsesGood := sat16 (x.pulsesGood + 1), passes := min 3 n }
      if c.cross ∧ 3 ≤ n then ((s1.setCell channel fun x => { x with cross := false }).cellEvent 9 channel 0).showFault channel
      else s1
    else
      let s1 := s.setCell channel fun x => { x with pulsesBad := sat16 (x.pulsesBad + 1), passes := 0, cross := true }
      (s1.cellEvent 8 channel 0 mv).showFault channel)

/-- DIO_FORCE_EXPIRY. -/
def execDioForceExpiry (channel : Nat) (s : State) : Out :=
  .next (match (cell s channel).forced with
    | some (_, e, _) => if s.core = .running ∧ isDio channel ∧ e ≤ s.tm.now then s.endDioForce channel 3 else s
    | none => s)

/-! ## DIO opcodes (R394 to R397) -/

def dioEntry (s : State) (n : Nat) : Bytes :=
  let k := dioCfg s n
  let c := cell s n
  let held := k.mode == 2 && c.lastFrame.any fun t => decide (t + 10000 < s.tm.now)
  le 1 n ++ le 1 k.mode
    ++ le 1 (flagBits [c.state, c.sample, commanded s n, driverOn s n, c.forced.isSome, held, c.lease.isSome])
    ++ le 1 (faultValue c) ++ le 2 c.count ++ le 1 c.quality.toNat ++ le 1 c.attempts ++ le 2 (sat16 c.ma) ++ le 2 c.edges
    ++ le 8 c.edgeUs ++ le 2 c.pulsesGood ++ le 2 c.pulsesBad

/-- DIO.READ after its status (Table 13-6). -/
def dioReadData (s : State) (start n : Nat) : Bytes :=
  let f (i : Nat) : FieldSupply := nth s.dio.fs i
  zeros 2 ++ le 8 ((fabUs s).getD 0) ++ le 1 (f 0).state ++ le 1 (f 1).state ++ le 2 (sat16 ((f 0).mv / 10))
    ++ le 2 (sat16 ((f 1).mv / 10)) ++ le 1 n ++ zeros 1 ++ (List.range n).flatMap fun i => dioEntry s (start + i)

def execDioRead (c : Cmd) (s : State) : Out :=
  runOpcode 0x0701 c s fun s =>
    let p := c.payload
    let a := u8 p 0
    let n := u8 p 1
    if p.length = 4 ∧ allZero p 2 2 ∧ 1 ≤ a ∧ 1 ≤ n ∧ a + n ≤ 49 then { st := s, data := dioReadData s a n }
    else refuse s Status.paramRange

/-- Checks of every action of DIO.WRITE (R394, R396). A retired output is refused before a kind that takes no host set, and a
force that a new one replaces ends with detail 4 (log entry 101, DESIGN CHOICE). -/
def dioWrite (action : Nat) (c : Cmd) (s : State) (f : Nat → Bool → Nat → Answer) : Answer :=
  let p := c.payload
  let n := u8 p 0
  let d := u16 p 4
  if p.length ≠ 8 ∨ !isDio n ∨ u8 p 1 ≠ action ∨ 1 < u8 p 2 ∨ !allZero p 3 1 ∨ !allZero p 6 2
      ∨ (if action = 2 then d < 10 ∨ 3600 < d else d ≠ 0) ∨ (dioCfg s n).mode ≠ 2 then refuse s Status.paramRange
  else if (cell s n).retired then refuse s Status.channelRetired
  else f n (u8 p 2 == 1) d

/-- DIO.WRITE host set (R381, R396). -/
def execDioWriteHostSet (c : Cmd) (s : State) : Out :=
  runOpcode 0x0740 c s fun s => dioWrite 1 c s fun n on _ =>
    let k := dioCfg s n
    if k.kind ≠ 4 then refuse s Status.dioNotHost
    else
      let s1 := s.setCell n fun x => { x with lease := if k.lease = 0 then none else some (s.tm.now + k.lease * 1000000) }
      { st := s1.setCommand n on }

/-- DIO.WRITE force. -/
def execDioWriteForce (c : Cmd) (s : State) : Out :=
  runOpcode 0x0740 c s fun s => dioWrite 2 c s fun n on d =>
    let s1 := s.endDioForce n 4
    let s2 := s1.setCell n fun x => { x with forced := some (on, s.tm.now + d * 1000000, d) }
    { st := (s2.cellEvent 15 n 1 d (if on then 1 else 0)).dioEdge n (commanded s1 n) }

/-- DIO.WRITE release. -/
def execDioWriteRelease (c : Cmd) (s : State) : Out :=
  runOpcode 0x0740 c s fun s => dioWrite 3 c s fun n _ _ => { st := s.endDioForce n 2 }

/-- DIO.RESTORE (R397). -/
def execDioRestore (c : Cmd) (s : State) : Out :=
  runOpcode 0x0741 c s fun s =>
    let p := c.payload
    let n := u8 p 0
    if p.length ≠ 4 ∨ !allZero p 1 3 ∨ !isDio n then refuse s Status.paramRange
    else if !(cell s n).retired then { st := s }
    else
      let s1 := s.setCell n fun x => { x with retired := false, attempts := 0, edgeAt := s.tm.now }
      { st := (s1.cellEvent 5 n 1).showFault n }

end Sys2Proof.Machine
end

