-- ==== Sys2Proof/Machine/Display.lean ====
section
/-! DEFINITION. Driving bistable panels (chapter 15). -/

namespace Sys2Proof.Machine

/-! ## Access (R427 to R430) -/

def panel (s : State) (p : Nat) : Panel := nth s.disp.panels p
def State.setPanel (s : State) (p : Nat) (f : Panel → Panel) : State :=
  { s with disp.panels := upd s.disp.panels p f }

/-- 0 no panel in use, 1 small, 2 large (R429). -/
def dispConfig (s : State) : Nat :=
  let used := ((List.range 4).map (panelCfg s)).filter (·.used)
  if used.isEmpty then 0 else if used.length ≤ 2 ∧ (used.map (·.area)).sum ≤ 300 then 1 else 2

def absent (x : Panel) : Bool := decide (3 ≤ x.misses)

/-- DISPLAY_EVENT with its record (R448). -/
def State.dispEvent (s : State) (ev p detail : Nat) (value : Int) : State :=
  s.logEvent (0x003F + ev) 0xC0F7 (le 1 ev ++ le 1 p ++ le 1 detail ++ zeros 1 ++ leInt 4 value)

/-- Temperature in 0.1 °C. -/
def deci (centi : Int) : Int := centi.tdiv 10

/-- Content or a clearing is due on the panel. -/
def due (x : Panel) : Bool := x.clearing || x.clearAsked || x.pending.isSome

/-- Value of a panel's diagnostic (R447). -/
def panelCode (s : State) (p : Nat) : Nat :=
  let x := panel s p
  if !(panelCfg s p).used then 0 else if absent x then 4 else if x.mismatch then 5 else if x.noHoldUp then 2 else if x.coldHot then 1
  else if s.disp.fault.isSome ∧ due x then 3 else 0

/-- Show the diagnostics of the panels. -/
def State.showPanels (s : State) : State :=
  (List.range 4).foldl (fun (acc : State) p => acc.diagnostic (0x0300 + p) (panelCode acc p)) s

/-- The hold-up test of the latest power-up against what the configuration requires (R430); a power-up that passes ends the
suspension. -/
def State.judgeHoldUp (s : State) (powerUp : Bool) : State :=
  let v := if dispConfig s ≠ 2 then 0 else if 1000 ≤ nth s.pw.holdupTest 5 then 1 else 2
  let s1 := { s with disp.holdUp := v }
  ((List.range 4).foldl (fun (acc : State) p =>
    let x := panel acc p
    if (panelCfg acc p).used ∧ v = 2 ∧ !x.noHoldUp then
      (acc.setPanel p fun y => { y with noHoldUp := true }).dispEvent 3 p 2 (deci x.temp)
    else if powerUp ∧ v ≠ 2 ∧ x.noHoldUp then
      (acc.setPanel p fun y => { y with noHoldUp := false }).dispEvent 4 p 2 (deci x.temp)
    else acc) s1).showPanels

/-! ## Page content (R442 to R444) -/

/-- A station stands between its pre-warning and its reset (R195). -/
def deadmanWarns (s : State) (st : Nat) : Bool :=
  match nth s.repl.rep.call.deadman st, s.repl.lastEval with
  | some d, some e => decide (st < 64) && atOrAfter32 (e + (stationCfg s st).w) d
  | _, _ => false

/-- Banner: 1 NO CALLER, 2 DEAD-MAN, 3 ISLAND (R444). A node in ISLAND that runs no call step has no caller (log entry 97,
DESIGN CHOICE). -/
def banner (s : State) (k : PanelCfg) : Nat :=
  if s.repl.rep.call.caller.isNone then 1
  else if deadmanWarns s k.watch then 2
  else if s.op = .island then 3 else 0

/-- Bring the node's list of annunciated conditions up to the evaluated picture of E. -/
def State.noteSeen (s : State) (e : Nat) : State :=
  let tags := if s.op = .island then ownedTags s else usedTags s
  let seen := tags.flatMap fun t =>
    let d := desc s t
    let x := tagDyn s t
    (List.range 8).filterMap fun i =>
      let c := (nth x.conds i).state.code
      if (nth d.conds i).kind = 0 ∨ c = 0 ∨ 4 < c then none
      else match look s.disp.seen (t * 8 + i) with
        | some (c', e') => some (t * 8 + i, c, if c' = c then e' else e)
        | none => some (t * 8 + i, c, e)
  { s with disp.seen := seen }

/-- A row of an alarm list: acknowledged, priority, epoch of the latest transition, tag, slot, state, bundle. -/
structure ListRow where
  acked : Nat
  prio  : Nat
  epoch : Nat
  key   : Nat
  code  : Nat
  count : Nat
  deriving DecidableEq, Repr, Inhabited

def ListRow.before (a b : ListRow) : Bool :=
  decide (a.acked < b.acked) || (a.acked == b.acked && (decide (a.prio < b.prio) || (a.prio == b.prio &&
    (decide (b.epoch < a.epoch) || (a.epoch == b.epoch && decide (a.key < b.key))))))

def insertRow (r : ListRow) : List ListRow → List ListRow
  | [] => [r]
  | x :: l => if r.before x then r :: x :: l else x :: insertRow r l

/-- FOLDED tags of a group: its bundle (R155). -/
def bundleOf (s : State) (g : Nat) : List Nat :=
  (usedTags s).filter fun u => (desc s u).group == g && decide ((tagDyn s u).role = .folded)

/-- The head condition of a group as tag × 8 + slot (R149). -/
def headKey (s : State) (g : Nat) : Option Nat :=
  (usedTags s).findSome? fun u =>
    if (desc s u).group = g ∧ (tagDyn s u).role.isHead then
      ((List.range 8).find? fun i => (nth (tagDyn s u).conds i).mark).map fun i => 8 * u + i
    else none

/-- The bundle rows of the groups with listed conditions on FOLDED tags: the head condition with the count, in the place of
the first row it stands for when the head itself is not listed (R157, R443; log entry 96, DESIGN CHOICE). -/
def bundleRows (s : State) (own folded : List ListRow) : List ListRow :=
  let groups := folded.foldl (fun acc x => ins acc (desc s (x.key / 8)).group) []
  groups.filterMap fun g =>
    match headKey s g, folded.find? fun x => (desc s (x.key / 8)).group == g with
    | some k, some x =>
      if own.any (·.key == k) then none
      else some { x with key := k, code := (nth (tagDyn s (k / 8)).conds (k % 8)).state.code }
    | _, _ => none

/-- The rows a panel lists (R443). -/
def listRows (s : State) (k : PanelCfg) : List ListRow :=
  let rows := s.disp.seen.filterMap fun q =>
    let d := desc s (q.1 / 8)
    let prio := (nth d.conds (q.1 % 8)).priority
    let area := groupArea s d.group
    if k.prios.testBit prio && (k.areas == 0 || area.any fun a => k.areas.testBit a) then
      some { acked := if q.2.1 = 1 ∨ q.2.1 = 3 then 0 else 1, prio, epoch := q.2.2, key := q.1, code := q.2.1, count := 0 }
    else none
  let isFolded (x : ListRow) : Bool := decide ((tagDyn s (x.key / 8)).role = .folded)
  let sorted := rows.foldl (fun acc x => insertRow x acc) []
  let own := sorted.filter fun x => !isFolded x
  let shown := (bundleRows s own (sorted.filter isFolded)).foldl (fun acc x => insertRow x acc) own
  shown.map fun x =>
    let g := (desc s (x.key / 8)).group
    if headKey s g = some x.key then { x with count := (bundleOf s g).length } else x

/-- Unit codes of Table 11-4 that name a unit. -/
def unitCodes : List Nat :=
  [0x01, 0x02, 0x03, 0x10, 0x11, 0x12, 0x13, 0x20, 0x21, 0x22, 0x30, 0x31, 0x32, 0x33, 0x40, 0x41, 0x42, 0x43, 0x44, 0x50]

/-- The unit a page shows for a unit code: a code of Table 11-4, or one the display region defines; any other code shows no
unit (R335). -/
def unitShown (s : State) (code : Nat) : Nat × Bytes :=
  let at_ := u32 (regBytes s 87 168 8) 0
  let length := u32 (regBytes s 87 168 8) 4
  if 0x8000 ≤ code then
    (if 8 * (code - 0x8000) + 8 ≤ length then (code, regBytes s 87 (at_ + 8 * (code - 0x8000)) 8) else (0, []))
  else if code ∈ unitCodes then (code, []) else (0, [])

/-- What a page shows of a tag: value with its decimals and unit, quality and states. -/
def tagContent (s : State) (t : Nat) : List Nat :=
  let x := tagDyn s t
  let d := desc s t
  let u := unitShown s d.unit
  [t, x.value.toNat, x.quality.toNat, d.decimals, u.1] ++ u.2.map (·.toNat) ++ x.conds.map (·.state.code)

/-- What the mimic of a group shows: its tags, and for those FOLDED the head condition with the bundle's count (R157). -/
def groupContent (s : State) (g : Nat) : List Nat :=
  let bundle := bundleOf s g
  (((usedTags s).filter fun t => (desc s t).group == g && !decide (t ∈ bundle)).flatMap (tagContent s))
    ++ (if bundle.isEmpty then [] else [(headKey s g).getD 0, bundle.length])

/-- Page a panel is to show: the one commanded, or its default. -/
def pageOf (s : State) (p : Nat) : Nat × Nat :=
  match (panel s p).held with
  | some (k, q, _) => (k, q)
  | none => ((panelCfg s p).kind, (panelCfg s p).param)

/-- Content of a panel's page: the banner and what the page shows. -/
def pageContent (s : State) (p : Nat) : List Nat :=
  let k := panelCfg s p
  let (kind, param) := pageOf s p
  banner s k ::
    (if kind = 1 then (listRows s k).flatMap fun r => [r.key, r.code, r.prio, r.epoch, r.count]
     else if kind = 2 then groupContent s param
     else tagContent s param)

/-- Contents of the panels named, as they stand. -/
def contents (s : State) (ps : List Nat) : Pages :=
  (ps.filter fun p => (panelCfg s p).used).map fun p => (p, (pageOf s p).1, (pageOf s p).2, pageContent s p)

/-- Descriptors of the display rings in use: content waiting on Q28, updates in progress on Q29 (R68, R69). -/
def State.panelRings (s : State) : State :=
  (s.ringUsed 28 (s.disp.panels.countP fun x => x.pending.isSome)).ringUsed 29 (s.disp.panels.countP fun x => x.update.isSome)

/-- Render what has changed; the newest content replaces what waits on Q28 (R436, R442). The frame carries the
epoch and its system time. -/
def State.render (pages : Pages) (s : State) : State :=
  let e := s.repl.lastEval.getD 0
  let sys : Int := (epochStart s (e + 1) : Int) + s.repl.rep.sysOffset
  (pages.foldl (fun (acc : State) q =>
    let p := q.1
    let (kind, param, content) := q.2
    let x := panel acc p
    if !(panelCfg acc p).used ∨ x.lastContent = some (kind :: param :: content) then acc
    else
      let f := Config.renderPage p (kind + 4 * param) (content ++ [e, sys.toNat])
      (acc.setPanel p fun y => { y with pending := some (f, kind, param), lastContent := some (kind :: param :: content) }).panelRings)
    s).showPanels

/-- Render the panels named again from the present picture; a one-lane node renders only what it releases. -/
def State.renderNow (s : State) (ps : List Nat) : State :=
  let s1 := ps.foldl (fun (acc : State) p => acc.setPanel p fun y => { y with lastContent := none }) s
  if s.repl.lastEval.isNone ∨ arrangement s = 5 ∧ s.op ≠ .island ∨ s.repl.reseed.isSome then s1
  else s1.render (contents s1 ps)

/-! ## Identity, temperature and absence (R427, R429, R435, R439) -/

/-- No update is in progress any more: the rails go off 50 ms from now (R433). -/
def State.idleRails (s : State) : State :=
  if s.disp.panels.any fun x => x.update.isSome then s else { s with disp.offAt := some (s.tm.now + 50000) }

/-- Cut an update off: the journal stays STARTED, and what was to be shown waits behind the clearing. -/
def State.cutOff (s : State) (p : Nat) : State :=
  match (panel s p).update with
  | some u => (s.setPanel p fun x =>
      { x with update := none, clearing := true, current := none
               pending := x.pending.orElse fun _ => if u.kind = 3 then none else some (u.target, u.page.1, u.page.2) }).idleRails.panelRings
  | none => s

/-- Account for the temperature of a panel. -/
def State.panelTemp (s : State) (p : Nat) (t : Int) (module : Bool) : State :=
  let x := panel s p
  let s1 := s.setPanel p fun y => { y with temp := t, moduleTemp := module }
  if !x.coldHot ∧ (t < 0 ∨ 5000 < t) then (s1.setPanel p fun y => { y with coldHot := true }).dispEvent 3 p 1 (deci t)
  else if x.coldHot ∧ 100 ≤ t ∧ t ≤ 4900 then (s1.setPanel p fun y => { y with coldHot := false }).dispEvent 4 p 1 (deci t)
  else s1

/-- PANEL_IDENTITY_READ: every second; none when the memory does not answer. -/
def execPanelIdentityRead (p : Nat) (id : Option PanelId) (s : State) : Out :=
  .next (
    let k := panelCfg s p
    let x := panel s p
    if s.core ≠ .running ∨ 3 < p ∨ !k.used then s
    else match id with
      | none =>
        let s1 := s.setPanel p fun y => { y with misses := min 3 (y.misses + 1) }
        if absent (panel s1 p) ∧ !absent x then
          ((s1.cutOff p).dispEvent 6 p 1 ((x.id.map (·.area)).getD k.area)).showPanels
        else s1
      | some i =>
        let other := x.serial.any (· != i.serial)
        let bad := decide (i.columns ≠ k.columns ∨ i.rows ≠ k.rows ∨ i.area ≠ k.area)
        -- a new panel is cleared and then shows the newest content (R436, R438)
        let s0 := if other then s.cutOff p else s
        let s1 := s0.setPanel p fun y =>
          { y with misses := 0, id := some i, serial := some i.serial, mismatch := bad
                   fullNext := y.fullNext || other || absent x, clearing := y.clearing || other
                   pending := if other then y.pending.orElse fun _ => y.current.map fun f => (f, y.shown.1, y.shown.2) else y.pending
                   current := if other then none else y.current }
        let s2 := if absent x then s1.dispEvent 6 p 2 i.area else s1
        let s3 := if other then s2.dispEvent 6 p 4 i.area else s2
        let s4 := if bad ∧ !x.mismatch then s3.dispEvent 6 p 3 i.area else s3
        let s5 := if bad then s4.cutOff p else s4
        (match i.tempCenti with
          | some t => s5.panelTemp p t false
          | none => s5.panelTemp p (s5.sec.boardTemp * 10) true).showPanels)

/-! ## Updates (R431 to R438) -/

/-- Band of a temperature in 0.01 °C (Table 15-4). -/
def bandOf (t : Int) : Nat := min 7 (t.toNat / 625)

/-- Scan frames of a waveform. -/
def scanFrames (kind band : Nat) : Nat :=
  let n : Nat := nth [96, 72, 56, 48, 40, 36, 32, 32] band
  if kind = 1 then n else if kind = 2 then n * 3 / 2 else n * 3

/-- The panel may start an update now, the rails apart. -/
def mayStart (s : State) (p : Nat) : Bool :=
  let x := panel s p
  decide (s.core = .running) && decide (p < 4) && (panelCfg s p).used && !s.disp.stopped && !s.pw.failing && !absent x
    && !x.mismatch && !x.coldHot && !x.noHoldUp && x.id.isSome && x.update.isNone && due x
    && x.lastStart.all fun t => decide (t + 2000000 ≤ s.tm.now)

/-- The first scan frame of an update: STARTED is in the journal (R437). A clearing after an interrupted update
writes DISPLAY_INTERRUPTED (R438). -/
def State.startUpdate (s : State) (p : Nat) : State :=
  let x := panel s p
  let clear := x.clearing || x.clearAsked
  let kind := if clear then 3 else if x.current.isSome && !x.fullNext then 1 else 2
  let band := bandOf x.temp
  let (target, pk, pp) := if clear then (0, x.shown.1, x.shown.2) else x.pending.getD (0, 0, 0)
  let now := s.tm.now
  let s1 := if x.clearing ∧ x.journal.state = 2 then s.dispEvent 1 p x.journal.kind (sint 4 x.journal.frame) else s
  let s2 := s1.setPanel p fun y =>
    { y with update := some { kind, band, target, page := (pk, pp), start := now, end_ := now + 10000 * scanFrames kind band }
             journal := { frame := (y.journal.frame + 1) % 0x100000000, kind, band, page := pk, state := 2 }
             lastStart := some now, startUs := (fabUs s).getD 0, clearing := false, clearAsked := false
             pending := if !clear then none
               else if x.clearAsked ∧ y.pending.isNone ∧ !x.clearing then y.current.map fun f => (f, pk, pp)
               else y.pending }
  ({ s2 with disp.rails := 2, disp.offAt := none } : State).panelRings

/-- A rail out of tolerance: the off sequence runs and the update is not started (R432). -/
def State.railFault (s : State) (p rail : Nat) (mv : Int) : State :=
  ({ s with disp := { s.disp with rails := 3, railEnd := s.tm.now + 5000, offAt := none, fault := some (rail, s.tm.now) } }.dispEvent 5
    (if rail = 5 then p else 0xFF) rail mv).showPanels

/-- Rails after the end of an off sequence or a discharge. -/
def railsNow (s : State) : Nat :=
  if (s.disp.rails = 3 ∨ s.disp.rails = 4) ∧ s.disp.railEnd ≤ s.tm.now then 0 else s.disp.rails

/-- An attempt to start: from dark rails the on sequence begins; while rails are on the update starts; during an on
sequence it joins at 5 ms. -/
def State.tryStart (s : State) (p rail : Nat) (mv : Int) : State :=
  match railsNow s with
  | 0 =>
    if rail ≠ 0 then s.railFault p rail mv
    else { s with disp := { s.disp with rails := 1, railEnd := s.tm.now + 5000 } }
  | 1 => if rail ≠ 0 then s.railFault p rail mv else if s.disp.railEnd ≤ s.tm.now then s.startUpdate p else s
  | 2 => s.startUpdate p
  | _ => s

/-- DISPLAY_UPDATE_START; `railFault` names a rail found out of tolerance during the on sequence (1 to 5), or 0. -/
def execDisplayUpdateStart (p : Nat) (railFault : Nat) (railMv : Int) (s : State) : Out :=
  .next (if mayStart s p ∧ s.disp.fault.isNone then s.tryStart p railFault railMv else s)

/-- RAIL_FAULT_RETRY: at most once in 60 s (R432). -/
def execRailFaultRetry (p : Nat) (railFault : Nat) (railMv : Int) (s : State) : Out :=
  .next (match s.disp.fault with
    | some (_, t) =>
      if mayStart s p ∧ t + 60000000 ≤ s.tm.now ∧ railsNow s = 0 then
        if railFault ≠ 0 then s.railFault p railFault railMv
        else ({ s with disp := { s.disp with fault := none } }.tryStart p 0 0).showPanels
      else s
    | none => s)

/-- DISPLAY_UPDATE_END: the last scan frame is driven (R437). -/
def execDisplayUpdateEnd (p : Nat) (s : State) : Out :=
  .next (match (panel s p).update with
    | some u =>
      if s.core = .running ∧ u.end_ ≤ s.tm.now then
        let s0 := s.setPanel p fun x =>
          { x with update := none, current := some u.target, journal := { x.journal with state := 3 }, fullNext := false
                   updates := sat32 (x.updates + 1), shown := u.page }
        (s0.measure 16 p (F32.ofInt (panel s0 p).updates)).idleRails
      else s
    | none => s)

/-- RAIL_OFF_TIMER (R433). -/
def execRailOffTimer (s : State) : Out :=
  .next (match s.disp.offAt with
    | some t =>
      if s.core = .running ∧ t ≤ s.tm.now ∧ s.disp.rails = 2 then
        { s with disp := { s.disp with rails := 3, railEnd := s.tm.now + 5000, offAt := none } }
      else s
    | none => s)

/-! ## Power loss (R440, R441) -/

/-- Discharge regime of the configuration: 1 controlled, 2 fast, and its bound in µs. -/
def regime (s : State) : Nat × Nat := if dispConfig s = 2 then (2, 3000) else (1, 5210)

/-- Supply loss while the rails are on: updates are abandoned and the rails discharged. The time to ±0.5 V within
its bound is a free value. -/
def State.dischargeDisplay (s : State) : State :=
  if s.disp.rails = 1 ∨ s.disp.rails = 2 then
    let cut := (List.range 4).filter fun p => (panel s p).update.isSome
    let (v, s1) := s.takeFree
    let t := v % (regime s).2 + 1
    let s2 := cut.foldl (fun (acc : State) p => acc.cutOff p) s1
    let s3 := { s2 with disp := { s2.disp with rails := 4, railEnd := s.tm.now + t, offAt := none } }
    s3.dispEvent 2 0xFF (regime s).1 (satI32 ((cut.map (2 ^ ·)).sum + t * 256 : Nat))
  else s

/-- The frame store is lost with the DRAM (Table 01-4): a panel left in STARTED is to be cleared, any other takes the
full waveform (R434, R438). -/
def Panel.dropCore (x : Panel) : Panel :=
  { x with update := none, current := none, fullNext := true, pending := none, clearAsked := false, held := none
           clearing := x.clearing || x.journal.state == 2, lastContent := none, lastStart := none, misses := 0 }

def State.restartDisplay (s : State) : State :=
  { s with disp := { s.disp with panels := s.disp.panels.map Panel.dropCore, stopped := false, fault := none, offAt := none
                                 rails := 0, seen := [] } }

/-! ## DISP opcodes (R445, R446) -/

/-- VCOM in force in mV: the override, or the identity value with the ledger's correction, bounded, in 10 mV steps. -/
def vcomOf (s : State) (p : Nat) : Int :=
  let k := panelCfg s p
  let v := if k.vcom ≠ 0 then k.vcom else (((panel s p).id.map (·.vcom)).getD 0) + nth s.age.der.vcom p
  max (-3000) (min (-500) ((v + 5).fdiv 10 * 10))

/-- Panel state of Table 15-9. -/
def panelState (s : State) (p : Nat) : Nat :=
  let x := panel s p
  if !(panelCfg s p).used then 0
  else if absent x then 5
  else if x.mismatch then 6
  else match x.update with
    | some u => if u.kind = 3 then 3 else 2
    | none => if x.noHoldUp || x.coldHot then 4 else 1

def panelEntry (s : State) (p : Nat) : Bytes :=
  let x := panel s p
  let used := (panelCfg s p).used
  let cause := match panelCode s p with | 1 => 1 | 2 => 2 | 3 => 3 | _ => 0
  let band := match x.update with
    | some u => u.band
    | none => if used ∧ x.id.isSome ∧ 0 ≤ x.temp ∧ x.temp ≤ 5000 then bandOf x.temp else 0xFF
  le 1 (panelState s p) ++ le 1 x.journal.state ++ le 1 band
    ++ le 1 (flagBits [x.moduleTemp, x.clearing || x.clearAsked, x.held.isSome, x.fullNext] + 16 * cause)
    ++ leInt 2 (satI16 (deci x.temp)) ++ leInt 2 (if used then vcomOf s p else 0) ++ le 4 x.journal.frame ++ le 8 x.startUs
    ++ le 4 x.updates ++ le 1 x.shown.1 ++ zeros 3 ++ le 4 x.shown.2

/-- DISP.STATUS after its status (Table 15-9). -/
def dispStatusData (s : State) : Bytes :=
  let r := railsNow s
  let rails := flagBits [r == 2, (r == 1 || r == 3) && decide (s.tm.now < s.disp.railEnd), r == 4, s.disp.fault.isSome]
  le 1 (dispConfig s) ++ le 1 s.disp.holdUp ++ le 1 rails ++ zeros 3 ++ (List.range 4).flatMap (panelEntry s)

def execDispStatus (c : Cmd) (s : State) : Out := runPlain 0x0901 c s dispStatusData

/-- A panel that cannot take a request. -/
def unavailable (s : State) (p : Nat) : Bool :=
  let x := panel s p
  absent x || x.mismatch || x.noHoldUp

/-- The page kind and parameter have a template. -/
def hasPage (s : State) (kind param : Nat) : Bool :=
  kind == 0 || Config.hasTemplate (dirEntry s (selected s 87) 87).crc kind param

/-- DISP.SHOW_PAGE. -/
def execDispShowPage (c : Cmd) (s : State) : Out :=
  runOpcode 0x0940 c s fun s =>
    let b := c.payload
    let p := u8 b 0
    let kind := u8 b 1
    let hold := u16 b 8
    if b.length ≠ 12 ∨ 3 < p ∨ 3 < kind ∨ !allZero b 2 2 ∨ !allZero b 10 2 ∨ (hold ≠ 0 ∧ (hold < 10 ∨ 3600 < hold))
        ∨ !(panelCfg s p).used then refuse s Status.paramRange
    else if !hasPage s kind (u32 b 4) then refuse s Status.pageUnknown
    else if unavailable s p then refuse s Status.panelUnavailable
    else
      let end_ := if hold = 0 then none else some (s.tm.now + hold * 1000000)
      let s1 := s.setPanel p fun x => { x with held := if kind = 0 then none else some (kind, u32 b 4, end_) }
      { st := s1.renderNow [p] }

/-- DISP.CLEAR. -/
def execDispClear (c : Cmd) (s : State) : Out :=
  runOpcode 0x0941 c s fun s =>
    let b := c.payload
    let p := u8 b 0
    if b.length ≠ 4 ∨ 3 < p ∨ !allZero b 1 3 ∨ !(panelCfg s p).used then refuse s Status.paramRange
    else if unavailable s p then refuse s Status.panelUnavailable
    else { st := s.setPanel p fun x => { x with clearAsked := true } }

/-- PAGE_HOLD_EXPIRY. -/
def execPageHoldExpiry (p : Nat) (s : State) : Out :=
  .next (match (panel s p).held with
    | some (_, _, some e) =>
      if s.core = .running ∧ e ≤ s.tm.now then (s.setPanel p fun x => { x with held := none }).renderNow [p] else s
    | _ => s)

end Sys2Proof.Machine
end

