-- ==== Sys2Proof/Machine/Ageing.lean ====
section
/-! DEFINITION. Ageing measurement and margin re-planning (chapter 18). -/

namespace Sys2Proof.Machine

/-! ## Core voltage (R493) -/

/-- The core setting a slowdown asks for, in mV (R493). -/
def coreSetting (slowdown : Word) : Nat := min 900 (800 + 10 * (-(F32.floorScaled (F32.neg slowdown) 1 1)).toNat)

/-- Raise the core regulator, never lowered: 1 re-plan, 2 measurement. The results copy in force keeps it, and M02
measures it; a change of M02's state is the caller's to note. -/
def State.raiseCore (s : State) (mv cause : Nat) : State :=
  let old := s.age.der.coreMv
  if mv ≤ old then s
  else
    let top := (s.age.copies.filterMap fun c => c.map (·.2)).foldl max 0
    let keep (c : Option (Derating × Nat)) : Option (Derating × Nat) :=
      c.map fun (x : Derating × Nat) => if x.2 = top then ({ x.1 with coreMv := mv }, x.2) else x
    let s1 := { s with age := { s.age with der := { s.age.der with coreMv := mv }, copies := s.age.copies.map keep } }
    ((s1.marginEvent 3 1 (ledgerEntry s 1).site cause mv old).keepMeasure 2 0xFF (F32.ofIntDiv mv 1000)).refreshEntry 2

/-- AGE_MEASUREMENT: the hardware's measurement of an entry at a site, in the entry's unit. M02, M04, M06, M15's
entry and M16 the node computes from what it holds. -/
def execAgeMeasurement (entry site : Nat) (value : Word) (s : State) : Out :=
  .next (
    if s.core ≠ .running ∨ entry = 0 ∨ 16 < entry then s
    else match entry with
      | 1 =>
        let s1 := s.measure 1 site value
        match (ledgerEntry s1 1).value with
        | some v => (s1.raiseCore (coreSetting v) 2).noteState 2 (ledgerEntry s1 2).state
        | none => s1
      | 2 => s.measure 2 0xFF (F32.ofIntDiv s.age.der.coreMv 1000)
      | 4 => s.measure 4 site (gainDrift (nth s.ana.slices site))
      | 5 =>
        let s1 := s.measure 5 site value
        match look (siteValues s1 5) site with
        | some z => s1.measure 6 site (F32.div (F32.ofInt 45000) z)
        | none => s1
      | 6 => s
      | 15 =>
        let mv := F32.roundScaled value 1 1
        match (panel s site).id with
        | some i =>
          if F32.finite value then
            ({ s with age := { s.age with vcoms := s.age.vcoms ++ [(site, mv)] } } : State).measure 15 site (F32.ofInt (mv - i.vcom).natAbs)
          else s
        | none => s
      | 16 => s.measure 16 site (F32.ofInt (panel s site).updates)
      | m => s.measure m site value)

/-! ## History, rates and projections (R490) -/

/-- Least-squares slope of the stored samples per 1,000 h, computed exactly and narrowed once; none with fewer than
10 samples. -/
def fitRate (l : List (Nat × Word)) : Option Word :=
  let n := l.length
  if n < 10 then none
  else
    let h : Int := (l.map (·.1)).sum
    let v : Int := (l.map fun x => F32.units x.2).sum
    let hv : Int := (l.map fun x => (x.1 : Int) * F32.units x.2).sum
    let hh : Int := (l.map fun x => (x.1 : Int) * x.1).sum
    let den := (n * hh - h * h).toNat
    if den = 0 then none else some (F32.ofIntDiv ((n * hv - h * v) * 1000) (den * 2 ^ 149))

/-- Samples of an entry that are numbers. -/
def entrySamples (s : State) (m : Nat) : List (Nat × Word) :=
  s.age.history.filterMap fun x => (nth x.2 (m - 1)).map fun v => (x.1, v)

/-- Projected exhaustion in operating hours. -/
def projection (m : Nat) (value limit : Word) (rate : Option Word) : Nat :=
  if atLimit m value limit then 0
  else match rate with
    | some r =>
      let toward := if fallsEntry m then F32.lt r 0 else F32.lt 0 r
      if toward then
        let abs (x : Word) : Word := if F32.neg? x then F32.neg x else x
        let p := F32.mul (F32.div (abs (F32.sub limit value)) (abs r)) (F32.ofInt 1000)
        if F32.finite p then min (F32.floorScaled p 1 1).toNat 0xFFFFFFFE else 0xFFFFFFFE
      else 0xFFFFFFFF
    | none => 0xFFFFFFFF

/-- Rate and projection of every entry. -/
def State.recompute (s : State) : State :=
  (List.range 16).foldl (fun (acc : State) i =>
    let m := i + 1
    let l := entrySamples acc m
    let r := fitRate l
    let e := ledgerEntry acc m
    acc.setEntry m fun x =>
      { x with rate := r, samples := min 96 l.length
               projection := match e.value with
                 | some v => projection m v (entryLimit acc m e.site) r
                 | none => 0xFFFFFFFF }) s

/-- HISTORY_SAMPLE: at every multiple of 100 operating hours. -/
def execHistorySample (s : State) : Out :=
  .next (
    let h := opHours s / 100 * 100
    let last := ((s.age.history.getLast?).map (·.1)).getD 0
    if s.core = .running ∧ last < h then
      let row := s.age.entries.map (·.value)
      let hist := s.age.history ++ [(h, row)]
      let biases : List (Option Word) := s.age.freshBias.zipIdx.map fun (p : Option Word × Nat) =>
        p.1.orElse fun _ => look (siteValues s 11) p.2
      let s1 := { s with age := { s.age with
        history := hist.drop (hist.length - 96), index := (s.age.index + 1) % 96, freshBias := biases
        entries := s.age.entries.map fun (e : LedgerEntry) => { e with fresh := e.fresh.orElse fun _ => e.value } } }
      s1.recompute
    else s)

/-! ## Deratings (R495, Table 18-5) -/

/-- Rate taken as 0 when not fitted. -/
def rateOr (s : State) (m : Nat) : Word := (ledgerEntry s m).rate.getD 0

def absF (x : Word) : Word := if F32.neg? x then F32.neg x else x

/-- ⌊n / x⌋ for a positive finite x. -/
def floorQuot (n : Nat) (x : Word) : Nat := n * 2 ^ 149 / F32.mag x

/-- Calibration interval in hours. -/
def calibration (s : State) : Nat :=
  let a := absF (rateOr s 3)
  let b := absF (rateOr s 4)
  let r := if F32.lt a b then b else a
  if F32.key r = 0 then 43800 else max 8760 (min 43800 (floorQuot 1000000 r))

/-- VCOM correction of a panel. -/
def vcomCorrection (s : State) (p : Nat) : Int :=
  let ms := (s.age.vcoms.filter (·.1 == p)).map (·.2)
  match (panel s p).id with
  | some i =>
    if ms.isEmpty then nth s.age.der.vcom p
    else
      let c := roundEven ms.sum ms.length - i.vcom
      let c10 := roundEven c 10 * 10
      max (-3000 - i.vcom) (min (-500 - i.vcom) c10)
  | none => nth s.age.der.vcom p

/-- The derating block of the present measurements. -/
def plan (s : State) : Derating :=
  let d := s.age.der
  let z := siteValues s 5
  let on := siteValues s 7
  let slices := d.slice.zipIdx.map fun (p : Nat × Nat) => match look z p.2 with
    | some v => min 400 (floorQuot 45000 v / 10 * 10)
    | none => p.1
  let core := match (ledgerEntry s 1).value with
    | some v => max d.coreMv (coreSetting (F32.add v (rateOr s 1)))
    | none => d.coreMv
  let held := match (ledgerEntry s 14).value with
    | some v => F32.le (F32.ofInt 1200) (F32.sub v (absF (rateOr s 14)))
    | none => false
  { coreMv := core
    slice := slices
    allowance := (List.range 4).map fun b => 4800 * (((slices.drop (10 * b)).take 10).foldl min 400) / 400 / 10 * 10
    digital := d.digital.zipIdx.map fun (p : Nat × Nat) => match look on (p.2 + 1) with
      | some r => if F32.mag r = 0 then 500 else min 500 (Nat.sqrt (floorQuot 100000000 r) / 10 * 10)
      | none => p.1
    bias := d.bias.zipIdx.map fun (p : Nat × Nat) => match nth s.age.freshBias p.2 with
      | some f => min 600 (F32.floorScaled f 20 1).toNat
      | none => p.1
    calHours := List.replicate 4 (calibration s)
    vcom := (List.range 4).map (vcomCorrection s)
    notGuaranteed := dispConfig s == 2 && !held
    conservative := false }

/-- DERATING for each value of a kind that changed, with its site number from `base`. -/
def State.derate (s : State) (kind base : Nat) (old new : List Int) : State :=
  ((List.zip old new).zipIdx).foldl (fun (acc : State) (p : (Int × Int) × Nat) =>
    if p.1.1 = p.1.2 then acc else acc.marginEvent 4 kind (base + p.2) 0 p.1.2 p.1.1) s

def ints (l : List Nat) : List Int := l.map fun (n : Nat) => (n : Int)

/-- The records of a change of deratings, in the order of Table 18-5. -/
def State.derateAll (s : State) (old new : Derating) : State :=
  let s1 := s.derate 2 0 (ints old.slice) (ints new.slice)
  let s2 := s1.derate 1 0 (ints old.allowance) (ints new.allowance)
  let s3 := s2.derate 3 1 (ints old.digital) (ints new.digital)
  let s4 := s3.derate 4 0 (ints old.bias) (ints new.bias)
  let s5 := s4.derate 5 0 old.vcom new.vcom
  let s6 := s5.derate 6 0 (ints old.calHours) (ints new.calHours)
  s6.derate 7 0xFF [if old.notGuaranteed then 0 else 1] [if new.notGuaranteed then 0 else 1]

/-- State of an entry at a re-plan (R491). -/
def plannedState (m : Nat) (e : LedgerEntry) (limit : Word) (lost : Bool) : Nat :=
  match e.value with
  | none => 3
  | some v =>
    if atLimit m v limit then 2
    else if e.projection < 20000 ∨ (m = 14 ∧ lost = true) then 1
    else if 25000 ≤ e.projection then 0
    else if e.state = 2 ∨ e.state = 3 then 0 else e.state

/-- Slice corrections (R497): with at least 10 checks passed, the means are taken off, the accumulated gain held
at ±2,000 ppm; in force from the next filter start. -/
def correct (y : Slice) : Slice :=
  let n := y.passed.length
  if n < 10 ∨ y.phase = .retired then { y with passed := [] }
  else
    let off := roundEven (y.passed.map (·.1)).sum n
    let g := roundEven (y.passed.map (·.2)).sum n
    let acc := max (-2000) (min 2000 (y.accGain - g))
    let o0 := (y.newCal.map (·.1)).getD y.offset
    let g0 := (y.newCal.map (·.2)).getD y.gainPpm
    { y with passed := [], accGain := acc, newCal := some (o0 + off, g0 + (acc - y.accGain)) }

/-- The older results copy takes the new block. -/
def writeCopy (copies : List (Option (Derating × Nat))) (d : Derating) (n : Nat) : List (Option (Derating × Nat)) :=
  let rank (c : Option (Derating × Nat)) : Nat := (c.map fun (x : Derating × Nat) => x.2 + 1).getD 0
  let a := rank (nth copies 0)
  let b := rank (nth copies 1)
  upd copies (if b < a then 1 else 0) fun _ => some (d, n)

/-- A whole re-plan with its measurements of M05 (R495). -/
def State.replan (s : State) (readings : List (Nat × Word)) : State :=
  let (cause, cmds) := s.age.running.getD (1, [])
  let was := s.age.entries.map (·.state)
  let s1 := readings.foldl (fun (acc : State) r => if siteUsed acc 5 r.1 && F32.finite r.2 then acc.keepMeasure 5 r.1 r.2 else acc) s
  let s2 := (siteValues s1 5).foldl (fun (acc : State) r => acc.keepMeasure 6 r.1 (F32.div (F32.ofInt 45000) r.2)) s1
  let s3 := { s2 with ana.slices := s2.ana.slices.map correct }
  let s4 := s3.ana.slices.zipIdx.foldl (fun (acc : State) (p : Slice × Nat) =>
    if siteUsed acc 4 p.2 then acc.keepMeasure 4 p.2 (gainDrift p.1) else acc) s3
  let s5 := ((List.range 16).foldl (fun (acc : State) i => acc.refreshEntry (i + 1)) s4).recompute
  let old := s5.age.der
  let new := plan s5
  let n := s5.age.count + 1
  let s6 := { s5 with age := { s5.age with
    entries := s5.age.entries.zipIdx.map fun (p : LedgerEntry × Nat) =>
      { p.1 with state := plannedState (p.2 + 1) { p.1 with state := nth was p.2 } (entryLimit s5 (p.2 + 1) p.1.site) new.notGuaranteed }
    der := { new with coreMv := old.coreMv }, count := n, lastReplan := some (opHours s), planned := opHours s / 1000
    running := none, vcoms := [], copies := writeCopy s5.age.copies new n } }
  let s7 := (s6.raiseCore new.coreMv 1).derateAll old new
  let s8 := (List.range 16).foldl (fun (acc : State) i => acc.noteState (i + 1) (nth was i)) s7
  let bad := s8.age.entries.countP fun e => e.state == 1 || e.state == 2
  let s9 := s8.marginEvent 1 cause 0xFF bad n (opHours s)
  cmds.foldl (fun (acc : State) c => acc.complete c 0x0C40 Status.ok (zeros 2 ++ le 4 n)) s9

/-- A re-plan begins; one that is running satisfies it (R494). -/
def State.startReplan (s : State) (cause : Nat) (cmds : List Cmd) : State :=
  let r := match s.age.running with
    | some (c, l) => (c, l ++ cmds)
    | none => (cause, cmds)
  { s with age.running := some r }

/-- REPLAN: the running re-plan, or one that a multiple of 1,000 operating hours makes due, with the M05 readings of
the slices (slice, K/W). Never before the recorder is open. -/
def execReplan (heldUpReadings : List (Nat × Word)) (s : State) : Out :=
  .next (
    if s.core = .running ∧ s.rcd.isOpen = true ∧ (s.age.running.isSome = true ∨ s.age.planned < opHours s / 1000) then
      s.replan heldUpReadings
    else s)

/-! ## Power-up (R494, R498) -/

/-- The conservative set. -/
def conservative : Derating :=
  { coreMv := 900, allowance := List.replicate 4 3000, slice := List.replicate 40 250, digital := List.replicate 48 400
    bias := List.replicate 4 400, calHours := List.replicate 4 8760, vcom := List.replicate 4 0
    notGuaranteed := true, conservative := true }

/-- Opening of the ledger: the results copy with the higher count, or the conservative set; what falls due. -/
def State.openLedger (s : State) (powerUp : Bool) : State :=
  let best := s.age.copies.foldl (fun (acc : Option (Derating × Nat)) c => match acc, c with
    | some a, some b => if a.2 < b.2 then some b else some a
    | none, c => c
    | a, none => a) none
  let s1 := { s with age := { s.age with running := none, vcoms := [], der := (best.map (·.1)).getD conservative } }
  if best.isNone then s1.startReplan 4 []
  else match s.age.lastReplan with
    | some h => if powerUp ∧ h + 1000 ≤ opHours s then s1.startReplan 3 [] else s1
    | none => if powerUp ∧ 1000 ≤ opHours s then s1.startReplan 3 [] else s1

/-! ## AGE opcodes (R501, R502) and storage (R489) -/

/-- An entry of Table 18-3. -/
def entryBytes (s : State) (m : Nat) : Bytes :=
  let e := ledgerEntry s m
  let w (x : Option Word) : Bytes := le 4 (x.getD 0x7FC00000).toNat
  le 1 m ++ le 1 (if fallsEntry m then 1 else 0) ++ le 1 e.site ++ le 1 e.state ++ w e.value
    ++ le 4 (entryLimit s m e.site).toNat ++ w e.rate ++ le 4 e.projection ++ w e.fresh ++ le 4 e.hours ++ le 2 e.samples ++ zeros 2

/-- The derating block, 216 B. -/
def Derating.bytes (d : Derating) : Bytes :=
  le 2 d.coreMv ++ zeros 2 ++ d.allowance.flatMap (le 2 ·) ++ d.slice.flatMap (le 2 ·) ++ d.digital.flatMap (le 2 ·)
    ++ d.bias.flatMap (le 2 ·) ++ d.calHours.flatMap (le 2 ·) ++ d.vcom.flatMap (leInt 2 ·)
    ++ le 1 (flagBits [d.notGuaranteed, d.coreMv == 900, d.conservative]) ++ zeros 3

/-- A results copy of the ledger region, 224 B: the derating block, the re-plan count and its CRC. -/
def resultsCopy : Option (Derating × Nat) → Bytes
  | some (d, n) => let b := d.bytes ++ le 4 n; b ++ le 4 (crc32c b)
  | none => zeros 224

/-- The ledger region of the last-gasp store, 0x0_2000 to 0x0_3FFF (Table 18-4). A sample stands at its history index. -/
def ledgerRegion (s : State) : Bytes :=
  let entries := (List.range 16).flatMap fun i => entryBytes s (i + 1)
  let n := s.age.history.length
  let head := le 4 s.age.count ++ le 4 (s.age.lastReplan.getD 0) ++ le 1 s.age.index ++ le 1 n ++ zeros 2 ++ le 4 (crc32c entries)
    ++ zeros 44
  let row (i : Nat) : Bytes :=
    let back := (s.age.index + 95 - i) % 96
    if back < n then ((nth s.age.history (n - 1 - back)).2).flatMap fun v => le 4 (v.getD 0x7FC00000).toNat else zeros 64
  head ++ le 4 (crc32c head) ++ entries ++ resultsCopy (nth s.age.copies 0) ++ resultsCopy (nth s.age.copies 1)
    ++ (List.range 96).flatMap row ++ zeros 1024

/-- AGE.LEDGER after its status (Table 18-7). -/
def ageLedgerData (s : State) : Bytes :=
  zeros 2 ++ le 4 (opHours s) ++ le 4 (s.age.lastReplan.getD 0xFFFFFFFF) ++ le 4 s.age.count
    ++ le 1 (if s.age.running.isSome then 1 else 0) ++ le 1 s.age.history.length ++ zeros 2
    ++ ((List.range 16).flatMap fun i => entryBytes s (i + 1)) ++ s.age.der.bytes

def execAgeLedger (c : Cmd) (s : State) : Out := runPlain 0x0C01 c s ageLedgerData

/-- AGE.REPLAN. -/
def execAgeReplan (c : Cmd) (s : State) : Out :=
  runSilent 0x0C40 c s fun s =>
    if !c.payload.isEmpty then s.reply c 0x0C40 Status.paramRange
    else (s.reply c 0x0C40 Status.acceptedPending).startReplan 2 [c]

end Sys2Proof.Machine
end

