-- ==== Sys2Proof/Machine/Seals.lean ====
section
/-! DEFINITION. The node's own seal of an epoch (R247, R249) and what it latches and decides when it is placed:
counter snapshots (R276) and a missed activation (R519). -/

namespace Sys2Proof.Machine

/-! ## Counter snapshots (R276, Table 09-11) -/

/-- The blocks of the shadow bank: opcode and reply payload after its status. -/
def bankBlocks (s : State) : List (Nat × Bytes) :=
  [(0x0104, ringStatusData s), (0x0105, lanesData s), (0x0A01, fabStatusData s), (0x0A02, fabMembersData s 0 64 0xFF),
   (0x0F01, secPortsData s), (0x0501, chanReadData s 0 32), (0x0601, loopStatusData s 0 32), (0x0701, dioReadData s 1 48),
   (0x0801, recInfoData s), (0x0901, dispStatusData s), (0x0106, clocksData s), (0x0102, statusData s),
   (0x0C01, ageLedgerData s), (0x0E01, injStatusData s)]

/-- Pad with zero bytes to a multiple of 4. -/
def pad4 (b : Bytes) : Bytes := b ++ zeros ((4 - b.length % 4) % 4)

/-- The shadow bank as latched. -/
def bankBytes (s : State) (id target : Nat) : Bytes :=
  let bs := bankBlocks s
  let body := bs.flatMap fun b => le 2 b.1 ++ le 2 (pad4 b.2).length ++ pad4 b.2
  le 2 id ++ zeros 2 ++ le 4 target ++ le 8 ((fabUs s).getD 0) ++ le 2 s.node ++ le 2 bs.length ++ le 4 (32 + body.length)
    ++ le 4 (crc32c body) ++ zeros 4 ++ body

/-- Latch one slot whose target epoch this seal is of. -/
def State.latchSlot (s : State) (i id target : Nat) : State :=
  let b := bankBytes s id target
  let s1 := { s with repl.banks := upd s.repl.banks i fun _ => { id, target, bytes := b, absent := false } }
  s1.logNotifyAt 0x0317 (le 4 target ++ le 2 id ++ zeros 2 ++ le 4 b.length ++ le 8 ((fabUs s).getD 0)) 0xC0F6 target
    (le 2 id ++ zeros 2 ++ le 4 target)

def State.latchSnapshots (s : State) (e : Nat) : State :=
  s.repl.rep.snap.slots.zipIdx.foldl (fun (acc : State) p =>
    if p.1.1 ≠ 0 ∧ p.1.2.1 = e % 0x100000000 then acc.latchSlot p.2 p.1.1 p.1.2.1 else acc) s

/-! ## A missed activation (R519) -/

/-- Copy of a region that is not active. -/
def inactive (s : State) (r : Nat) : Nat := 1 - selected s r

/-- CRC of the staged copy of a region; none where that copy is not VERIFIED. -/
def stagedCrc (s : State) (r : Nat) : Option Nat :=
  let d := dirEntry s (inactive s r) r
  if d.state = 2 then some d.crc else none

/-- The first named region that this node does not hold for the activation at E_a. -/
def missedRegion (s : State) (ea : Nat) : Option (Nat × Nat) :=
  match s.repl.rep.scheduled with
  | some (e, rs, _, _) => if e = ea then rs.find? fun p => stagedCrc s p.1 != some p.2 else none
  | none => none

/-- CFG_EVENT (R526). -/
def cfgEvent (event region status epoch : Nat) : Bytes := le 1 event ++ le 1 region ++ le 2 status ++ le 4 epoch

/-- At the seal of E_a − 1: the node departs when it misses a copy. -/
def State.judgeActivation (s : State) (e : Nat) : State :=
  match missedRegion s (e + 1) with
  | some (r, crc) =>
    ({ s with repl.departing := true } : State).logNotifyAt 0x0503
      (le 4 (e + 1) ++ le 1 r ++ zeros 1 ++ le 4 ((stagedCrc s r).getD 0) ++ le 4 crc) 0xC0FA e (cfgEvent 5 r 0 (e + 1))
  | none => s

/-! ## The seal (R247, R249) -/

def sealBody (s : State) (e flags counted : Nat) : Bytes :=
  zeros 1 ++ le 1 flags ++ le 2 counted ++ le 4 e ++ le 1 (laneMask s) ++ le 1 s.op.code ++ zeros 2

/-- Segment ports whose counted frames of E have all left. -/
def sealPorts (s : State) (e : Nat) : List Nat :=
  let o := ownCount s e
  [0, 1].filter fun p => isUp s p && (if p = 0 then o.left0 else o.left1) == o.framed

/-- Place the seal of E for the ports given, and hold it. -/
def State.firstSeal (s : State) (e flags counted : Nat) (ports : List Nat) : State :=
  let f : Frame := { type := 1, ttl := 63, origin := s.node, inc := s.tm.powerCount % 0x10000, seq := s.fab.frameSeq
                     body := sealBody s e flags counted }
  let x : SealIn := { epoch := e, node := s.node, flags := BitVec.ofNat 8 flags, counted, lanes := laneMask s, state := s.op.code }
  { s with
    fab.frameSeq := (s.fab.frameSeq + 1) % 0x100000000
    repl.sealed := some (e, ports, f), repl.sealFlags := BitVec.ofNat 8 flags
    repl.seals := s.repl.seals ++ [x] }.pushFrame 0 { ports, frame := f }

/-- Flags of a seal (Table 09-3). -/
def sealFlagsNow (s : State) : Nat := flagBits [eligibleBit s, s.repl.departing, s.repl.reseed.isSome]

/-- NODE.PREPARE_OFF: the first seal after the command is of E1; E1 + 2 is sealed with DEPARTING (R473). -/
def State.prepareSeal (s : State) (e : Nat) : State :=
  match s.pw.prepareOff with
  | some (cs, none, was, k) => { s with pw.prepareOff := some (cs, some e, was, k) }
  | some (_, some e1, _, _) => if e1 + 2 ≤ e then { s with repl.departing := true } else s
  | none => s

/-- Place the seal of E on the segment ports that may have it and have not had it. -/
def State.sealEpoch (s : State) (e : Nat) : State :=
  let fresh : State :=
    if (sealPorts s e).isEmpty ∨ s.repl.sealFlags.toNat.testBit 1 then s
    else
      let s1 := (s.prepareSeal e).judgeActivation e
      (s1.firstSeal e (sealFlagsNow s1) (ownCount s1 e).framed (sealPorts s e)).latchSnapshots e
  match s.repl.sealed with
  | some (e', ports, f) =>
    if e' = e then
      let more := (sealPorts s e).filter fun p => !ports.contains p
      if more.isEmpty then s
      else { s with repl.sealed := some (e, ports ++ more, f) }.pushFrame 0 { ports := more, frame := f }
    else if e < e' then s else fresh
  | none => fresh

/-- SEAL_SEND: within 50 µs of the end of E (R12, R247). A node in START, ISLAND or STOPPING seals nothing. -/
def execSealSend (s : State) : Out :=
  .next (
    let e := s.repl.cur - 1
    let stop := epochStart s (e + 1)
    let t := (fabUs s).getD 0
    if s.core = .running ∧ s.tm.fab.isSome = true ∧ s.repl.member = true ∧ inReplica s = true ∧ s.pw.failing = false
        ∧ 1 ≤ s.repl.cur ∧ s.repl.since ≤ e ∧ stop ≤ t ∧ t ≤ stop + 50 then
      s.sealEpoch e
    else s)

/-- The seal at power loss (R470): of the first epoch not yet sealed, departing, counting what has left; what has
not left is discarded. -/
def State.departingSeal (s : State) : State :=
  if s.repl.member ∧ inReplica s ∧ s.tm.fab.isSome ∧ !s.repl.sealFlags.toNat.testBit 1 then
    let e := match s.repl.sealed with
      | some (e', _, _) => max (e' + 1) (s.repl.cur - 1)
      | none => s.repl.cur
    let o := ownCount s e
    let ports := [0, 1].filter (isUp s)
    let left := (ports.map fun p => if p = 0 then o.left0 else o.left1).foldl min o.framed
    let s1 := { s with repl.departing := true, repl.pending := []
                       fab.out := upd s.fab.out 1 fun _ => [] }
    if ports.isEmpty then s1 else s1.firstSeal e (sealFlagsNow s1) left ports
  else s

end Sys2Proof.Machine
end

