-- ==== Sys2Proof/Machine/Clocks.lean ====
section
/-! DEFINITION. Clocks (chapter 16): start-up of the oscillators, the monitor, forced and orderly switches, ISLAND
and CLOCKLESS HOLD. -/

namespace Sys2Proof.Machine

/-! ## What a core loses with its DRAM (R481, R516, R70) -/

/-- Analogue state that stays: retirements, the serving slices and their corrections (R283), and what the banks
themselves hold. A forced current stays in the bank's latch until the force's end is written. -/
def Analog.dropCore (s : State) : Analog :=
  let slice (y : Slice) : Slice := { y with phase := if y.phase = .retired then .retired else .off, excOn := false, fails := 0 }
  let chan (x : Chan) : Chan := { retired := x.retired, slice := x.slice }
  let bank (b : BankState) : BankState := { clamps := b.clamps, strap := b.strap, strapNew := b.strapNew, strapRun := b.strapRun, lastFrame := b.lastFrame, expired := b.expired }
  let loop (p : Loop × Nat) : Loop :=
    let i := match p.1.forced with
      | some (ua, _) => ua
      | none => p.1.latched
    { setpoint := i, latched := i, failing := p.1.failing, supply := p.1.supply, lastFall := p.1.lastFall, current := p.1.current
      vt := p.1.vt, temp := p.1.temp, power := p.1.power, compliance := p.1.compliance, thermal := p.1.thermal, refused := p.1.refused
      hotSince := p.1.hotSince, coolSince := p.1.coolSince, badSince := p.1.badSince, goodSince := p.1.goodSince, forced := p.1.forced
      insts := p.1.insts.map fun (x : Inst) => { slot := x.slot, poll := x.poll, long := x.long, devType := x.devType, devId := x.devId, known := x.known } }
  { slices := s.ana.slices.map slice, chans := s.ana.chans.map chan, banks := s.ana.banks.map bank
    loops := s.ana.loops.zipIdx.map loop, q30 := [] }

/-- Digital cells keep their latches, counters and faults on their own field supply (R9, R383). -/
def Dio.dropCore (s : State) : Dio :=
  let cell (p : Cell × Nat) : Cell :=
    { p.1 with latch := commanded s (p.2 + 1), command := false, lease := none, edges := 0, pulsesGood := 0, pulsesBad := 0, shown := 0 }
  { s.dio with cells := s.dio.cells.zipIdx.map cell }

/-- The fabric switch and the clock unit keep running; the core's rings are emptied and the counters of the ports
begin again (R240). -/
def Fabric.dropCore (f : Fabric) : Fabric :=
  let port (x : FabPort) : FabPort :=
    { x with accepted := 0, crcErrors := 0, headErrors := 0, coded := 0, departures := 0 }
  { f with out := List.replicate 4 [], inQ := List.replicate 4 [], ports := f.ports.map port, foreignUpdates := 0, rateUpdates := 0 }

/-- The contents of DRAM and of the core's rings are gone. -/
def State.dropCore (s : State) : State :=
  { s with
    ports := { links := s.ports.links }
    repl := { founding := { quietSince := s.tm.now }, searchDue := s.tm.now, retryAt := s.tm.now, cur := s.repl.cur }
    lanes := { s.lanes with retiring := [], clean := 0, trigger := false, next := none }
    rcd := { s.rcd with isOpen := false, queue := [], freeze := none, witWait := [], witNum := 0, witOut := [], witHeld := [], witIn := [],
                        silent := List.replicate 5 0 }
    cfg := { s.cfg with sessions := [], running := [], pendingC := [], handles := [], fwRestart := false }
    inj := List.replicate 8 none
    ana := Analog.dropCore s, dio := Dio.dropCore s, fab := Fabric.dropCore s.fab
    disp := { s.disp with stopped := false, panels := s.disp.panels.map Panel.dropCore }
    clk := { s.clk with orderly := 0 }
    age := { s.age with running := none, vcoms := [], meas := s.age.meas.filter fun (x : Nat × Nat × Nat × Word) => !meanEntry x.1 }
    pw := { s.pw with prepareOff := none, stopAt := 0, serviceReached := false, guardAt := 0, dramCorrected := 0
                      startFailedWritten := false }
    core := .held, op := .start }

/-- The clocks stop: nothing of the fabric or of fabric time is left. -/
def State.dropClocks (s : State) : State :=
  { s with fab := {}, tm.fab := none, clk.ref := none, clk.pllLocked := false, clk.ratio := 0, clk.xoOffset := none }

/-! ## Start-up (R450 to R452) -/

/-- The derived clocks (Table 16-1). -/
inductive DerivedClock where
  | mem | core | fab | per | conv | tick
  deriving DecidableEq, Repr

/-- Fixed division of ROOTCLK (Table 16-1). -/
def DerivedClock.division : DerivedClock → Nat
  | .mem => 2 | .core => 5 | .fab => 8 | .per => 20 | .conv => 100 | .tick => 1000

/-- Nominal ROOTCLK in Hz: the PLL multiplies its 25 MHz reference, and no locked PLL gives none (R449). -/
def rootHz (s : State) : Nat := if s.clk.pllLocked then 25000000 * s.clk.ratio else 0

/-- Nominal frequency of a derived clock in Hz (R449). -/
def derivedHz (s : State) (k : DerivedClock) : Nat := rootHz s / k.division

/-- A stability counter after WOSC cycles given as runs (edges in a cycle, cycles): it adds each edge and returns to 0
in a cycle with fewer than 15 or more than 40 (R450). -/
def stabilityCount (runs : List (Nat × Nat)) : Nat :=
  runs.foldl (fun c r => if r.2 = 0 then c else if r.1 < 15 ∨ 40 < r.1 then 0 else c + r.1 * r.2) 0

/-- XO is stable after 65,536 consecutive counted cycles, BOSC after 16,384 (R450). -/
def stableCount (bosc : Bool) (runs : List (Nat × Nat)) : Bool :=
  decide ((if bosc then 16384 else 65536) ≤ stabilityCount runs)

/-- SUPPLY_VALID: the ORed supply has been at or above 18.0 V for 100 ms (R465), from when the sequence runs. -/
def execSupplyValid (mv heldMs : Nat) (s : State) : Out :=
  .next (
    if s.pw.valid ∨ mv < 18000 ∨ heldMs < 100 then s
    else
      { s with
        core := .held, op := .start, tm.cycleStart := s.tm.now - 100000
        pw := { s.pw with valid := true, mvOr := mv, failing := false, holdupSpent := false, heldStart := false, upCause := 1, step := 2
                          stepTime := s.tm.now }
        clk := { s.clk with xoRunning := true, xoStable := false, xoTripped := false, boscRunning := true, boscStable := false
                            boscTripped := false, boscAttempt := 1, wosc := true, woscTripped := false, woscGood := 0
                            seqStart := s.tm.now, ref := none, pllLocked := false, ratio := 0 } })

/-- OSCILLATOR_STABLE: a running oscillator has been counted in the start sequence. -/
def execOscillatorStable (bosc : Bool) (runs : List (Nat × Nat)) (s : State) : Out :=
  .next (
    if !stableCount bosc runs ∨ !s.pw.valid ∨ s.core = .clockless ∨ s.clk.seqStart + 40000 < s.tm.now then s
    else if bosc then
      (if s.clk.boscRunning ∧ s.clk.boscAttempt ≤ 4 ∧ !s.clk.boscTripped then { s with clk.boscStable := true } else s)
    else if s.clk.xoRunning ∧ !s.clk.xoTripped then { s with clk.xoStable := true } else s)

/-- CLOCK_EVENT (R463). -/
def State.clockEvent (s : State) (ev frm dst port detail : Nat) (measured : Int) (stretch : Nat) : State :=
  s.logEvent 0x0320 0xC0F8 (le 1 ev ++ le 1 frm ++ le 1 dst ++ le 1 port ++ le 1 detail ++ zeros 1 ++ leInt 4 (satI32 measured)
    ++ le 4 (sat32 stretch))

/-- A failed BOSC stops and is retried every 60 s (R451). -/
def State.failBosc (s : State) (detail : Nat) (measured : Int) : State :=
  ({ s with clk := { s.clk with boscRunning := false, boscStable := false, boscAttempt := 5, boscRetryAt := s.tm.now + 60000000 } }).clockEvent
    3 0xFF 0xFF 0xFF detail measured 0

/-- BOSC_ATTEMPT_TIMER: attempt n ends 10 ms × n into the sequence; after the fourth BOSC has failed. -/
def execBoscAttemptTimer (s : State) : Out :=
  .next (
    let n := s.clk.boscAttempt
    if s.pw.valid ∧ s.core ≠ .clockless ∧ s.clk.boscRunning ∧ !s.clk.boscStable ∧ 1 ≤ n ∧ n ≤ 4
        ∧ s.clk.seqStart + 10000 * n ≤ s.tm.now then
      if n = 4 then s.failBosc 7 0 else { s with clk.boscAttempt := n + 1 }
    else s)

/-- The later of the persisted copies of operating time (R410). -/
def persistedCopy (s : State) : Option (Nat × Nat × Nat) :=
  match s.tm.copyA, s.tm.copyB with
  | some a, some b => if a.2.1 < b.2.1 then some b else some a
  | some a, none => some a
  | none, b => b

/-- CLOCKLESS HOLD: the core in reset, everything it held gone, and the hold entry (R452). Cause 1 start-up, 2 in
service. -/
def State.enterClockless (s : State) (cause : Nat) : State :=
  let xo := if s.clk.xoTripped then 1 else 0
  let op := ((persistedCopy s).map (·.1)).getD 0
  let s1 := s.dropCore.dropClocks
  { s1 with core := .clockless, clk.holdEntry := (0xFFFE0001, cause, min 4 s.clk.boscAttempt, xo, op), pw.step := 0 }

/-- CLOCK_START_DECISION: XO as soon as it is stable, at 40 ms BOSC, else CLOCKLESS HOLD (R451). -/
def execClockStartDecision (s : State) : Out :=
  .next (
    if !s.pw.valid ∨ s.core ≠ .held ∨ s.pw.step ≠ 2 then s
    else
      let go (r : Ref) (ratio : Nat) : State :=
        { s with clk.ref := some r, clk.ratio := ratio, clk.pllLocked := true, pw.step := 4, pw.stepTime := s.tm.now
                 clk.xoRetryAt := s.tm.now + 1000000 }
      if s.clk.xoStable ∧ !s.clk.xoTripped then go .xo 40
      else if s.tm.now < s.clk.seqStart + 40000 then s
      else if s.clk.boscStable ∧ !s.clk.boscTripped then go .bosc 39
      else s.enterClockless 1)

/-! ## Fallback order (R455) -/

/-- Ports whose recovered clock may be taken. -/
def clockPorts (s : State) : List Nat := (upPorts s).filter fun p => (fport s p).partnerClass == 1

/-- The port of R455: the upstream port when it qualifies, else the lowest. -/
def fabricRef (s : State) (not : Option Nat) : Option Nat :=
  let l := (clockPorts s).filter fun p => not != some p
  match s.fab.upstream with
  | some p => if l.contains p then some p else l.head?
  | none => l.head?

/-- The first usable reference other than a port just tripped. -/
def usableRef (s : State) (not : Option Nat) : Option Ref :=
  if s.clk.xoStable ∧ !s.clk.xoTripped then some .xo
  else match fabricRef s not with
    | some p => some (.fabric p)
    | none => if s.clk.boscStable ∧ !s.clk.boscTripped then some .bosc else none

/-! ## ISLAND (R31, R201, R459) -/

/-- Enter ISLAND: absent from the replica, epochs on the node's own timebase over its own tags, FSK suspended. A
caller that may call alone keeps its relays until the next call step. -/
def State.enterIsland (s : State) : State :=
  let on := if (callerList s).contains s.node ∧ 2 ≤ laneCount s then s.repl.relays.map (·.on) else [false, false]
  let kept := if s.repl.reseed.isSome then none else s.repl.lastEval
  let s1 := s.leaveTo .island
  let cur := ((timeUs s1).map (epochOf s1)).getD 0
  let s2 := setRelays { s1 with repl.cur := cur, repl.lastEval := some (kept.getD (cur - 1)), repl.lastEvalAt := s.tm.now } on
  (List.range 32).foldl (fun (acc : State) c => acc.suspendFsk c) s2.republishAll

/-- XO is back: the instruments are read and the node rejoins through the join steps (R31, R459). -/
def State.leaveIsland (s : State) : State :=
  (List.range 32).foldl (fun (acc : State) c => acc.readInstruments c) s.leaveReplica

/-! ## Switches (R456, R457) -/

/-- Force the PLL to another reference, or hold without one. On BOSC the ports cannot keep sync (R214). -/
def State.forceSwitch (s : State) (dst : Option Ref) (detail : Nat) (measured : Int) (stretch : Nat) : State :=
  match dst with
  | none => s.enterClockless 2
  | some r =>
    let s1 := { s with
      clk := { s.clk with ref := some r, ratio := if r = Ref.bosc then 39 else 40, forced := sat32 (s.clk.forced + 1)
                          xoRetryAt := s.tm.now + 1000000, xoOffset := none }
      fab.syncSince := s.fab.syncSince.map fun _ => s.tm.now, lanes.trigger := true }
    let s1 := if r = .bosc then s1.loseSync else s1
    let s2 := s1.clockEvent 1 (refCode s.clk.ref) (refCode (some r)) (refPort (some r)) detail measured stretch
    if r = .bosc ∧ s2.core = .running ∧ (inReplica s2 ∨ s2.op = .start ∧ 7 ≤ s2.pw.step) then s2.enterIsland else s2

/-- An orderly switch between running references at ratio 40. -/
def State.orderlySwitch (s : State) (r : Ref) (detail : Nat) : State :=
  ({ s with clk := { s.clk with ref := some r, orderly := sat32 (s.clk.orderly + 1), xoOffset := none } } : State).clockEvent
    2 (refCode s.clk.ref) (refCode (some r)) (refPort (some r)) detail 0 0

/-- The fabric reference follows R455: another port that qualifies in its place, else BOSC or nothing. The time
CORECLK is held, at most 8 µs, is a free value. -/
def State.followFabricRef (s : State) : State :=
  match s.clk.ref with
  | some (.fabric p) =>
    match usableRef s none with
    | some (.fabric q) => if q = p then s else s.orderlySwitch (.fabric q) 3
    | some .xo => s
    | r =>
      let (v, s1) := s.takeFree
      s1.forceSwitch r (if isUp s p then 3 else 1) 0 (v % 8001)
  | _ => s

/-- The reference in use is tripped: by the monitor itself, or charged with the PLL's or a derived clock's trip. -/
def State.tripRef (s : State) (detail : Nat) (measured : Int) (stretch : Nat) : State :=
  match s.clk.ref with
  | some .xo =>
    let s1 := { s with clk.xoStable := false, clk.xoTripped := true }
    s1.forceSwitch (usableRef s1 none) detail measured stretch
  | some (.fabric p) => s.forceSwitch (usableRef s (some p)) detail measured stretch
  | some .bosc =>
    let s1 := { s with clk.boscStable := false, clk.boscTripped := true, clk.boscRunning := false
                       clk.boscRetryAt := s.tm.now + 60000000 }
    s1.forceSwitch (usableRef s1 none) detail measured stretch
  | none => s

/-- XO against BOSC: the ratio lies outside 0.95 to 1.05 in the latest 3 consecutive windows (Table 16-2). -/
def ratioFault (windows : List (Nat × Nat)) : Bool :=
  let last := windows.drop (windows.length - 3)
  decide (last.length = 3) && last.all fun w => decide (100 * w.1 < 95 * w.2) || decide (105 * w.2 < 100 * w.1)

/-- Two UP ports whose recovered clocks agree with each other within 50 ppm, as XO's offsets from them in 0.1 ppm. -/
def agreeing (s : State) (offsets : List (Nat × Int)) : Option (Int × Int) :=
  let up := offsets.filter fun p => (upPorts s).contains p.1
  (up.flatMap fun a => (up.filter fun b => decide (a.1 < b.1) && decide ((a.2 - b.2).natAbs ≤ 500)).map fun b => (a.2, b.2)).head?

/-- XO against fabric: over 1 s it differs by more than 150 ppm from both (Table 16-2). -/
def fabricFault (s : State) (offsets : List (Nat × Int)) : Bool :=
  match agreeing s offsets with
  | some (a, b) => decide (1500 < a.natAbs) && decide (1500 < b.natAbs)
  | none => false

/-- XO's offset as R462 reports it: from the fabric reference in use, else from two qualifying ports. -/
def offsetOf (s : State) (offsets : List (Nat × Int)) : Option Int :=
  match s.clk.ref with
  | some (.fabric p) => ((offsets.find? fun x => x.1 == p).map (·.2)).or ((agreeing s offsets).map (·.1))
  | _ => (agreeing s offsets).map (·.1)

/-- XO's offset from BOSC in the latest window, 0.1 ppm. -/
def ratioOffset (windows : List (Nat × Nat)) : Int :=
  match windows.getLast? with
  | some (x, b) => if b = 0 then 0 else ((x : Int) - b) * 10000000 / b
  | none => 0

/-- What a monitor trip is charged to: an oscillator, or the reference in use. -/
inductive Charged where
  | xo | bosc | inUse
  deriving DecidableEq, Repr

/-- The trip a finding makes (Table 16-2) with the detail of R463 and the value measured. A ratio fault is charged to
the oscillator further from a recovered clock, and to BOSC where none is available (R454). -/
def tripOf (s : State) : ClockFinding → Option (Charged × Nat × Int)
  | .stop clock n =>
    if n < 2 then none
    else match clock, s.clk.ref with
      | 0, _ => some (.xo, 1, 0)
      | 1, some (.fabric _) => some (.inUse, 1, 0)
      | 2, _ => some (.bosc, 1, 0)
      | _, _ => none
  | .ratio windows xoOff boscOff =>
    if ratioFault windows && s.clk.xoStable && s.clk.boscStable then
      some (if !(clockPorts s).isEmpty && decide (boscOff.natAbs < xoOff.natAbs) then .xo else .bosc, 2, ratioOffset windows)
    else none
  | .fabric offsets => if fabricFault s offsets then some (.xo, 3, ((agreeing s offsets).map (·.1)).getD 0) else none
  | .unlock errors =>
    let last := errors.drop (errors.length - 8)
    if last.length = 8 ∧ last.all (fun e => decide (2000 < e)) then some (.inUse, 4, 0) else none
  | .derived n => if n < 2 then none else some (.inUse, 5, 0)

/-- The XO offset a finding measures. -/
def State.noteOffset (s : State) : ClockFinding → State
  | .fabric offsets => { s with clk.xoOffset := offsetOf s offsets }
  | _ => s

/-- CLOCK_MONITOR_TRIP: what the monitor finds, and for how long CORECLK was held if the reference is changed. A
finding within Table 16-2 trips nothing; an oscillator that is not stable has nothing to trip. -/
def execClockMonitorTrip (f : ClockFinding) (stretchNs : Nat) (s : State) : Out :=
  .next (
    if !s.pw.valid ∨ s.core = .clockless then s
    else
      let s0 := s.noteOffset f
      match tripOf s f with
      | none => s0
      | some (charged, detail, measured) =>
        let s1 := { s0 with clk.trips := sat32 (s.clk.trips + 1) }
        let trip := s1.tripRef detail measured stretchNs
        match charged with
        | .xo =>
          if !s.clk.xoStable then s0
          else if s.clk.ref = some .xo then trip
          else { s1 with clk.xoStable := false, clk.xoTripped := true }
        | .bosc =>
          if !s.clk.boscStable then s0
          else if s.clk.ref = some .bosc then trip
          else ({ s1 with clk.boscTripped := true } : State).failBosc detail measured
        | .inUse => if s.clk.ref.isSome then trip else s0)

/-! ## Retries (R451, R458) -/

/-- A started XO is usable again: its count, the ratio check where BOSC is stable, and on a fabric reference the fabric
comparison over the next 1 s. -/
def xoUsable (s : State) (runs windows : List (Nat × Nat)) (offsets : List (Nat × Int)) : Bool :=
  stableCount false runs && (!ratioFault windows || !s.clk.boscStable)
    && (decide (s.clk.ref = some .bosc) || !fabricFault s offsets)

/-- XO_RETRY: every 1 s while the reference is not XO, with what was counted and compared. -/
def execXoRetry (runs windows : List (Nat × Nat)) (offsets : List (Nat × Int)) (s : State) : Out :=
  .next (
    if !s.pw.valid ∨ s.clk.ref.isNone ∨ s.clk.ref = some .xo ∨ s.tm.now < s.clk.xoRetryAt then s
    else
      let s1 := { s with clk.xoRetryAt := s.tm.now + 1000000 }
      let onFabric := decide (s.clk.ref ≠ some .bosc)
      if xoUsable s runs windows offsets then
        let s2 := { s1 with clk.xoStable := true, clk.xoTripped := false, clk.xoRunning := true }
        if onFabric then s2.orderlySwitch .xo 6
        else
          let (v, s2) := s2.takeFree
          let s3 := s2.forceSwitch (some .xo) 6 0 (v % 8001)
          if s3.op = .island then s3.leaveIsland else s3
      else s1)

/-- BOSC_RETRY: every 60 s while BOSC has failed. -/
def execBoscRetry (runs : List (Nat × Nat)) (s : State) : Out :=
  .next (
    if !s.pw.valid ∨ s.core = .clockless ∨ s.clk.boscRunning ∨ s.clk.ref.isNone ∨ s.tm.now < s.clk.boscRetryAt then s
    else if stableCount true runs then
      ({ s with clk.boscRunning := true, clk.boscStable := true, clk.boscTripped := false } : State).clockEvent 5 0xFF 0xFF 0xFF 6 0 0
    else { s with clk.boscRetryAt := s.tm.now + 60000000 })

/-! ## WOSC (R460) -/

/-- WOSC_CHECK: WOSC measured against TICK, on an XO or fabric reference; ten good measurements clear a trip. -/
def execWoscCheck (khz : Nat) (s : State) : Out :=
  .next (
    if s.core ≠ .running ∨ s.clk.ref = some .bosc ∨ s.clk.ref.isNone then s
    else
      let s1 := { s with clk.woscKhz := sat16 khz }
      if khz < 500 ∨ 1500 < khz then
        if s.clk.woscTripped then { s1 with clk.woscGood := 0 }
        else ({ s1 with clk.woscTripped := true, clk.woscGood := 0, clk.trips := sat32 (s.clk.trips + 1) } : State).clockEvent
          4 0xFF 0xFF 0xFF 3 khz 0
      else if !s.clk.woscTripped then s1
      else if s.clk.woscGood + 1 < 10 then { s1 with clk.woscGood := s.clk.woscGood + 1 }
      else ({ s1 with clk.woscTripped := false, clk.woscGood := 0 } : State).clockEvent 5 0xFF 0xFF 0xFF 6 khz 0)

end Sys2Proof.Machine
end

