-- ==== Sys2Proof/Machine/Power.lean ====
section
/-! DEFINITION. Supplies, power-fail, start-up from step 4 and core restarts (chapter 17), with what each start
writes and publishes first. -/

namespace Sys2Proof.Machine

/-! ## Supplies (R464 to R466) -/

/-- Table 17-1. -/
def supplyClass (mv : Int) : Nat :=
  if 18000 ≤ mv ∧ mv ≤ 32000 then 0 else if 32000 < mv then 3 else if 10000 ≤ mv then 1 else 2

/-- SUPPLY_EVENT (R485). -/
def State.supplyEvent (s : State) (input new old : Nat) (mv : Int) : State :=
  s.logEvent 0x0003 0xC0F9 (le 1 input ++ le 1 new ++ le 1 old ++ zeros 1 ++ leInt 4 mv)

/-- SUPPLY_EVENT: input 1 or 2 has lain in one range for a time: 10 ms without a break, or 100 ms for NORMAL, make it
the input's state. Beyond Table 22-1's limits, 40 V for a pulse and −36 V,
the node's behaviour is not decided (R556). -/
def execSupplyEvent (input : Nat) (mv : Int) (heldMs : Nat) (s : State) : Out :=
  if 40000 < mv ∨ mv < -36000 then .fault .absoluteMaximum
  else .next (
    if input ≠ 1 ∧ input ≠ 2 then s
    else
      let cls := supplyClass mv
      let new := if (if cls = 0 then 100 else 10) ≤ heldMs then cls else if input = 1 then s.pw.sup1 else s.pw.sup2
      let old := if input = 1 then s.pw.sup1 else s.pw.sup2
      let p := if input = 1 then { s.pw with sup1 := new, mv1 := mv } else { s.pw with sup2 := new, mv2 := mv }
      let s1 := { s with pw := { p with mvOr := (max 0 (max p.mv1 p.mv2)).toNat } }
      if new = old ∨ s.core ≠ .running then s1
      else (s1.supplyEvent input new old mv).diagnostic (0x000F + input) new)

/-- SUPPLY_WARNING: the ORed supply has been 10 ms in 16.0 to below 18.0 V, or 100 ms at or above 18.0 V. -/
def execSupplyWarning (mv heldMs : Nat) (s : State) : Out :=
  .next (
    if s.core ≠ .running ∨ s.pw.failing then s
    else if 10 ≤ heldMs ∧ !s.pw.warning ∧ 16000 ≤ mv ∧ mv < 18000 then
      ({ s with pw.warning := true, pw.mvOr := mv } : State).supplyEvent 3 1 0 mv
    else if 100 ≤ heldMs ∧ s.pw.warning ∧ 18000 ≤ mv then
      ({ s with pw.warning := false, pw.mvOr := mv } : State).supplyEvent 3 0 1 mv
    else s)

/-! ## Power-fail (R469 to R471) -/

/-- Body of POWER_DOWN. -/
def powerDownBody (s : State) (cause trigger : Nat) : Bytes :=
  le 4 (epochField s) ++ le 1 cause ++ le 1 trigger ++ le 2 (sat16 (s.pw.mvOr / 10)) ++ le 1 s.pw.sup1 ++ le 1 s.pw.sup2
    ++ le 1 (if railsNow s = 0 then 0 else 1)

/-- Steps of Table 17-4: everything stops, POWER_DOWN goes ahead of the write queue, the departing seal, the times,
then what waits and what is staged; at the end the core is held in reset. What was placed on the fabric rings
leaves. -/
def State.powerFail (s : State) (slope : Bool) : State :=
  let down := mkRec s 0x0002 (powerDownBody s 1 (if slope then 2 else 1))
  let s1 := ({ s with pw.failing := true } : State).disarmAll 7
  let s2 := s1.dropRelays.dischargeDisplay
  let kept := s2.rcd.freeze
  let s3 := ({ s2 with rcd.freeze := none } : State).commitRec down
  let s4 := s3.departingSeal.persistTime.commitAll fun _ x => x
  let s5 := (({ s4 with rcd.freeze := kept } : State).thaw 4)
  let s6 := s5.dropCore
  { s6 with fab.out := s5.fab.out, pw.step := 0 }

/-- The oscillators stop with the supply. -/
def State.oscillatorsOff (s : State) : State :=
  { s with
    clk := { s.clk with xoRunning := false, xoStable := false, boscRunning := false, boscStable := false, wosc := false }
    pw := { s.pw with valid := false, failing := false, step := 0 } }

/-- SUPPLY_LOSS: the ORed supply below 16.0 V, or a fall of more than 1.0 V within 0.5 ms. Where one sample shows both,
the record's trigger is the level (log entry 102, DESIGN CHOICE). -/
def execSupplyLoss (mv fallMv : Nat) (s : State) : Out :=
  .next (
    if !s.pw.valid ∨ s.pw.failing ∨ fallMv ≤ 1000 ∧ 16000 ≤ mv then s
    else
      let slope := decide (16000 ≤ mv)
      let s1 := { s with pw.mvOr := mv }
      if s.core = .running ∧ s.rcd.isOpen then s1.powerFail slope
      else if s.core = .clockless then s1.oscillatorsOff
      else if s.pw.step = 4 then { s1 with pw := { s1.pw with failing := true, step := 0 } }
      else s1.dropClocks.oscillatorsOff)

/-- SUPPLY_RESTART: 100 ms at or above 18.0 V after the sequence; from step 4 with the clocks still running. -/
def execSupplyRestart (mv heldMs : Nat) (s : State) : Out :=
  .next (
    if s.pw.failing ∧ s.core = .held ∧ 18000 ≤ mv ∧ 100 ≤ heldMs then
      { s with
        op := .start, tm.cycleStart := s.tm.now
        pw := { s.pw with failing := false, heldStart := false, warning := false, mvOr := mv, step := 4, stepTime := s.tm.now, upCause := 2 } }
    else s)

/-- The isolated supplies of the banks are gone: nothing is left of latches, hold timers and readings, and output channels
carry 0 mA until the first evaluated epoch after the next power-up (R346). -/
def State.banksOff (s : State) : State :=
  { s with
    ana.banks := s.ana.banks.map fun (_ : BankState) => {}
    ana.loops := s.ana.loops.map fun (l : Loop) =>
      { l with setpoint := 0, latched := 0, failing := false, supply := 24, current := 0, vt := 0, power := 0, compliance := false
               thermal := false, refused := false, hotSince := none, coolSince := none, badSince := none, goodSince := none } }

/-- HOLD_UP_SPENT: the energy is gone, after the sequence or with the clocks already stopped; the isolated supplies of the banks
go with it. -/
def execHoldUpSpent (s : State) : Out :=
  .next (
    if s.pw.failing ∧ s.core = .held ∨ !s.pw.valid ∧ !s.pw.holdupSpent then
      { s.dropClocks.oscillatorsOff.banksOff with pw.holdupSpent := true }
    else s)

/-! ## Core restarts (R481, R482) -/


/-- A core restart: what R481 resets, and its cause. A firmware activation is not counted. -/
def State.coreRestart (s : State) (cause : Nat) : State :=
  let staged := (s.rcd.freeze.map fun f => f.staged.length).getD 0
  let counted := recentRestarts s ++ (if cause = 5 then [] else [s.tm.op])
  let s1 := s.dropCore
  { s1 with
    rcd.stagedLost := staged, tm.cycleStart := s.tm.now
    pw := { s1.pw with step := 4, stepTime := s.tm.now, upCause := 3, restartCause := cause, restarts := counted } }

def execWatchdogTimeout (s : State) : Out :=
  .next (if s.core = .running ∧ !s.pw.failing then s.coreRestart 1 else s)

def execUncontainedInternalFault (s : State) : Out :=
  .next (if s.core = .running ∧ !s.pw.failing then s.coreRestart 3 else s)

/-- STOPPING_TIMEOUT: 600 s after the completion of NODE.PREPARE_OFF (R474). -/
def execStoppingTimeout (s : State) : Out :=
  .next (match s.pw.prepareOff with
    | some (_, _, _, 3) =>
      if s.core = .running ∧ s.op = .stopping ∧ s.pw.stopAt ≤ s.tm.now then s.coreRestart 4 else s
    | _ => s)

/-- What stands in a part of DRAM (Table 01-4). -/
inductive DramBlock where
  | descriptors | dynamic | graph | shadow | inputSlots | ringBuffers | frameStore | working | snapshotBanks | unused
  deriving DecidableEq, Repr

/-- The parts of DRAM in address order, each with the address after its last (R18). -/
def dramMap : List (Nat × DramBlock) :=
  [(0x02000000, .descriptors), (0x03000000, .dynamic), (0x04000000, .graph), (0x08000000, .shadow), (0x0A000000, .inputSlots),
   (0x0E000000, .ringBuffers), (0x0F000000, .frameStore), (0x10000000, .working), (0x10200000, .snapshotBanks), (0x20000000, .unused)]

/-- The part an address lies in; none beyond the 512 MB. -/
def dramBlock (a : Nat) : Option DramBlock := (dramMap.find? fun p => decide (a < p.1)).map (·.2)

/-- Location code of R20: 1 the active tag store (descriptors, dynamic state and graph), 2 the shadow tag store, 3
elsewhere. -/
def dramLocation : DramBlock → Nat
  | .descriptors | .dynamic | .graph => 1
  | .shadow => 2
  | _ => 3

/-- DRAM_UNCORRECTABLE at an address (R18 to R20). The record is committed first. In a tag store a member withdraws,
gives up a transfer that runs into the shadow store and requests a new one. -/
def execDramUncorrectable (address : Word) (s : State) : Out :=
  .next (
    match dramBlock address.toNat with
    | none => s
    | some b =>
      if s.core ≠ .running ∨ s.pw.failing then s
      else
        let location := dramLocation b
        let action := if location = 3 then 2 else 1
        let s1 := { s with pw.dramUncorrected := s.pw.dramUncorrected + 1 }
        let s2 := s1.commitRec (mkRec s1 0x0021 (le 4 (epochField s) ++ le 1 location ++ le 1 action ++ zeros 2 ++ le 4 address.toNat))
        if location = 3 then s2.coreRestart 2
        else
          let s3 := s2.abandon 4
          if s3.repl.member ∧ inReplica s3 then s3.startReseed 4 else s3)

/-- DRAM_SCRUB: single-bit errors corrected by a scrub. -/
def execDramScrub (corrected : Nat) (s : State) : Out :=
  .next (if s.core = .running then { s with pw.dramCorrected := sat32 (s.pw.dramCorrected + corrected) } else s)

/-! ## Start-up of the core (Table 17-5, steps 4 to 6) -/

/-- START_FAILED (R475). -/
def State.startFailed (s : State) (step reason : Nat) : State :=
  s.log 0x0005 (le 1 step ++ le 1 reason ++ zeros 2 ++ le 4 (sat32 (msSince s s.tm.now)))

/-- Operating time after an interruption of the supply (R410). -/
def resumedOp (s : State) : Nat :=
  match persistedCopy s with
  | some c => c.1 + 10000
  | none =>
    match newestBytes s with
    | some (_, b) => leNat (sub b 4 6) + 10000
    | none => 0

/-- An intent slot left set is undone: the old data and parity words are written back (R423). -/
def Recorder.undo (r : Recorder) : Recorder :=
  match r.intent with
  | some (st, w, data, parity) =>
    { ((r.setDieWord (wordDie (4 * st + w)) st data.toNat).setDieWord (parityDie (4 * st)) st parity.toNat) with intent := none }
  | none => r

/-- The recorder is opened (R423), after the dies that do not answer are found. -/
def State.openRecorder (s : State) : State :=
  let op := if s.pw.upCause = 3 then s.tm.op else resumedOp s
  let s1 := { s with core := .running, op := .start, tm.op := op, tm.opSub := 0, tm.powerCount := (s.tm.powerCount + 1) % 0x100000000 }
  -- in WITNESS-ONLY nothing more is written to the dies (R425)
  let areas : List AreaId := if s1.rcd.witnessOnly then [.gasp] else [.own, .wit 0, .wit 1, .gasp]
  let rcd := areas.foldl (fun (r : Recorder) i => r.openArea i s1.tm.powerCount) (if s1.rcd.witnessOnly then s1.rcd else s1.rcd.undo)
  ({ s1 with rcd := { rcd with isOpen := true } } : State).persistTime

def popCount5 (b : BitVec 5) (keep : List Bool) : Nat :=
  (List.range 5).countP fun d => b.toNat.testBit d && !(nth keep d)

/-- POWER_UP. -/
def State.powerUp (s : State) (r : StartReport) : State :=
  s.log 0x0001 (le 1 s.pw.upCause ++ le 1 (refCode s.clk.ref) ++ le 1 (s.lanes.inService &&& r.lanesPass).toNat
    ++ le 1 (popCount5 r.diesAnswer s.rcd.lost) ++ leInt 2 (s.pw.mv1 / 10) ++ leInt 2 (s.pw.mv2 / 10) ++ le 4 s.cfg.fwRelease)

/-- The restart is the fourth or later in 3,600 s (R482). -/
def restartHeld (s : State) : Bool :=
  decide (s.pw.upCause = 3) && decide (s.pw.restartCause ≠ 5) && decide (4 ≤ s.pw.restarts.length)

/-- The records of R423, R452 and R451 that a start writes before anything else. -/
def State.firstRecords (s : State) (r : StartReport) (undone : Bool) : State :=
  let s1 := s.powerUp r
  let s2 := if undone ∨ s.rcd.stagedLost ≠ 0 then
      ({ s1 with rcd.stagedLost := 0 } : State).log 0x0407 (le 1 (if undone then 1 else 0) ++ zeros 7 ++ le 4 s.rcd.stagedLost)
    else s1
  let s3 := if s.pw.upCause = 3 then
      s2.log 0x0007 (le 1 s.pw.restartCause ++ le 1 (min 255 s.pw.restarts.length) ++ le 1 (if restartHeld s then 1 else 0))
    else s2
  let s3 := s3.anchor
  let (w, cause, tries, xo, op) := s.clk.holdEntry
  let s4 := if w = 0xFFFE0001 then
      ({ s3 with clk.holdEntry := (0xFFFF0000, cause, tries, xo, op) } : State).log 0x0321
        (le 1 cause ++ le 1 tries ++ le 1 xo ++ zeros 1 ++ le 6 op)
    else s3
  if s.pw.upCause = 1 ∧ s.clk.boscAttempt = 5 ∧ !s.clk.boscRunning then s4.clockEvent 3 0xFF 0xFF 0xFF 7 0 0 else s4

/-- The hold-up test (R472) and its measurements. The display configuration is judged by the image of the active bank. -/
def State.holdUpTest (s : State) (r : StartReport) : State :=
  -- the external hold-up is tested when HU+ holds more than 5 V
  let r := if 5000 < r.huMv then r else { r with extUf := 0, extEsr := 0, extMj := 0 }
  let bad (b : Bool) (n : Nat) : Nat := if b then n else 0
  let large := decide (dispConfig { s with cfg.loaded := true } = 2)
  let v := bad (decide (r.intHold < 100)) 1 + bad (large && decide (r.extMj < 1000)) 2
  let s1 := ({ s with pw := { s.pw with holdup := v, holdupTest := [r.intUf, r.intEsr, r.intHold, r.extUf, r.extEsr, r.extMj] } } : State).log
    0x0004 (le 4 r.intUf ++ le 2 r.intEsr ++ le 2 r.intHold ++ le 4 r.extUf ++ le 2 r.extEsr ++ le 4 r.extMj ++ le 1 v)
  let s2 := (s1.measure 12 0xFF (F32.div (F32.ofInt r.intHold) (F32.ofInt 10))).measure 13 0xFF (F32.ofInt r.intEsr)
  if r.extUf = 0 then s2 else s2.measure 14 0xFF (F32.ofInt r.extMj)

/-- Selector words whose halves are not complements are rewritten: each region's VERIFIED copy with the higher
generation (R505). -/
def State.repairSelectors (s : State) : State :=
  let word (w i : Nat) : Nat :=
    let bits := (List.range 16).map fun k =>
      let a := dirEntry s 0 (16 * i + k)
      let b := dirEntry s 1 (16 * i + k)
      decide (b.state = 2) && (decide (a.state ≠ 2) || decide (a.gen < b.gen))
    if w % 65536 + w / 65536 = 65535 then w else flagBits bits + 65536 * (65535 - flagBits bits)
  { s with cfg.selector := s.cfg.selector.zipIdx.map fun (p : Word × Nat) => BitVec.ofNat 32 (word p.1.toNat p.2) }

/-- The mask ROM accepts a firmware copy (R523). -/
def firmwareGood (s : State) (bank : Nat) : Bool :=
  let d := dirEntry s bank 88
  d.state == 2 && Config.signatureValid (Memory.window (nth s.cfg.flash bank) (regionBase 88) d.length) d.length (nth s.cfg.fwSigs bank)

/-- A firmware load: the active copy, else the other with the selector switched, else the mask ROM release, whose
number is 0 (log entry 22, DESIGN CHOICE). -/
def State.loadFirmware (s : State) : State :=
  let b := selected s 88
  let (rel, src, fall) :=
    if firmwareGood s b then ((dirEntry s b 88).version, b, 0)
    else if firmwareGood s (1 - b) then ((dirEntry s (1 - b) 88).version, 1 - b, 1)
    else (0, 2, 0)
  let c := if fall = 1 then s.cfg.flip 88 else s.cfg
  ({ s with cfg := { c with fwRelease := rel, fwSource := src, fwPrev := s.cfg.fwRelease } } : State).log 0x0504
    (le 4 rel ++ le 1 src ++ le 1 fall ++ zeros 2 ++ le 4 s.cfg.fwRelease)

/-- The fuses are read at every start, and a difference of their copies is written (R80). -/
def State.readFuses (s : State) : State :=
  let s1 := s.deriveAuthority
  if mismatchMask s1 = 0 ∧ !identMismatch s1 then s1 else
    s1.log 0x0523 (le 4 (epochField s1) ++ le 1 (mismatchMask s1) ++ le 1 (if identMismatch s1 then 1 else 0))

/-- UNSEALED (R80): a power-up counts as completed once step 4 has passed, before the image is judged (log entry 84,
DESIGN CHOICE). -/
def State.unsealedRecord (s : State) : State :=
  if s.sec.sealed then s else s.log 0x0522 (le 4 (epochField s) ++ le 1 (sealBits s))

/-- The forces a restart ended write their end (R370, R396). -/
def State.endForces (s : State) : State :=
  let s1 := (List.range 32).foldl (fun (acc : State) c => acc.endLoopForce c 4) s
  (List.range 48).foldl (fun (acc : State) i => match (cell acc (i + 1)).forced with
    | some (b, _, d) => (acc.setCell (i + 1) fun c => { c with forced := none }).cellEvent 15 (i + 1) 4 d (if b then 1 else 0)
    | none => acc) s1

/-- The field side begins: conversions, instruments, and the qualities of what has no measurement yet. -/
def State.startField (s : State) : State :=
  let s1 := (List.range 32).foldl (fun (acc : State) c => if (chanCfg acc c).mode = 0 then acc.releaseSlice c else acc.assignSlice c) s
  let s2 := (List.range 32).foldl (fun (acc : State) c =>
    let a := ((acc.startSchedules c).startConversion c).assignInstruments c
    if (chanCfg a c).mode = 0 ∨ (chan a c).retired ≠ 0 then a.publishBad c qChannel else a) s1
  s2.publishNoDio

/-- The node's own diagnostics, published once from the start (R389, R466, R489). -/
def State.startDiagnostics (s : State) : State :=
  let s1 := ((s.diagnostic 0x0010 s.pw.sup1).diagnostic 0x0011 s.pw.sup2).diagnostic 0x0012 s.pw.holdup
  let s2 := (List.range 16).foldl (fun (acc : State) i => acc.diagnostic (0x0401 + i) (ledgerEntry acc (i + 1)).state) s1
  let s3 := (List.range 32).foldl (fun (acc : State) c =>
    acc.diagnostic (0x0100 + c) 0) s2
  let s4 := (List.range 48).foldl (fun (acc : State) i =>
    (acc.setCell (i + 1) fun c => { c with shown := faultValue c }).diagnostic (0x0201 + i) (faultValue (cell acc (i + 1)))) s3
  ((s4.diagnostic 0x0240 (fsOf s4 1).state).diagnostic 0x0241 (fsOf s4 48).state).showPanels

/-- Step 5 with a valid image, then step 6; the join steps follow (step 7). On BOSC the node goes to ISLAND. -/
def State.runImage (s : State) : State :=
  let prof := (Profile.ofCode (nodeEntry s s.node).profile).getD .standard
  let lanes : Lanes := { s.lanes with profile := prof, running := prof, next := none, trigger := false, clean := 0 }
  let s1 : State := { s with lanes := lanes }
  let s2 : State := (s1.startField.startDiagnostics.judgeHoldUp (decide (s.pw.upCause ≠ 3))).judgePorts
  let founding : Founding := { s2.repl.founding with quietSince := s.tm.now }
  let repl : Repl := { s2.repl with founding := founding, searchDue := s.tm.now, retryAt := s.tm.now }
  let pw : Power := { s2.pw with step := 7, stepTime := s.tm.now }
  let s3 : State := { s2 with pw := pw, repl := repl }
  if s3.clk.ref = some .bosc then s3.enterIsland else s3

/-- Lanes that fail the self-test are retired (R177, R178): one or two at the next boundary, all three at once. -/
def State.startLanes (s : State) (fail : Nat) : State :=
  if fail &&& laneMask s = laneMask s then
    let s1 := { s with lanes.inService := 0 }
    let s2 := (lanesOf (laneMask s)).foldl (fun (acc : State) l => acc.logNotify 0x0031
      (le 4 (epochField acc) ++ le 1 l ++ le 1 2 ++ le 1 0 ++ zeros 1 ++ chargeBytes acc l) 0xC0F2 (laneEvent acc 3 (2 ^ l))) s1
    s2.startFailed 4 1
  else (lanesOf (fail &&& laneMask s)).foldl (fun (acc : State) l => acc.retireNext l 2 (epochField acc)) s

/-- CORE_START_UP: the released core runs step 4 with the results reported, and goes on to steps 5 and 6. A core restart
runs the lane self-test and reopens the recorder only (R481). The fuses are read whatever the tests find (R80). -/
def execCoreStartUp (r : StartReport) (s : State) : Out :=
  .next (
    if s.core ≠ .held ∨ s.pw.step ≠ 4 ∨ !s.clk.pllLocked ∨ s.pw.failing then s
    else
      let fail := 7 - r.lanesPass.toNat
      let s1 := (s.openRecorder).firstRecords r s.rcd.intent.isSome
      let again := decide (s.pw.upCause = 3)
      let s1 := (List.range 5).foldl (fun (acc : State) d => if r.diesAnswer.toNat.testBit d then acc else acc.loseDie d 1) s1
      let s2 := (if again then s1 else s1.holdUpTest r).readFuses.endForces
      if restartHeld s then { s2 with pw.heldStart := true, cfg.loaded := false }
      else
        let s3 := s2.startLanes fail
        if laneMask s3 = 0 then { s3 with cfg.loaded := false }
        else if s.pw.upCause ≠ 3 ∧ !r.dramPass then ({ s3 with cfg.loaded := false } : State).startFailed 4 2
        else
          let s4 := ({ (s3.repairSelectors) with cfg.loaded := true } : State)
          let s6 := ((s4.unsealedRecord.openLedger (!again)).loadFirmware).restartDisplay
          if hasImage s6 then s6.runImage
          else ({ s6 with pw := { s6.pw with step := 5, stepTime := s.tm.now } } : State).judgePorts.startFailed 5 3)

/-- START_MEMBERSHIP_TIMEOUT: 60 s after step 6 the node is not yet a member; it keeps trying. -/
def execStartMembershipTimeout (s : State) : Out :=
  .next (
    if s.core = .running ∧ s.op = .start ∧ s.pw.step = 7 ∧ !s.repl.member ∧ hasImage s ∧ !s.pw.startFailedWritten
        ∧ s.pw.stepTime + 60000000 ≤ s.tm.now then
      ({ s with pw.startFailedWritten := true } : State).startFailed 7 4
    else s)

end Sys2Proof.Machine
end

