-- ==== Sys2Proof/Machine/CfgChecks.lean ====
section
/-! DEFINITION. What a commit is checked for (R514): the rules of each region's content and the resource claims. A
check answers the detail of the first breach. -/

namespace Sys2Proof.Machine

/-- Offset of the first field in breach. -/
def firstBad (l : List (Nat × Bool)) : Option Nat := (l.find? fun p => !p.2).map (·.1)

/-- Offset of the first byte of a stretch that is not zero. -/
def firstNonZero (b : Bytes) (off n : Nat) : Option Nat := ((List.range n).find? fun i => u8 b (off + i) != 0).map (off + ·)

/-- Offset of the first field from `lo` on that holds a byte other than zero, of the fields that start at the offsets given in
ascending order. -/
def nonZeroField (fields : List Nat) (b : Bytes) (lo n : Nat) : Option Nat :=
  (firstNonZero b lo n).map fun i => (fields.filter (· ≤ i)).getLastD 0

def within (lo x hi : Nat) : Bool := decide (lo ≤ x ∧ x ≤ hi)

/-! ## Tag regions (R96, Tables 04-2, 04-3 and 05-4) -/

/-- A kind of condition is allowed for a tag type (Table 04-1). -/
def kindAllowed (type kind : Nat) : Bool :=
  if type = 1 then within 1 kind 9 else kind == 9 || within 0x0A kind 0x0D

/-- A condition entry. -/
def condOk (type : Nat) (b : Bytes) : Bool :=
  let k := u8 b 0
  let p := u8 b 1
  if k = 0 then allZero b 0 6
  else kindAllowed type k && within 1 (p % 8) 4 && decide (p < 16) && !(p % 8 == 4 && p.testBit 3)

/-- A limit that a condition kind uses is sound. -/
def limitOk (b : Bytes) (k : Nat) : Bool :=
  let positive (x : Word) : Bool := F32.finite x && F32.lt 0 x
  if within 1 k 4 then F32.finite (word32 b (16 + 4 * (k - 1)))
  else if k = 5 ∨ k = 6 then positive (word32 b 44)
  else if k = 7 ∨ k = 8 then positive (word32 b 48)
  else true

/-- Fields of the first-out part (Table 05-4). -/
def firstOutOk (b : Bytes) : Bool :=
  let t := u16 b 106
  let w := u16 b 108
  decide (u8 b 104 < 2) && allZero b 105 1 && (t == 0 || decide (2 ≤ t)) && (if t = 0 then w == 0 else within 1 w 16383)
    && allZero b 110 2 && allZero b 112 8

/-- Source kind and reference lie within Table 04-2: the bits that the chapter of the kind gives as zero are zero (R303, R363,
R378); the chapters give no zero bits for kinds 0 and 4. -/
def srcRefOk (kind ref : Nat) : Bool :=
  match kind with
  | 1 => decide (ref < 32)
  | 2 => within 1 ref 48
  | 3 => decide (ref < 4)
  | k => k == 0 || k == 4

/-- A descriptor of 128 bytes passes R96. -/
def descOk (b : Bytes) : Bool :=
  let type := u8 b 4
  let kinds := ((List.range 8).map fun i => u8 b (56 + 6 * i)).filter (· != 0)
  let rates := kinds.any fun k => k == 7 || k == 8
  let win := u16 b 52
  u32 b 124 == crc32c (sub b 0 124)
    && (if type = 0 then allZero b 0 124
      else decide (type ≤ 3) && decide (u32 b 0 < 0x40000) && srcRefOk (u8 b 5) (u16 b 6) && decide (u16 b 8 ≤ 4095)
        && decide (u16 b 10 < 2) && decide (u8 b 14 ≤ 6) && allZero b 15 1 && (type == 1 || allZero b 24 8)
        && F32.le 0 (word32 b 32) && (decide (u32 b 36 < 0x40000) || u32 b 36 == 0xFFFFFFFF)
        && (if rates then within 1 win 1000 else win == 0) && decide (u16 b 54 ≤ 1440)
        && ((List.range 8).all fun i => condOk type (sub b (56 + 6 * i) 6)) && decide kinds.Nodup
        && kinds.all (limitOk b) && firstOutOk b)

/-- First tag of a tag region in breach. -/
def tagRegionBad (m : Memory) (r : Nat) : Option Nat :=
  ((List.range 4096).find? fun i => !descOk (m.readBytes (128 * i) 128)).map (4096 * (r - 2) + ·)

/-! ## Suppression regions (R140, R145, Table 05-2) -/

/-- A used edge of 16 bytes after one whose target was `last`. -/
def edgeOk (b : Bytes) (region last : Nat) : Bool :=
  let src := u32 b 0
  let t := u32 b 4
  let k := u8 b 8
  let f := u8 b 9
  let mask := u16 b 12
  within 1 k 3 && decide (src < 0x200000) && (k == 1 || decide (src < 0x40000)) && (k != 3 || decide (src < 4096))
    && decide (t < 0x40000) && decide (t / 16384 = region) && decide (last ≤ t) && !(k != 3 && src % 0x40000 == t)
    && decide (f < 4) && (k == 2 || !f.testBit 1) && decide (u16 b 10 ≠ 0xFFFF)
    && (if k = 1 then mask == 0 else if k = 3 then mask != 0 && mask % 2 == 0 && decide (mask < 32) else true)
    && allZero b 14 2

/-- Look through the edges from index `i`; `free` once an unused one has been met. -/
def edgeScan (m : Memory) (region : Nat) : Nat → Nat → Nat → Bool → Option Nat
  | 0, _, _, _ => none
  | fuel + 1, i, last, free =>
    let b := m.readBytes (16 * i) 16
    if u8 b 8 = 0 then (if allZero b 0 16 then edgeScan m region fuel (i + 1) last true else some i)
    else if free || !edgeOk b region last then some i
    else edgeScan m region fuel (i + 1) (u32 b 4) false

def edgeRegionBad (m : Memory) (r : Nat) : Option Nat :=
  (edgeScan m (r - 66) 65536 0 0 false).map (65536 * (r - 66) + ·)

/-! ## Call region (R509, Tables 07-1 and 19-4) -/

def areaFields (b : Bytes) (a : Nat) : List (Nat × Bool) :=
  let o := 48 + 16 * a
  let on := u8 b o == 1
  [(o, decide (u8 b o ≤ 1)), (o + 1, allZero b (o + 1) 1), (o + 2, decide (u8 b (o + 2) ≤ 1)),
   (o + 3, decide (u8 b (o + 3) < if u8 b (o + 2) = 0 then 64 else 32)), (o + 4, !on || u16 b (o + 4) != 0),
   (o + 8, allZero b (o + 8) 8)]

def stationFields (b : Bytes) (n : Nat) : List (Nat × Bool) :=
  let o := 304 + 16 * n
  let p := u16 b (o + 4)
  let w := u16 b (o + 6)
  [(o, decide (u16 b o < 4096)), (o + 2, decide (u8 b (o + 2) ≤ 2)), (o + 3, allZero b (o + 3) 1),
   (o + 4, p == 0 || decide (100 ≤ p)), (o + 6, if p = 0 then w == 0 else within 1 w (p - 1)),
   (o + 8, decide (u32 b (o + 8) < 0x40000) || u32 b (o + 8) == 0xFFFFFFFF), (o + 12, allZero b (o + 12) 4)]

def callHead (b : Bytes) : List (Nat × Bool) :=
  let n := u8 b 4
  let caller (i : Nat) : Nat × Bool :=
    (8 + 2 * i, if i < n then decide (u16 b (8 + 2 * i) < 4096) else u16 b (8 + 2 * i) == 0)
  let relay (o : Nat) : List (Nat × Bool) := [(o + 2, u8 b (o + 2) == 2 || u8 b (o + 2) == 3), (o + 3, allZero b (o + 3) 1)]
  [(0, within 100 (u32 b 0) 60000), (4, within 1 n 16), (5, allZero b 5 3)] ++ (List.range 16).map caller ++ relay 40 ++ relay 44

def callRegionBad (m : Memory) : Option Nat :=
  let b := m.readBytes 0 5680
  let engineer (e : Nat) : List (Nat × Bool) :=
    [(1328 + 8 * e, decide (u8 b (1328 + 8 * e) < 64)), (1329 + 8 * e, allZero b (1329 + 8 * e) 3)]
  let group (g : Nat) : Nat × Bool := (1584 + g, decide (u8 b (1584 + g) < 16) || u8 b (1584 + g) == 0xFF)
  firstBad (callHead b ++ (List.range 16).flatMap (areaFields b) ++ (List.range 64).flatMap (stationFields b)
    ++ (List.range 32).flatMap engineer ++ (List.range 4096).map group)

/-! ## System region (R508, Table 19-3) -/

/-- An IPv4 field of an entry as a number, little-endian (R5). -/
def ipv4 (b : Bytes) (off : Nat) : Nat := u32 b off

/-- A mask is contiguous. -/
def maskOk (m : Nat) : Bool := (0xFFFFFFFF - m) &&& (0x100000000 - m) == 0

/-- The host address fields from an offset. -/
def hostFields (b : Bytes) (o : Nat) : List (Nat × Bool) :=
  let a := ipv4 b o
  let m := ipv4 b (o + 4)
  let g := ipv4 b (o + 8)
  [(o + 4, maskOk m), (o + 8, g == 0 || (g &&& m) == (a &&& m))]

/-- Fields of node n's entry that Table 19-3 bounds by themselves. -/
def nodeFields (b : Bytes) (len n : Nat) : List (Nat × Bool) :=
  let role := u8 b 1
  let next2 := u16 b 6
  [(0, u8 b 0 == 1), (1, decide (role ≤ 2)), (2, (Profile.ofCode (u8 b 2)).any fun p => p.accepts len), (3, allZero b 3 1),
   (4, decide (u16 b 4 < 4096) && segOf (u16 b 4) == segOf n),
   (6, if role = 0 then next2 == 0xFFFF else decide (next2 < 4096) && segOf next2 != segOf n),
   (8, decide (u16 b 4 ≠ n) || u16 b 8 == 0), (10, role != 0 || u16 b 10 == 0), (12, u16 b 12 != 0), (14, decide (u8 b 14 ≤ 1)),
   (15, decide (u8 b 15 ≤ 1))] ++ hostFields b 16 ++ hostFields b 28 ++ [(40, allZero b 40 24)]

/-- Entry of a node in a system region's content. -/
def nodeBytes (m : Memory) (n : Nat) : Bytes := m.readBytes (16 + 64 * n) 64

/-- The nodes a system region's content uses. -/
def contentNodes (m : Memory) : List Nat := usedOf m

/-- A status with its detail. -/
abbrev Breach := Nat × Bytes

def nodeBreach (n off : Nat) : Breach := (Status.nodeTableInvalid, le 2 n ++ le 1 off ++ zeros 1)

/-- Rules of the rings: nodes met from the lowest of a set, following `next`, are exactly the set. -/
def ringCloses (next : Nat → Nat) (members : List Nat) : Bool :=
  match members with
  | [] => true
  | first :: _ =>
    let walk := (List.range (members.length - 1)).foldl (fun (acc : List Nat × Nat) _ => (acc.1 ++ [next acc.2], next acc.2)) ([first], first)
    decide walk.1.Nodup && walk.1.all members.contains && next walk.2 == first

/-- The first claim that two partners make (R517): a fabric port, kind 4, or a host address, kind 3. -/
def systemClaims (m : Memory) : Option Breach :=
  let used := contentNodes m
  let conflict (kind port idx : Nat) : Breach := (Status.resourceConflict, le 1 kind ++ le 1 port ++ le 2 idx)
  let step (acc : List Nat × List Nat × List Nat × Option Breach) (n : Nat) : List Nat × List Nat × List Nat × Option Breach :=
    let b := nodeBytes m n
    let (f0, f2, ips, bad) := acc
    let bad := bad.orElse fun _ => if f0.contains (u16 b 4) then some (conflict 4 1 (u16 b 4)) else none
    let bad := bad.orElse fun _ => if u8 b 1 ≠ 0 ∧ f2.contains (u16 b 6) then some (conflict 4 3 (u16 b 6)) else none
    let a := ipv4 b 16
    let c := ipv4 b 28
    let bad := bad.orElse fun _ => if a ≠ 0 ∧ ips.contains a then some (conflict 3 0 n) else none
    let bad := bad.orElse fun _ => if c ≠ 0 ∧ (c == a || ips.contains c) then some (conflict 3 1 n) else none
    (u16 b 4 :: f0, if u8 b 1 = 0 then f2 else u16 b 6 :: f2, [a, c] ++ ips, bad)
  (used.foldl step ([], [], [], none)).2.2.2

/-- Rings, and the bridges of each segment. -/
def systemRings (m : Memory) : Option Breach :=
  let used := contentNodes m
  let segs := used.foldl (fun acc n => ins acc (segOf n)) []
  let role (n : Nat) : Nat := u8 (nodeBytes m n) 1
  let seg (g : Nat) : Option Breach :=
    let ns := used.filter (segOf · == g)
    let first := ns.headD 0
    let bad0 := !ringCloses (fun n => u16 (nodeBytes m n) 4) ns
    let bridges := ns.filter (role · != 0)
    let bad1 := decide (1 < segs.length) && (bridges.isEmpty || decide (2 < bridges.length) || !decide ((bridges.map role).Nodup))
    if bad0 then some (nodeBreach first 4) else if bad1 then some (nodeBreach first 1) else none
  let trunk (k : Nat) : Option Breach :=
    let ns := used.filter (role · == k)
    if ringCloses (fun n => u16 (nodeBytes m n) 6) ns then none else some (nodeBreach (ns.headD 0) 6)
  (segs.findSome? seg).orElse fun _ => [1, 2].findSome? trunk

/-- The system region's rules. The manual gives no status for a head out of its values; PARAM_RANGE with the offset is
taken from R509 (log entry 32, DEDUCED). -/
def systemBad (m : Memory) : Option Breach :=
  let head := m.readBytes 0 16
  let len := u32 head 0
  let entry (n : Nat) : Option Breach :=
    let b := nodeBytes m n
    if u8 b 0 = 0 then (nonZeroField [0, 1, 2, 3, 4, 6, 8, 10, 12, 14, 15, 16, 28, 40] b 0 64).map (nodeBreach n) else (firstBad (nodeFields b len n)).map (nodeBreach n)
  if !([2000, 5000, 10000, 20000, 50000].contains len) then some (Status.paramRange, le 4 0)
  else match nonZeroField [4] head 4 12 with
    | some o => some (Status.paramRange, le 4 o)
    | none => (((List.range 4096).findSome? entry).orElse fun _ => systemClaims m).orElse fun _ => systemRings m

/-! ## Bank regions (R285, R324, R343) -/

def isRtd (m : Nat) : Bool := within 3 m 5

/-- Offsets 0 to 13 (Tables 10-1, 10-3). -/
def convFields (k : ChanCfg) : List (Nat × Bool) :=
  let b := k.raw
  let m := k.mode
  let loop := isLoopMode m
  let kind := k.exc
  [(0, decide (m ≤ 10)), (1, decide (k.gain ≤ if loop then 1 else 7)), (2, decide (k.rate ≤ if loop && k.fsk then 5 else 9)),
   (3, decide (u8 b 3 ≤ 1)), (4, decide (u8 b 4 ≤ if loop then 0 else 1)),
   (5, if m = 6 then u8 b 5 == 1 else decide (u8 b 5 ≤ if isRtd m then 1 else 0)),
   (6, if k.pulsed then decide (1 ≤ k.interval) && decide (resultUs k ≤ 1000 * k.interval) else k.interval == 0),
   (8, if isRtd m then kind == 1 else if m = 6 then kind == 2 || kind == 3 else kind == 0), (9, allZero b 9 1),
   (10, if kind = 1 then within 10 k.excUa 1000 && k.excUa % 10 == 0 else k.excUa == 0), (12, k.pulsed || k.lead == 0)]

/-- Offsets 14 to 63. -/
def roleFields (k : ChanCfg) : List (Nat × Bool) :=
  let b := k.raw
  let m := k.mode
  let loop := isLoopMode m
  let term (t : Nat) : Bool := within 1 t 40
  [(14, if loop then k.pos == 0 else term k.pos), (15, if loop then k.neg == 0 else term k.neg),
   (16, if m = 1 ∨ m = 2 then k.excT == 0 else if m = 3 ∨ m = 4 then k.excT == k.pos else term k.excT),
   (17, if m = 1 then decide (k.bias ≤ 40) else if m = 2 ∨ m = 3 then k.bias == k.neg else term k.bias && (!loop || k.bias != k.excT)),
   (18, if m = 1 then (if k.bias = 0 then k.biasMode == 0 else within 1 k.biasMode 2) else k.biasMode == if m = 2 then 2 else 1),
   (19, decide (u8 b 19 ≤ 3)), (20, decide (k.wireS ≤ 60) && !(loop && k.fsk && k.wireS == 0)), (22, within 1 k.openKohm 1000),
   (24, F32.finite k.deadband && F32.le 0 k.deadband), (28, decide (u8 b 28 ≤ 1)), (29, allZero b 29 35)]

/-- A standard curve number of a resistance thermometer (Table 11-3). -/
def rtdCurve (n : Nat) : Bool := [0x10, 0x11, 0x12, 0x18, 0x19, 0x1A, 0x20, 0x21, 0x22].contains n

/-- An auxiliary channel of kind 3 is one that R324 admits. -/
def auxChannelOk (c a : Nat) (entry : Nat → Bytes) : Bool :=
  let b := entry a
  decide (a < 32) && a != c && isRtd (u8 b 0) && u8 b 64 == 1 && rtdCurve (u8 b 65) && u8 b 66 != 3

/-- Offsets 64 to 95 (Tables 11-1, 11-2). -/
def linFields (k : ChanCfg) (c : Nat) (entry : Nat → Bytes) : List (Nat × Bool) :=
  let b := k.raw
  let m := k.mode
  let route := u8 b 64
  let curve := u8 b 65
  let aux := u8 b 66
  let orders := u8 b 92
  let f (o : Nat) : Word := word32 b o
  [(64, if m = 2 then route == 1 else if isRtd m then decide (route ≤ 2) else route == 0 || route == 2),
   (65, if route ≠ 1 then curve == 0 else if m = 2 then within 1 curve 8 else rtdCurve curve),
   (66, if m = 2 then within 1 aux 3 else if route = 2 then aux == 0 || within 2 aux 4 else aux == 0),
   (67, if aux = 3 then auxChannelOk c (u8 b 67) entry else u8 b 67 == 0xFF),
   (68, if aux = 2 then F32.finite (f 68) else u32 b 68 == 0), (72, if m = 3 then F32.le 0 (f 72) else u32 b 72 == 0),
   (76, F32.finite (f 76) && F32.mag (f 76) != 0), (80, F32.finite (f 80)), (84, F32.finite (f 84)),
   (88, F32.finite (f 88) && F32.lt (f 84) (f 88)),
   (92, if route = 2 then decide (orders % 8 ≤ 5) && !orders.testBit 3 && decide (orders < 64) else orders == 0), (93, allZero b 93 3)]

/-- Offsets 96 to 191: the coefficients. -/
def coefFields (b : Bytes) : List (Nat × Bool) :=
  let route := u8 b 64
  let orders := u8 b 92
  (List.range 24).map fun n =>
    let x := word32 b (96 + 4 * n)
    (96 + 4 * n, if route = 2 ∧ n / 4 ≤ orders % 8 ∧ n % 4 ≤ orders / 16 % 4 then F32.finite x else x == 0)

/-- Offsets 192 to 255 of a loop channel (Table 12-2, R343). -/
def loopFields (k : ChanCfg) : List (Nat × Bool) :=
  let b := k.raw
  let m := k.mode
  let out := isOutputMode m
  let n := u8 b 195
  let polls := (List.range (min 8 n)).map fun i => u8 b (225 + 4 * i)
  let inst (i : Nat) : List (Nat × Bool) :=
    let o := 224 + 4 * i
    if i < n then
      [(o, within 1 (u8 b o) 63),
       (o + 1, if k.multidrop then within 1 (u8 b (o + 1)) 63 && !(polls.take i).contains (u8 b (o + 1)) else u8 b (o + 1) == 0),
       (o + 2, allZero b (o + 2) 2)]
    else [(o, allZero b o 4)]
  [(192, decide (u8 b 192 ≤ 1)), (193, decide (u8 b 193 ≤ if out then 2 else 0)),
   (194, decide (u8 b 194 ≤ 3) && !(k.multidrop && (!k.fsk || out))),
   (195, if !k.fsk then n == 0 else if !k.multidrop then n == 1 else within 1 n (if m = 7 then 5 else 8)),
   (196, if m = 7 then within 1000 k.termV 2400 else k.termV == 0), (198, allZero b 198 2),
   (200, if out then decide (u32 b 200 < 0x40000) else u32 b 200 == 0),
   (204, if out then F32.finite k.spanLow else k.spanLow == 0),
   (208, if out then F32.finite k.spanHigh && decide (F32.key k.spanHigh ≠ F32.key k.spanLow) else k.spanHigh == 0),
   (212, allZero b 212 12)] ++ (List.range 8).flatMap inst

/-- Offsets of the fields of a channel entry (Tables 10-1, 11-1 and 12-2). -/
def entryFields : List Nat :=
  [0, 1, 2, 3, 4, 5, 6, 8, 9, 10, 12, 14, 15, 16, 17, 18, 19, 20, 22, 24, 28, 29, 64, 65, 66, 67, 68, 72, 76, 80, 84, 88, 92, 93]
    ++ (List.range 24).map (96 + 4 * ·) ++ [192, 193, 194, 195, 196, 198, 200, 204, 208, 212] ++ (List.range 8).map (224 + 4 * ·)

/-- Offset of the first field in breach of channel c's entry; `entry` gives the entry of any channel. -/
def chanBad (c : Nat) (entry : Nat → Bytes) : Option Nat :=
  let b := entry c
  let k := ChanCfg.ofBytes b
  if k.mode = 0 then nonZeroField entryFields b 0 256
  else if isLoopMode k.mode then firstBad (convFields k ++ roleFields k ++ linFields k c entry ++ coefFields b ++ loopFields k)
  else (firstBad (convFields k ++ roleFields k ++ linFields k c entry ++ coefFields b)).orElse fun _ => nonZeroField entryFields b 192 64

/-- Entries of the node's channels with a bank's content in place of its active copy. -/
def entriesWith (s : State) (bank : Nat) (m : Memory) (c : Nat) : Bytes :=
  if c / 8 = bank then m.readBytes (32 + 256 * (c % 8)) 256 else (chanCfg s c).raw

/-- A bank region's rules; the head as in log entry 32, DEDUCED. -/
def bankBad (s : State) (bank : Nat) (m : Memory) : Option Breach :=
  let head := m.readBytes 0 32
  let hold := u16 head 0
  if hold ≠ 0 ∧ !within 100 hold 10000 then some (Status.paramRange, le 4 0)
  else match nonZeroField [2] head 2 30 with
    | some o => some (Status.paramRange, le 4 o)
    | none => (List.range 8).findSome? fun k =>
      (chanBad (8 * bank + k) (entriesWith s bank m)).map fun o =>
        (Status.channelInvalid, le 1 (8 * bank + k) ++ le 1 o ++ zeros 2)

/-- A terminal that one channel uses for two roles not permitted (R287, R288). -/
def roleConflict (k : ChanCfg) : Option Nat :=
  let same (a b : Nat) : Bool := a != 0 && a == b
  let m := k.mode
  if same k.pos k.neg then some k.pos
  else if (m = 5 ∨ m = 6) ∧ (same k.excT k.pos ∨ same k.excT k.neg) then some k.excT
  else if same k.bias k.pos then some k.bias
  else if (4 ≤ m ∧ m ≤ 6) ∧ (same k.bias k.neg ∨ same k.bias k.excT) then some k.bias
  else none

/-- Resource claims of a bank's content (R288, R344). -/
def bankClaims (s : State) (bank : Nat) (m : Memory) : Option Breach :=
  let cfg (c : Nat) : ChanCfg := .ofBytes (entriesWith s bank m c)
  let conflict (kind idx : Nat) : Breach := (Status.resourceConflict, le 1 kind ++ le 1 bank ++ le 2 idx)
  let mine := (List.range 8).map (8 * bank + ·)
  let term (acc : List Nat × Option Breach) (c : Nat) : List Nat × Option Breach :=
    let k := cfg c
    let t := (roleConflict k).orElse fun _ => (claimed k).find? acc.1.contains
    (acc.1 ++ claimed k, acc.2.orElse fun _ => t.map (conflict 1))
  let slots (c : Nat) : List Nat := if isLoopMode (cfg c).mode then (cfg c).insts.map (·.slot) else []
  let others := ((List.range 32).filter fun c => c / 8 != bank).flatMap slots
  let slot (acc : List Nat × Option Breach) (x : Nat) : List Nat × Option Breach :=
    (x :: acc.1, acc.2.orElse fun _ => if acc.1.contains x then some (conflict 2 x) else none)
  ((mine.foldl term ([], none)).2).orElse fun _ => ((mine.flatMap slots).foldl slot (others, none)).2

/-! ## DIO region (R374, Table 13-1) -/

/-- An output's fields. -/
def outputFields (k : DioCfg) (b : Bytes) : List (Nat × Bool) :=
  let kind := k.kind
  let prios := k.slot % 2 == 0 && decide (k.slot < 32)
  [(1, u8 b 1 % 2 == 0 && decide (u8 b 1 < 8)), (2, k.n != 0), (4, decide (k.threshold ≤ 2)), (5, decide (u8 b 5 ≤ 1)),
   (6, k.hold == 0 || within 100 k.hold 10000), (8, within 1 kind 4),
   (9, if kind = 2 then decide (k.slot ≤ 7) else if kind = 3 then prios && k.slot != 0 else k.slot == 0),
   (10, if kind = 4 then k.mask == 0 else k.mask != 0 && decide (k.mask < if kind = 2 then 256 else if kind = 3 then 8 else 65536)),
   (12, if kind = 4 then k.source == 0 else decide (k.source < if kind = 3 then 4096 else 0x40000)),
   (16, if kind = 4 then decide (k.lease ≤ 3600) else k.lease == 0), (18, allZero b 18 14)]

def dioFields (b : Bytes) : List (Nat × Bool) :=
  let k := DioCfg.ofBytes b
  if k.mode = 2 then outputFields k b
  else [(0, k.mode == 1), (1, decide (u8 b 1 ≤ 1)), (2, k.n != 0), (4, decide (k.threshold ≤ 2)), (5, allZero b 5 1), (6, allZero b 6 2),
        (8, allZero b 8 1), (9, allZero b 9 1), (10, allZero b 10 2), (12, allZero b 12 4), (16, allZero b 16 2), (18, allZero b 18 14)]

/-- The head is named as channel 0 (log entry 32, DEDUCED). -/
def dioBad (m : Memory) : Option Breach :=
  let breach (n o : Nat) : Breach := (Status.dioInvalid, le 1 n ++ le 1 o ++ zeros 2)
  let head := m.readBytes 0 16
  let chan (i : Nat) : Option Breach :=
    let b := m.readBytes (16 + 32 * i) 32
    (if u8 b 0 = 0 then nonZeroField [0, 1, 2, 4, 5, 6, 8, 9, 10, 12, 16, 18] b 0 32 else firstBad (dioFields b)).map (breach (i + 1))
  if u8 head 0 ≠ 1 then some (breach 0 0)
  else match nonZeroField [1] head 1 15 with
    | some o => some (breach 0 o)
    | none => (List.range 48).findSome? chan

/-! ## Display region (R428, R510, Table 15-1) -/

def panelFields (b : Bytes) : List (Nat × Bool) :=
  let kind := u8 b 10
  let v := sint 2 (u16 b 8)
  let param := u32 b 12
  [(0, u8 b 0 == 1), (1, allZero b 1 1), (2, within 1 (u16 b 2) 1600), (4, within 1 (u16 b 4) 1200), (6, within 1 (u16 b 6) 1200),
   (8, decide (v = 0 ∨ -3000 ≤ v ∧ v ≤ -500)), (10, within 1 kind 3), (11, allZero b 11 1),
   (12, decide (param < if kind = 1 then 1 else if kind = 2 then 4096 else 0x40000)), (16, decide (u8 b 16 < 64) || u8 b 16 == 0xFF),
   (17, if kind = 1 then u8 b 17 % 2 == 0 && decide (u8 b 17 < 32) else u8 b 17 == 0), (18, kind == 1 || u16 b 18 == 0),
   (20, allZero b 20 12)]

/-- The head and the tables are named as panel 0 (log entry 32, DEDUCED). -/
def displayBad (m : Memory) (length : Nat) : Option Breach :=
  let breach (p o : Nat) : Breach := (Status.displayInvalid, le 1 p ++ le 1 o ++ zeros 2)
  let head := m.readBytes 0 176
  let pan (p : Nat) : Option Breach :=
    let b := sub head (16 + 32 * p) 32
    (if u8 b 0 = 0 then nonZeroField [0, 1, 2, 4, 6, 8, 10, 11, 12, 16, 17, 18, 20] b 0 32 else firstBad (panelFields b)).map (breach p)
  let table (i : Nat) : Option Breach :=
    let o := u32 head (144 + 8 * i)
    let n := u32 head (148 + 8 * i)
    if o % 4 = 0 ∧ o + n ≤ length then none else some (breach 0 (144 + 8 * i))
  let parse : Option Breach :=
    if Config.templatesParse (m.readBytes (u32 head 144) (u32 head 148)) then none else some (breach 0 144)
  if u8 head 0 ≠ 1 then some (breach 0 0)
  else match nonZeroField [1] head 1 15 with
    | some o => some (breach 0 o)
    | none => (((List.range 4).findSome? pan).orElse fun _ => (List.range 4).findSome? table).orElse fun _ => parse

/-! ## The whole set of active regions (R182, R226, R244, R271) -/

/-- Worst-case path in ns (R226). -/
def pathNs (s : State) : Nat :=
  let n := ((segments s).map fun g => (usedNodes s).countP (segOf · == g)).foldl max 0
  let ring (k : Nat) : Nat := (usedNodes s).countP fun m => (nodeEntry s m).role == k
  let hops := if (segments s).length ≤ 1 then n - 1 else (n - 1) + (max (ring 1) (ring 2) - 1) + (n - 1)
  12000 + 4000 * hops + xSystem s

/-- The budgets, judged on the regions that would be active. -/
def budgets (s : State) : Option Nat :=
  let l := epochLen s
  let q := ((usedNodes s).map fun n => (nodeEntry s n).quota).sum
  if l = 2000 ∧ 196608 < (usedTags s).length then some Status.epochLoad
  else if 768000 < pathNs s then some Status.pathBudget
  else if 3000000 * l < q * 1000000 then some Status.updateBudget
  else if l = 2000 ∧ 256 < (usedNodes s).length then some Status.epochSize
  else none

/-! ## Step 2 and step 3 of R514 -/

/-- The rules of a region's content. -/
def regionBad (s : State) (r : Nat) (m : Memory) (length : Nat) : Option Breach :=
  if r = 0 then systemBad m
  else if r = 1 then (callRegionBad m).map fun o => (Status.paramRange, le 4 o)
  else if r ≤ 65 then (tagRegionBad m r).map fun t => (Status.descriptorInvalid, le 4 t)
  else if r ≤ 81 then (edgeRegionBad m r).map fun e => (Status.edgeInvalid, le 4 e)
  else if r ≤ 85 then bankBad s (r - 82) m
  else if r = 86 then dioBad m
  else if r = 87 then displayBad m length
  else none

/-- The resource claims of a node-local region. -/
def claimsBad (s : State) (r : Nat) (m : Memory) : Option Breach := if 82 ≤ r ∧ r ≤ 85 then bankClaims s (r - 82) m else none

end Sys2Proof.Machine
end

