-- ==== Sys2Proof/Machine/CfgCmds.lean ====
section
/-! DEFINITION. Updates of regions (chapter 19): sessions, commits, programming, application at a commit, and the CFG
opcodes. -/

namespace Sys2Proof.Machine

/-! ## Sessions and the pool (R511, R512) -/

/-- The activation scheduled, as the replica this node evaluates has it. -/
def scheduledNow (s : State) : Option (Nat × List (Nat × Nat)) :=
  if inReplica s then s.repl.rep.scheduled.map fun x => (x.1, x.2.1) else none

/-- An activation of the region is scheduled. -/
def isScheduled (s : State) (r : Nat) : Bool := (scheduledNow s).any fun x => x.2.any (·.1 == r)

/-- An update of the region is running (R511). -/
def updateRuns (s : State) (r : Nat) : Bool := s.cfg.running.any (·.session.region == r) || isScheduled s r

/-- Bytes a session reserves: its length rounded up to 4 KB; the firmware region reserves nothing. -/
def reserved (x : Session) : Nat := if x.region = 88 then 0 else ceilDiv x.length 4096 * 4096

/-- Free staging pool of 8 MB. -/
def freePool (s : State) : Nat :=
  8388608 - (s.cfg.sessions.map reserved ++ s.cfg.running.map (fun c => reserved c.session)
    ++ s.cfg.pendingC.map fun c => reserved c.session).sum

/-- The fused identifier as reported (R80). -/
def fusedIdent (s : State) : Nat :=
  if identMismatch s then 0xFFFFFFFFFFFFFFFF else (fuse s 16).toNat + 0x100000000 * (fuse s 17).toNat

def State.setDir (s : State) (bank r : Nat) (f : DirEntry → DirEntry) : State :=
  { s with cfg.dir := upd s.cfg.dir bank fun (l : List DirEntry) => upd l r f }

/-- Erase a region's space in a bank. -/
def State.eraseRegion (s : State) (bank r : Nat) : State :=
  { s with cfg.flash := upd s.cfg.flash bank fun (m : Memory) => m.clear (regionBase r) (regionSpace r) }

/-- CFG.BEGIN (R506, R512, R515). -/
def execCfgBegin (c : Cmd) (s : State) : Out :=
  runOpcode 0x0D40 c s fun s =>
    let p := c.payload
    let r := u8 p 0
    let x : Session := { handle := s.cfg.nextHandle, region := r, length := u32 p 4, crc := u32 p 8, version := u32 p 12
                         ident := BitVec.ofNat 64 (u64 p 16) }
    if p.length ≠ 24 ∨ !allZero p 1 3 ∨ 88 < r then refuse s Status.paramRange
    else if !regionLengthOk r x.length then refuse s Status.paramRange
    else if r ≤ 87 ∧ s.sec.sealed ∧ x.ident.toNat ≠ fusedIdent s then refuse s Status.imageForeign
    else if r = 88 ∧ (s.cfg.sessions.any (·.region == 88) ∨ s.cfg.running.any (·.session.region == 88)) then
      refuse s Status.regionBusy
    else
      let s1 := { s with cfg.sessions := s.cfg.sessions.filter (·.region != r) }
      if freePool s1 < reserved x then refuse s Status.stagingFull
      else
        let next := if x.handle = 0xFFFFFFFF then 1 else x.handle + 1
        let s2 := { s1 with cfg.sessions := s1.cfg.sessions ++ [x], cfg.nextHandle := next }
        let s3 := if r = 88 then
            (s2.eraseRegion (inactive s2 88) 88).setDir (inactive s2 88) 88 fun d => { d with state := 1 }
          else s2
        { st := s3, data := le 4 x.handle }

/-! ## CFG.WRITE (R513) -/

/-- The session of a handle. -/
def sessionOf (s : State) (h : Nat) : Option Session := s.cfg.sessions.find? (·.handle == h)

/-- Place data in a session, or in the inactive firmware copy. -/
def State.writeSession (s : State) (x : Session) (off : Nat) (data : Bytes) : State :=
  let content := if x.region = 88 then x.content else x.content.writeBytes off data
  let x' : Session := { x with content, spans := x.spans ++ [(off, off + data.length)] }
  let s1 := { s with cfg.sessions := s.cfg.sessions.map fun (y : Session) => if y.handle = x.handle then x' else y }
  if x.region = 88 then
    { s1 with cfg.flash := upd s1.cfg.flash (inactive s 88) fun (m : Memory) => m.writeBytes (regionBase 88 + off) data }
  else s1

def execCfgWrite (c : Cmd) (s : State) : Out :=
  runOpcode 0x0D41 c s fun s =>
    let p := c.payload
    let off := u32 p 4
    let n := p.length - 8
    if p.length < 12 ∨ 4080 < p.length ∨ n % 4 ≠ 0 ∨ off % 4 ≠ 0 then refuse s Status.paramRange
    else match sessionOf s (u32 p 0) with
      | none => refuse s Status.sessionUnknown
      | some x => if x.length < off + n then refuse s Status.paramRange else { st := s.writeSession x off (p.drop 8) }

/-! ## Checks and programming (R514) -/

/-- Every byte of a session has been written. -/
def complete? (x : Session) : Bool :=
  let grow (pos : Nat) (sp : Nat × Nat) : Nat := if sp.1 ≤ pos ∧ pos < sp.2 then sp.2 else pos
  let once (pos : Nat) : Nat := x.spans.foldl grow pos
  decide (x.length ≤ (List.range x.spans.length).foldl (fun pos _ => once pos) 0)

/-- What a session holds, from offset 0. -/
def sessionContent (s : State) (x : Session) : Memory :=
  if x.region = 88 then Memory.window (nth s.cfg.flash (inactive s 88)) (regionBase 88) x.length else x.content

/-- A replicated region activates at its commit: a node in START that has not been a member since its system region
became active, or has none. -/
def activatesNow (s : State) : Bool := decide (s.op = .start) && (!s.cfg.joined || (activeBank s 0).isNone)

/-- The inactive copy as programming leaves it. -/
def State.programmed (s : State) (x : Session) : State :=
  let b := inactive s x.region
  let m := sessionContent s x
  let s1 := if x.region = 88 then s else
    { (s.eraseRegion b x.region) with
      cfg.flash := upd (s.eraseRegion b x.region).cfg.flash b fun (f : Memory) => f.place (regionBase x.region) m }
  s1.setDir b x.region fun d =>
    { state := 2, length := x.length, crc := x.crc, version := x.version, gen := (d.gen + 1) % 0x100000000, ident := x.ident }

/-- The first failure of R514's checks. -/
def commitBad (s : State) (k : Commit) : Option Breach :=
  let x := k.session
  let m := sessionContent s x
  if !complete? x || crc32c (m.readBytes 0 x.length) != x.crc then some (Status.contentCrc, [])
  else
    let rules := (regionBad s x.region m x.length).orElse fun _ => claimsBad s x.region m
    let sign := if x.region = 88 ∧ !Config.signatureValid m x.length k.sig then some (Status.signatureBad, []) else none
    let now := if x.region ≤ 81 ∧ activatesNow s then
        (let t := s.programmed x
         (budgets { t with cfg := t.cfg.flip x.region }).map fun st => (st, []))
      else none
    (rules.orElse fun _ => sign).orElse fun _ => now

/-- REGION_REFUSED and the completion. -/
def State.refuseCommit (s : State) (k : Commit) (b : Breach) : State :=
  let r := k.session.region
  let s1 := s.logNotify 0x0501 (le 4 (epochField s) ++ le 1 r ++ zeros 1 ++ le 2 b.1 ++ padTo 4 b.2) 0xC0FA
    (cfgEvent 3 r b.1 (epochField s))
  s1.complete k.cmd 0x0D42 b.1 b.2

/-- Check a commit and start programming its region. -/
def State.runCommit (s : State) (k : Commit) : State :=
  match commitBad s k with
  | some b => s.refuseCommit k b
  | none =>
    let r := k.session.region
    ({ s with cfg.running := s.cfg.running ++ [k], cfg.staged := s.cfg.staged.filter (· != r) } : State).setDir (inactive s r) r
      fun d => { d with state := 1 }

/-- Pending commits whose region has no update running any more proceed (R515). -/
def State.promote (s : State) : State :=
  s.cfg.pendingC.foldl (fun (acc : State) k =>
    if updateRuns acc k.session.region then acc
    else ({ acc with cfg.pendingC := acc.cfg.pendingC.filter (·.session.handle != k.session.handle) } : State).runCommit k) s

/-- A commit withdrawn from a pending slot completes as superseded. -/
def State.supersede (s : State) (k : Commit) : State :=
  let s1 := ({ s with cfg.pendingC := s.cfg.pendingC.filter (·.session.handle != k.session.handle) } : State).complete k.cmd 0x0D42
    Status.superseded
  s1.notify 0xC0FA (cfgEvent 6 k.session.region Status.superseded (epochField s))

/-- CFG.COMMIT: ACCEPTED_PENDING, then the pending slot or the checks. -/
def execCfgCommit (c : Cmd) (s : State) : Out :=
  runSilent 0x0D42 c s fun s =>
    let p := c.payload
    if (p.length ≠ 8 ∧ p.length ≠ 72) ∨ !allZero p 4 4 then s.reply c 0x0D42 Status.paramRange
    else match sessionOf s (u32 p 0) with
      | none => s.reply c 0x0D42 Status.sessionUnknown
      | some x =>
        if p.length ≠ (if x.region = 88 then 72 else 8) then s.reply c 0x0D42 Status.paramRange
        else
          let k : Commit := { cmd := c, session := x, sig := p.drop 8 }
          let s1 := ({ s with cfg.sessions := s.cfg.sessions.filter (·.handle != x.handle) } : State).reply c 0x0D42 Status.acceptedPending
          if updateRuns s1 x.region then
            let s2 := match s1.cfg.pendingC.find? (·.session.region == x.region) with
              | some old => s1.supersede old
              | none => s1
            { s2 with cfg.pendingC := s2.cfg.pendingC ++ [k] }
          else s1.runCommit k

/-- CFG.ABANDON (R516). -/
def execCfgAbandon (c : Cmd) (s : State) : Out :=
  runOpcode 0x0D43 c s fun s =>
    let h := u32 c.payload 0
    if c.payload.length ≠ 4 then refuse s Status.paramRange
    else if (sessionOf s h).isSome then { st := { s with cfg.sessions := s.cfg.sessions.filter (·.handle != h) } }
    else match s.cfg.pendingC.find? (·.session.handle == h) with
      | some k => { st := s.supersede k }
      | none =>
        if s.cfg.running.any (·.session.handle == h) ∨ s.cfg.handles.any (fun x => x.2 == h && isScheduled s x.1) then
          refuse s Status.updateRunning
        else refuse s Status.sessionUnknown

/-! ## What a node-local region does as it becomes active (R522) -/

/-- The conversion of a channel's slice n is interrupted: its result is delivered with the status and not published. Results that
ended before keep their own status and the entry they were made under (R297). -/
def State.interrupt (s : State) (c n status : Nat) (old : Bytes) : State :=
  let chop := (slice s (c / 8) n).chop
  let now := (fabUs s).getD 0
  (s.deliverWord c (resultWord status 0 (clampSet s c) chop false) now).setChan c fun x =>
    { x with late := some { atUs := now, slice := n, entry := old, chop } }

/-- The excitation of a channel changes (Table 10-7). -/
def State.exciteAnew (s : State) (c : Nat) (old : Bytes) : State :=
  match (chan s c).slice with
  | none => s
  | some n =>
    let y := slice s (c / 8) n
    let k := chanCfg s c
    let s1 := if y.phase = .settle ∨ y.phase = .run then s.interrupt c n 1 old else s
    let s2 := if y.phase = .lead ∨ y.phase = .settle ∨ y.phase = .run then
        (s1.setSlice (c / 8) n fun z => z.toLead k (s.tm.now + k.lead)).setChan c fun x => { x with settling := true }
      else s1
    s2.restartVisit c

/-- A channel restarts at LEAD under a new entry, which stands for a pulsed channel's request; any conversion in progress ends
ABORTED. A cover ends with the conversion it stood for. -/
def State.restartChannel (s : State) (c : Nat) (old : Bytes) : State :=
  let b := c / 8
  let s0 := match (chan s c).slice with
    | some n =>
      let p := (slice s b n).phase
      if p = SlicePhase.lead ∨ p = SlicePhase.settle ∨ p = SlicePhase.run then s.interrupt c n 5 old else s
    | none => s
  let k := chanCfg s c
  if k.mode = 0 then (s0.releaseSlice c).publishBad c qChannel
  else
    let s1 := s0.assignSlice c
    let s2 := if covered s1 c then (visitOn s1 c).elim s1 fun v => s1.loseVisit b v else s1.restartVisit c
    let s3 := (s2.startSchedules c).startConversion c
    match (chan s3 c).slice with
    | some n => if k.pulsed then
        (s3.setChan c fun x => { x with requestDue := s.tm.now + k.interval * 1000 }).setSlice b n fun z => z.toLead k (s.tm.now + k.lead)
      else s3
    | none => s3

/-- A bank's new entry of one channel takes effect (R297, R325, R360, R370). -/
def State.applyChannel (s : State) (c : Nat) (old new : Bytes) : State :=
  let changed := (List.range 256).filter fun i => u8 old i != u8 new i
  if changed.isEmpty then s
  else
    let s1 := s.endLoopForce c 4
    let quiet := changed.all fun i => within 19 i 28
    let exc := changed.all fun i => within 19 i 28 || within 8 i 11
    let s1 := if changed.any fun i => within 19 i 21 then s1.setChan c fun x => { x with windowDue := s.tm.now } else s1
    let s2 := if quiet then s1 else if exc then s1.exciteAnew c old else s1.restartChannel c old
    let s3 := if changed.contains 0 then s2.stopDriver c else s2
    if changed.any fun i => i == 0 || decide (192 ≤ i) then (s3.loopUnavailable c).assignInstruments c else s3

def State.applyBank (s : State) (bank : Nat) (old : List Bytes) : State :=
  (List.range 8).foldl (fun (acc : State) k => acc.applyChannel (8 * bank + k) (nth old k) (chanCfg acc (8 * bank + k)).raw) s

/-- A DIO channel's new entry takes effect (R375, R396). -/
def State.applyDioChannel (s : State) (n : Nat) (old new : Bytes) : State :=
  if old = new then s
  else
    let s1 := s.endDioForce n 4
    let c := cell s1 n
    let k := dioCfg s1 n
    let s2 := if u8 old 0 ≠ u8 new 0 then
        s1.setCell n fun x =>
          { x with latch := false, command := false, framed := false, count := 0, state := false, lease := none
                   retired := false, overload := false, stuck := false, cross := false, backfeed := false, openLoad := false
                   attempts := 0, retryAt := none, passes := 0 }
      else s1.setCell n fun x => { x with count := min x.count k.n, retired := false, attempts := if x.retired then 0 else x.attempts, lease := if k.kind = 4 then x.lease else none }
    let s3 := if c.retired ∧ u8 old 0 = u8 new 0 then s2.cellEvent 5 n 2 else s2
    (if k.mode = 0 then s3 else s3.publishDio n).showFault n

def State.applyDio (s : State) (old : List Bytes) : State :=
  ((((List.range 48).foldl (fun (acc : State) i =>
    acc.applyDioChannel (i + 1) (nth old i) (regBytes acc 86 (16 + 32 * i) 32)) s).publishNoDio).judgeEntry 7).judgeEntry 8

/-- A display region takes effect: changed panels take the full waveform, and every page is rendered again. -/
def State.applyDisplay (s : State) (old : List Bytes) : State :=
  let s1 := (List.range 4).foldl (fun (acc : State) p =>
    if nth old p = regBytes acc 87 (16 + 32 * p) 32 then acc else acc.setPanel p fun x => { x with fullNext := true }) s
  (((s1.judgeHoldUp false).renderNow [0, 1, 2, 3]).judgeEntry 15).judgeEntry 16

/-- Entries of a node-local region before it is replaced. -/
def oldEntries (s : State) (r : Nat) : List Bytes :=
  if r ≤ 85 then (List.range 8).map fun k => regBytes s r (32 + 256 * k) 256
  else if r = 86 then (List.range 48).map fun i => regBytes s 86 (16 + 32 * i) 32
  else (List.range 4).map fun p => regBytes s 87 (16 + 32 * p) 32

/-- A node-local region becomes active by its selector. -/
def State.activateLocal (s : State) (k : Commit) : State :=
  let r := k.session.region
  let old := oldEntries s r
  let s1 := { s with cfg := s.cfg.flip r }
  let s2 := s1.logNotify 0x0500 (le 4 (epochField s1) ++ le 1 r ++ le 1 0 ++ zeros 2 ++ le 4 k.session.version ++ le 4 k.session.crc) 0xC0FA
    (cfgEvent 2 r 0 (epochField s1))
  let s3 := s2.complete k.cmd 0x0D42 Status.ok
  if r ≤ 85 then s3.applyBank (r - 82) old
  else if r = 86 then s3.applyDio old
  else if r = 87 then s3.applyDisplay old
  else { s3 with cfg.fwRestart := true, cfg.fwSigs := upd s3.cfg.fwSigs (selected s3 88) fun _ => k.sig }

/-- A replicated region becomes active at its commit, in START (R514). With a first system region the start goes
on. -/
def State.activateInStart (s : State) (r : Nat) : State :=
  let a := activateRegion s (epochField s) r
  let s1 := (a.2 (tagDyn a.1)).foldl (fun (acc : State) i => acc.enqueue i) a.1
  if r = 0 then
    let s2 := { s1 with cfg.joined := false, cfg.len := epochLen s1 }
    if s.pw.step = 5 then s2.runImage else s2.judgePorts
  else s1

/-- FLASH_PROGRAM_DONE: the inactive copy is VERIFIED; what follows depends on the region's scope. -/
def execFlashProgramDone (region : Nat) (s : State) : Out :=
  .next (
    if s.core ≠ .running ∨ s.pw.failing then s
    else match s.cfg.running.find? (·.session.region == region) with
      | none => s
      | some k =>
        let s1 := ({ s with cfg.running := s.cfg.running.filter (·.session.region != region) } : State).programmed k.session
        let s2 :=
          if 82 ≤ region then s1.activateLocal k
          else if activatesNow s1 then (s1.activateInStart region).complete k.cmd 0x0D42 Status.ok
          else
            (({ s1 with cfg.staged := ins s1.cfg.staged region, cfg.handles := put s1.cfg.handles region k.session.handle } : State).notify
              0xC0FA (cfgEvent 1 region 0 (epochField s1))).complete k.cmd 0x0D42 Status.ok
        s2.promote)

/-! ## CFG.ACTIVATE (R518) -/

def activateFormat (p : Bytes) : Bool :=
  let n := u16 p 0
  within 1 n 82 && allZero p 2 2 && p.length == 4 + 8 * n
    && (List.range n).all fun i => decide (u8 p (4 + 8 * i) ≤ 81) && allZero p (5 + 8 * i) 3

/-- The node's own refusals. A region named twice is judged here and not with the payload's format, after the staged copies
and before the budgets (log entry 89, DESIGN CHOICE). -/
def activateCheck (p : Bytes) (s : State) : Option Nat :=
  let rs := (List.range (u16 p 0)).map fun i => (u8 p (4 + 8 * i), u32 p (8 + 8 * i))
  if rs.any fun x => !s.cfg.staged.contains x.1 || stagedCrc s x.1 != some x.2 then some Status.stageMismatch
  else if !decide (rs.map (·.1)).Nodup then some Status.paramRange
  else budgets { s with cfg := rs.foldl (fun (g : Cfg) x => g.flip x.1) s.cfg }

def execCfgActivate (c : Cmd) (s : State) : Out := runAction 0x0D44 c s activateFormat (activateCheck c.payload)

/-! ## CFG.STATUS (R525) -/

/-- Update state of a region and the CRC it concerns. -/
def updateState (s : State) (r : Nat) : Nat × Nat :=
  let staged := (stagedCrc s r).getD 0
  match s.cfg.running.find? (·.session.region == r), s.cfg.sessions.find? (·.region == r) with
  | some k, _ => (2, k.session.crc)
  | none, x =>
    if isScheduled s r then (4, staged)
    else match x with
      | some y => (1, y.crc)
      | none => if s.cfg.staged.contains r then (3, staged) else (0, 0)

def cfgEntry (s : State) (r : Nat) : Bytes :=
  let a := selected s r
  let d := dirEntry s a r
  let ok := decide (d.state = 2)
  let u := updateState s r
  le 1 r ++ le 1 (if ok then a else 0xFF) ++ le 1 u.1 ++ le 1 (if s.cfg.pendingC.any (·.session.region == r) then 1 else 0)
    ++ le 4 (if ok then d.version else 0) ++ le 4 (if ok then d.crc else 0) ++ le 4 u.2

def cfgStatusData (s : State) : Bytes :=
  zeros 2 ++ le 4 (freePool s) ++ le 4 (((scheduledNow s).map fun x => x.1 % 0x100000000).getD 0xFFFFFFFF) ++ le 4 s.cfg.fwRelease
    ++ le 1 s.cfg.fwSource ++ zeros 1 ++ le 2 89 ++ (List.range 89).flatMap (cfgEntry s)

def execCfgStatus (c : Cmd) (s : State) : Out := runPlain 0x0D01 c s cfgStatusData

end Sys2Proof.Machine
end

