-- ==== Sys2Proof/Machine/Epoch.lean ====
section
/-! DEFINITION. The epoch from its end to its evaluation at this node (chapters 01, 06, 07, 09, 17, 19): the
boundary, aggregates, votes, evaluation with all it leads to, and the deadlines of R259. -/

namespace Sys2Proof.Machine

/-! ## Own absence (R254, R258) -/

/-- After MEMBERSHIP_FAULT 1 of E the member re-seeds: nothing of E or later stays held, its bank of E cannot be read, and
its tags are to be republished (R248, R258, R277). -/
def State.faultOne (s : State) (e : Nat) : State :=
  ({ s.missSnapshots e with
      repl.heldOut := s.repl.heldOut.filter fun h => decide (h.epoch < e), repl.republish := true } : State).startReseed 5

/-- This node is absent in E as a member, by the history or by what it holds of E. -/
def ownAbsent (s : State) (e : Nat) : Bool :=
  match s.repl.rep.absents.find? (·.1 == e) with
  | some h => decide (s.node ∈ h.2.1)
      && (decide (s.node ∈ h.2.2) || votedAbsent s e s.node || cutOff s e (segOf s.node))
  | none => decide (s.repl.since ≤ e) && (votedAbsent s e s.node || cutOff s e (segOf s.node)
      || ownSilent s e)

/-- Leave after three absences (R258): the fault, and the join steps again. -/
def State.leaveAbsent (s : State) (e : Nat) : State := (s.membershipFault e 4 s.node).leaveReplica

/-- A re-seeding member finds itself absent in three epochs running by the votes it holds. -/
def State.judgeOwn (s : State) : State :=
  if s.core = .running ∧ s.repl.member ∧ inReplica s ∧ s.repl.reseed.isSome then
    match ((List.range 8).map fun k => s.repl.cur - 1 - k).find? fun e =>
        decide (2 ≤ e) && ownAbsent s e && ownAbsent s (e - 1) && ownAbsent s (e - 2) with
    | some e => s.leaveAbsent e
    | none => s
  else s

/-- The newest epoch that the node evaluated with itself present and in which the votes it holds now have it absent. -/
def lateAbsence (s : State) : Option Nat :=
  (s.repl.rep.absents.find? fun h => decide (s.node ∈ h.2.1 ∧ s.node ∉ h.2.2)
    && (votedAbsent s h.1 s.node || cutOff s h.1 (segOf s.node))).map (·.1)

/-- A member that evaluated E as present finds afterwards that two votes cover it, or its segment is cut off (R258): the
fault, what is still held of E and later is discarded, and it re-seeds. -/
def State.judgeSealed (s : State) : State :=
  if s.core = .running ∧ s.repl.member ∧ inReplica s ∧ s.repl.reseed.isNone then
    match lateAbsence s with
    | some e => (s.membershipFault e 1 s.node).faultOne e
    | none => s
  else s

/-! ## Orderly shutdown (R473, R474) -/

/-- The displays as NODE.PREPARE_OFF leaves them: once no update runs, the off sequence. -/
def State.displayOff (s : State) : State :=
  if s.disp.stopped ∧ (s.disp.rails = 1 ∨ s.disp.rails = 2) ∧ !(s.disp.panels.any fun x => x.update.isSome) then
    { s with disp := { s.disp with rails := 3, railEnd := s.tm.now + 5000, offAt := none } }
  else s

/-- Step 2 is done: no update runs and the rails are off. -/
def displayDone (s : State) : Bool :=
  (s.disp.panels.all fun x => x.update.isNone) && decide (railsNow s = 0)

/-- Step 4: the time persisted, PREPARE_OFF and POWER_DOWN, everything committed. -/
def State.writePrepareOff (s : State) (cs : List Cmd) (e1 : Option Nat) (was : Bool) : State :=
  let c : Cmd := cs.headD default
  let dep := (e1.map (· + 2)).getD 0xFFFFFFFF
  ((s.persistTime.log 0x0008 (le 4 (epochField s) ++ le 2 c.origNode ++ le 1 c.origPort ++ le 1 (if was then 1 else 0)
      ++ le 4 dep)).log 0x0002 (powerDownBody s 2 0)).commitAll State.render

/-- Enter STOPPING after step 3, writing step 4. -/
def State.enterStopping (s : State) (cs : List Cmd) (e1 : Option Nat) (was : Bool) : State :=
  let s1 := (s.leaveTo .stopping).writePrepareOff cs e1 was
  { s1 with pw.prepareOff := some (cs, e1, was, 2) }

/-- The shutdown goes on: the displays, STOPPING from START or ISLAND, and the completion. Stage 1 runs steps 1 to
3, stage 2 waits for the displays in STOPPING, stage 3 is complete. -/
def State.prepareStep (s : State) : State :=
  let s0 := s.displayOff
  match s0.pw.prepareOff with
  | some (cs, e1, was, k) =>
    if s0.core ≠ .running ∨ k = 3 ∨ !displayDone s0 then s0
    else
      let s1 := if k = 1 ∧ (s0.op = .start ∨ s0.op = .island) then s0.enterStopping cs none was else s0
      match s1.pw.prepareOff with
      | some (cs', e1', _, 2) =>
        cs'.foldl (fun (acc : State) c => acc.complete c 0x0141 Status.ok)
          { s1 with pw.prepareOff := some ([], e1', was, 3), pw.stopAt := s1.tm.now + 600000000 }
      | _ => { s1 with pw.prepareOff := some (cs, e1, was, k) }
  | none => s0

/-- NODE.PREPARE_OFF (R473). -/
def execNodePrepareOff (c : Cmd) (s : State) : Out :=
  runSilent 0x0141 c s fun s =>
    if c.payload.length ≠ 0 then s.reply c 0x0141 Status.paramRange
    else
      let s1 := s.reply c 0x0141 Status.acceptedPending
      match s.pw.prepareOff with
      | some (_, _, _, 3) => s1.complete c 0x0141 Status.ok
      | some (cs, e1, was, k) => { s1 with pw.prepareOff := some (cs ++ [c], e1, was, k) }
      | none =>
        ((({ s1 with pw.prepareOff := some ([c], none, isCaller s, 1), disp := { s1.disp with stopped := true } } : State).thaw 3).disarmAll 7).prepareStep

/-- PREPARE_OFF_STOP_TIMER: E1 + 2 was not evaluated within 1 s of its end. -/
def execPrepareOffStopTimer (s : State) : Out :=
  .next (match s.pw.prepareOff with
    | some (cs, some e1, was, 1) =>
      if s.core = .running ∧ epochStart s (e1 + 3) + 1000000 ≤ (fabUs s).getD 0 then
        (s.enterStopping cs (some e1) was).prepareStep
      else s
    | _ => s)

/-! ## The end of an epoch -/

/-- The new L from the start of E_a, with the base it gives (R521). -/
def State.changeLength (s : State) (ea : Nat) : State :=
  match s.repl.rep.scheduled with
  | some (e, rs, _, _) =>
    if e = ea ∧ rs.any (fun p => p.1 == 0) then
      let l := max 1 (u32 (copyBytes s (inactive s 0) 0 0 4) 0)
      let s1 := if l = s.cfg.len then s else
        { s with cfg.prev := (s.cfg.base.1, s.cfg.base.2, s.cfg.len), cfg.base := (ea, epochStart s ea), cfg.len := l }
      s1
    else s
  | none => s

/-- The sponsor names its joiners in the epoch that begins (R269). -/
def State.sponsor (s : State) (e : Nat) : State :=
  if s.repl.member ∧ inReplica s then
    s.repl.joinOf.foldl (fun (acc : State) j =>
      let seq := acc.fab.frameSeq
      ((acc.originate 0x02 0xFFFF (le 1 2 ++ zeros 3 ++ le 4 e ++ le 2 j.1 ++ zeros 2)).countOwn e seq 0 (.join j.1)).log 0x0310
        (le 4 e ++ le 2 j.1 ++ le 2 s.node ++ le 4 j.2))
      { s with repl.joinOf := [] }
  else { s with repl.joinOf := [] }

/-- Providers stop: no longer one, or E_a begins (R265, R266). -/
def State.checkProvider (s : State) (e : Nat) : State :=
  let atEa := match s.repl.rep.scheduled with | some (ea, _, _, _) => ea == e | none => false
  if s.repl.prov.isNone then s
  else if atEa then s.abortProvider 4
  else if !mayProvide s then s.abortProvider 2 else s

/-- A departing member that holds no evaluated state leaves once its departing epoch is past (R259). -/
def State.departUnevaluated (s : State) (e : Nat) : State :=
  match s.repl.sealed with
  | some (e0, _, _) =>
    if s.repl.sealFlags.toNat.testBit 1 ∧ e0 < e ∧ s.repl.reseed.isSome ∧ s.pw.prepareOff.isNone then s.leaveReplica else s
  | none => s

/-- Relays held by a re-seeding caller are released after two epochs (R200). -/
def State.releaseRelays (s : State) (e : Nat) : State :=
  match s.repl.holdRelays with
  | some (_, some lim) =>
    if s.repl.reseed.isSome ∧ lim < e then setRelays { s with repl.holdRelays := none } [false, false] else s
  | _ => s

/-- Epoch E ends and E + 1 begins. -/
def State.endEpoch (s : State) (e : Nat) : State :=
  let s0 := { s with repl.eligRun := if eligibleNow s then min 500 (s.repl.eligRun + 1) else 0 }
  let s1 := { (s0.changeLength (e + 1)) with repl.cur := e + 1 }.restamp e
  let s3 := (s1.resume.guardBoundary.sponsor (e + 1)).foundingBoundary (e + 1)
  ((((s3.checkProvider (e + 1)).departUnevaluated e).releaseRelays e).judgeOwn).prepareStep

/-- EPOCH_END (R12). A jump of the timebase moves to its epoch without the boundaries between. -/
def execEpochEnd (s : State) : Out :=
  .next (match timeUs s with
    | some t =>
      if s.core ≠ .running ∨ s.pw.failing ∨ t < epochStart s (s.repl.cur + 1) then s
      else if s.repl.cur + 8 < epochOf s t then { s with repl.cur := epochOf s t }
      else s.endEpoch s.repl.cur
    | none => s)

/-! ## Aggregates and votes (R250, R255, R257) -/

def ownSegment (s : State) : List Nat := s.repl.rep.members.filter fun m => segOf m == segOf s.node

/-- A member's absence in E as its segment knows it. -/
def segAbsent (s : State) (e m : Nat) : Bool := votedAbsent s e m || (decide (m = s.node) && ownSilent s e)

/-- The aggregate of the own segment (Table 09-4). -/
def aggregateBody (s : State) (e : Nat) : Bytes :=
  let ms := ownSegment s
  let present := ms.filter fun m => !segAbsent s e m && (sealHeld s e m).isSome
  let absent := (usedNodes s).filter fun n => segOf n == segOf s.node && (!ms.contains n || segAbsent s e n)
  let map (l : List Nat) : Bytes := bitmap 8 (l.map posOf)
  let flag (k : Nat) : List Nat := present.filter fun m => (sealOf s e m).any fun x => x.flags.toNat.testBit k
  let count (p : Nat) : Nat := match present.find? fun m => posOf m == p with
    | some m => ((sealOf s e m).map (·.counted)).getD 0
    | none => 0
  le 1 1 ++ le 1 (segOf s.node) ++ zeros 2 ++ le 4 e ++ map present ++ map absent ++ map (flag 0) ++ map (flag 1) ++ map (flag 2)
    ++ (List.range 64).flatMap fun p => le 2 (count p)

/-- A bridge holds every seal or absence of its segment for the epoch it is to evaluate next. -/
def aggregateDue (s : State) : Option Nat :=
  match s.repl.lastEval with
  | some x =>
    let e := x + 1
    if bridgeRole s ≠ 0 ∧ s.repl.member ∧ inReplica s ∧ ended s e ∧ s.repl.since ≤ e
        ∧ s.repl.aggSent.all (fun a => decide (a < e))
        ∧ (ownSegment s).all fun m => segAbsent s e m || (sealHeld s e m).isSome then some e else none
  | none => none

def State.sendAggregate (s : State) : State :=
  match aggregateDue s with
  | some e => { s with repl.aggSent := some e }.originateTrunk 0x01 (aggregateBody s e)
  | none => s

def execSegmentAggregateSend (s : State) : Out :=
  .next (if s.core = .running ∧ !s.pw.failing then s.sendAggregate else s)

/-- Send one vote (Table 09-5) and hold it; what it names is discarded from then on. -/
def State.castVote (s : State) (e kind port : Nat) (run banned : List Nat) : State :=
  match run with
  | [] => s
  | first :: _ =>
    let v : Vote := { epoch := e, kind, port, run := run.length, subject := first, voter := s.node }
    ({ s with repl.votes := s.repl.votes ++ [v], repl.voted := s.repl.voted ++ banned.map fun b => (e, b) } : State).originate
      0x02 0xFFFF (le 1 kind ++ le 1 port ++ le 1 run.length ++ zeros 1 ++ le 4 e ++ le 2 first ++ zeros 2) (kind == 3)

/-- Members beyond a port from whom no seal of E is held, up to the first whose seal is. -/
def unsealedRun (s : State) (e port : Nat) : List Nat :=
  (((beyond s port).filter fun n => decide (n ∈ s.repl.rep.members)).takeWhile fun n => (sealOf s e n).isNone).take 63

/-- Segments beyond a trunk port whose aggregate of E is not held. -/
def missingSegs (s : State) (e port : Nat) : List Nat :=
  ((livingSegs s e s.node port).takeWhile fun g => (aggsOf s e g).isEmpty).take 63

/-- A member that sealed E, which it has not evaluated, may vote on it. -/
def mayVote (s : State) (e : Nat) : Bool :=
  decide (s.core = .running) && s.repl.member && inReplica s && !s.pw.failing && (ownCount s e).sealLeft
    && (match s.repl.lastEval with | some x => decide (x < e) | none => true)

/-- SEGMENT_VOTE at (E + 1) × L + 320 µs + X_s. -/
def execSegmentVote (s : State) : Out :=
  .next (match s.tm.fab with
    | some ns =>
      let e := s.repl.cur - 1
      if mayVote s e ∧ s.repl.votedSeg ≠ some e ∧ epochStart s (e + 1) * 1000 + 320000 + xSegment s ≤ ns then
        let r0 := unsealedRun s e 0
        let r1 := unsealedRun s e 1
        ((({ s with repl.votedSeg := some e } : State).castVote e 1 0 r0 r0).castVote e 1 1 r1 r1).judgeOwn
      else s
    | none => s)

/-- TRUNK_VOTE at (E + 1) × L + 900 µs + X, by a bridge. -/
def execTrunkVote (s : State) : Out :=
  .next (match s.tm.fab with
    | some ns =>
      let e := s.repl.cur - 1
      if bridgeRole s ≠ 0 ∧ mayVote s e ∧ s.repl.votedTrunk ≠ some e
          ∧ epochStart s (e + 1) * 1000 + 900000 + xSystem s ≤ ns then
        let r2 := missingSegs s e 2
        let r3 := missingSegs s e 3
        ((({ s with repl.votedTrunk := some e } : State).castVote e 3 2 r2 (r2.map (4096 + ·))).castVote e 3 3 r3
          (r3.map (4096 + ·))).judgeOwn
      else s
    | none => s)

/-! ## Evaluation -/

/-- Setpoints and output commands follow the evaluated picture (R345, R379). -/
def State.fieldOutputs (s : State) : State := ({ s with repl.fieldOn := true } : State).outputSetpoints.dioCommands

/-- The same from a picture held until its release (R346). -/
def State.outputsOf (s : State) (r : Replica) : State :=
  let s1 := ({ s with repl.rep := r } : State).fieldOutputs
  { s1 with repl.rep := s.repl.rep }

/-- Both coils are supervised once in every epoch of the node's time (R204). -/
def State.superviseCoils (s : State) (e : Nat) (r : EvalReport) : State :=
  if s.repl.coilAt < s.repl.cur then
    { (s.coilStep e 0 r.coil1).coilStep e 1 r.coil2 with repl.coilAt := s.repl.cur }
  else s

/-- So they are by a node that evaluates nothing in an epoch: in START, in STOPPING, while it re-seeds and while inputs
are missing (R204). -/
def State.idleCoils (s : State) (r : EvalReport) : State :=
  if s.core = .running ∧ !s.pw.failing then s.superviseCoils (s.repl.cur - 1) r else s

/-- While a re-seed runs the lanes run the self-test; one that fails it is retired (R173, R177). -/
def State.reseedTest (s : State) (r : EvalReport) : State :=
  if s.core = .running ∧ s.repl.reseed.isSome = true then s.failIdle (epochField s) (r.selfTestFail.toNat &&& laneMask s)
  else s

/-- Emit an evaluated epoch and let the call, the outputs and the digest follow (R15). -/
def State.afterEval (s : State) (e : Nat) (r : EvalReport) (v : Evald) (absent : Bool) : State :=
  let s1 := ((s.markEmitted v.works).noteSeen e).laneReport e r
  let held := decide (laneCount s1 = 1) && decide (s1.op ≠ .island)
  let s2 := s1.emit e (v.items ++ [.pages (contents s1 [0, 1, 2, 3])]) State.render
  let s3 := (s2.driveRelays e absent).superviseCoils e r
  let s4 := s3.answerAll e v.results
  if held then
    let waiting := s4.repl.heldOut
    let s5 := (s4.sendDigest e).compareDigest e State.render
    match (waiting.filter fun h => !s5.repl.heldOut.any (·.epoch == h.epoch)).getLast? with
    | some h => if s5.repl.reseed.isNone then s5.outputsOf h.rep else s5
    | none => s5
  else (s4.fieldOutputs.sendDigest e).compareDigest e State.render

/-- Regions that became node-active or were awaited by commits go on once a schedule has ended. -/
def State.afterActivation (s : State) (before : State) : State :=
  match before.repl.rep.scheduled, s.repl.rep.scheduled with
  | none, some (ea, rs, _, _) =>
    if rs.any fun p => p.1 == 0 then
      { s with cfg.oldIdent := some (crc32c (copyBytes s (inactive s 0) 0 16 262144), ea + 2) }
    else s
  | some (ea, rs, _, _), none =>
    (if rs.any fun p => p.1 == 0 then ({ s with cfg.oldIdent := some (tableIdentity before, ea + 2) } : State).judgePorts else s).promote
  | _, _ => s

/-- A joiner becomes a member of M(E + 1): republication, GUARD from the next epoch boundary (R28), and the witness
records kept until now (R269, R272, R514). -/
def State.becomeMember (s : State) (e : Nat) : State :=
  let s1 := { s with repl.member := true, repl.since := e + 1, repl.republish := true, repl.req := none
                     repl.digestOk := none, cfg.joined := true, lanes.trigger := true }
  let kept := s1.rcd.witHeld
  kept.foldl (fun (acc : State) b => acc.witness b) { s1 with rcd.witHeld := [] }

/-- Membership of this node after evaluating E. -/
def State.afterMembership (s : State) (e : Nat) (wasIn : Bool) (absent : Bool) : State :=
  let isIn := decide (s.node ∈ s.repl.rep.members)
  let s1 := if !wasIn ∨ absent then s.missSnapshots e else s
  if isIn then
    if !s1.repl.member then (if s1.repl.founding.ef.any fun f => decide (e ≤ f + 1) then s1 else s1.becomeMember e)
    else
      let s2 := { s1 with cfg.joined := true }
      if absent then { s2 with repl.republish := true } else s2
  else if wasIn ∧ s1.repl.member then
    match s1.pw.prepareOff with
    | some (cs, some e1, was, 1) =>
      if s1.repl.departing then (s1.enterStopping cs (some e1) was).prepareStep else s1.leaveAbsent e
    | _ => if s1.repl.sealFlags.toNat.testBit 1 then s1.leaveReplica else s1.leaveAbsent e
  else
    match s1.repl.req with
    | some r =>
      -- a sponsor that is no longer a member makes the joiner ask the next provider (R269)
      if r.readySent.isSome ∧ !(r.readyTo.getLast?.any fun n => decide (n ∈ s1.repl.rep.members)) then s1.sendReady r else s1
    | none => s1

/-- Evaluate E in the replica. -/
def State.evalEpoch (s : State) (e : Nat) (report : EvalReport) : State :=
  let r := judged s e report
  if noMajority (arrangement s) r then ((s.laneNoMajority e r).superviseCoils e r).startReseed 3
  else
    let founding := foundingEpoch s e
    let s0 := if founding ∧ s.repl.founding.ef = some (e - 1) then { s with repl.rep.joins := rosterOf s } else s
    let i := epochIn s0 e
    let wasIn := decide (s.node ∈ s0.repl.rep.members)
    let absent := decide (s.node ∈ i.declared)
    if !founding ∧ s.repl.member ∧ absent ∧ (ownCount s e).sealLeft then
      let s1 := s.membershipFault e 1 s.node
      if thriceAbsent ((e, s0.repl.rep.members, i.declared) :: s0.repl.rep.absents) s.node then s1.leaveAbsent e
      else s1.faultOne e
    else
      let v := evalCore s0 i
      let s2 : State := ((s.take e i v).afterEval e r v absent).afterActivation s0
      let s3 : State := (s2.freezeImage e).dropInputs e
      let s4 : State := if s3.repl.rep.call.caller = some s.node then s3.disarmAll 6 else s3
      (s4.afterMembership e wasIn absent).prepareStep

/-- Evaluate E over the node's own tags (R31). -/
def State.evalIsland (s : State) (e : Nat) (report : EvalReport) : State :=
  let r := judged s e report
  let own := (framingOrder s.repl.pending).filter fun u => decide (epochOf s u.stamp ≤ e)
  let s0 := { s with repl.pending := s.repl.pending.filter fun u => !decide (epochOf s u.stamp ≤ e) }
  if noMajority (arrangement s) r then { (s.laneNoMajority e r).superviseCoils e r with repl.lastEval := some e }
  else
    let v := evalCore s0 { e, island := true, own }
    let s1 := { v.st with repl.lastEval := some e, repl.lastEvalAt := s.tm.now }
    (s1.afterEval e r v false).prepareStep

/-- The node may evaluate: a member that holds its evaluated state, a joiner that has sent ready, a node of the
founding. -/
def mayEvaluate (s : State) (e : Nat) : Bool :=
  s.repl.reseed.isNone && ((s.repl.member && inReplica s) || s.repl.req.any (fun r => r.readySent.isSome)
    || (foundingEpoch s e && s.repl.req.isNone))

/-- EPOCH_EVALUATE (R13, R115): the next epoch, once it has ended and nothing of it is missing. -/
def execEpochEvaluate (r : EvalReport) (s : State) : Out :=
  .next (
    if s.core ≠ .running ∨ s.pw.failing then s
    else match s.repl.lastEval with
      | none => s.idleCoils r
      | some x =>
        let e := x + 1
        if s.op = .island then
          (if (timeUs s).any fun t => decide (epochStart s (e + 1) ≤ t) then s.evalIsland e r else s)
        else if !mayEvaluate s e ∨ !ended s e then (s.judgeOwn.idleCoils r).reseedTest r
        else
          let s1 := s.sendAggregate
          if foundingEpoch s e ∨ (missing s1 e).isNone then s1.evalEpoch e r else s1.idleCoils r)

/-! ## Deadlines (R259) -/

/-- The node replays logged epochs. -/
def replaying (s : State) : Bool := s.repl.req.any fun r => r.replaying && r.readySent.isNone

/-- The re-seed under way, if any, ends without success: its record (R270, R279). -/
def State.failReseed (s : State) : State :=
  match s.repl.req with
  | some r => if r.reseed then { s with repl.req := none }.log 0x0313 (reseedBody s r 3) else s
  | none => s

/-- INPUT_INCOMPLETE, while following or replaying: a member re-seeds; a joiner drops its state and begins again. -/
def execInputIncomplete (s : State) : Out :=
  .next (
    match s.repl.lastEval with
    | none => s
    | some x =>
      let e := x + 1
      let late := decide (epochStart s (e + 1) + max (2 * epochLen s) 4000 ≤ (fabUs s).getD 0)
      match missing s e with
      | some (kind, n, want, have_) =>
        if s.core = .running ∧ !s.pw.failing ∧ s.op ≠ .island ∧ late ∧ (mayEvaluate s e ∨ replaying s) ∧ !foundingEpoch s e then
          let s1 := { s with repl.incomplete := sat32 (s.repl.incomplete + 1) }.logNotifyAt 0x0315
            (le 4 e ++ le 1 kind ++ zeros 1 ++ le 2 n ++ le 2 (sat16 want) ++ le 2 (sat16 have_)) 0xC0F5 e (memberEvent 5 n e)
          if s.repl.member then s1.failReseed.startReseed 2
          else { s1 with repl.req := none, repl.lastEval := none, repl.retryAt := s.tm.now + 10000000 }
        else s
      | none => s)

/-- NO_EVALUATION_TIMEOUT: no epoch evaluated for 3 s; DEPARTING in the next seal, and the join steps (R259). -/
def execNoEvaluationTimeout (s : State) : Out :=
  .next (
    if s.core = .running ∧ s.repl.member ∧ inReplica s ∧ !s.repl.departing ∧ s.repl.lastEvalAt + 3000000 ≤ s.tm.now then
      let s1 := ({ s with repl.departing := true } : State).membershipFault (epochField s) 3 s.node
      if s1.repl.reseed.isNone then s1.startReseed 2 else s1
    else s)

/-! ## The recorder's write (R407) -/

/-- RECORD_WRITE: the next queued record, with the die errors and the silent dies the hardware reports. -/
def execRecordWrite (dieErrors : List Nat) (silentDies : BitVec 5) (s : State) : Out :=
  .next (if s.core = .running then s.recordWrite State.render dieErrors silentDies else s)

end Sys2Proof.Machine
end

