-- ==== Sys2Proof/Machine/Dispatch.lean ====
section
/-! DEFINITION. The dispatch: one arm per command of the opcode table, in table order. -/

namespace Sys2Proof.Machine

/-- The effect of a command on everything but the queue. -/
def exec (i : Instr) (s : State) : Host.Outcome State Fault Refusal :=
  match i with
  | .nodeIdentify c => Sys2Proof.Machine.execNodeIdentify c s
  | .nodeSubscribe c => Sys2Proof.Machine.execNodeSubscribe c s
  | .nodeRingStatus c => Sys2Proof.Machine.execNodeRingStatus c s
  | .tagRead c => Sys2Proof.Machine.execTagRead c s
  | .tagReadRange c => Sys2Proof.Machine.execTagReadRange c s
  | .alarmList c => Sys2Proof.Machine.execAlarmList c s
  | .alarmAck c => Sys2Proof.Machine.execAlarmAck c s
  | .alarmShelve c => Sys2Proof.Machine.execAlarmShelve c s
  | .alarmUnshelve c => Sys2Proof.Machine.execAlarmUnshelve c s
  | .alarmSetOos c => Sys2Proof.Machine.execAlarmSetOos c s
  | .alarmClearOos c => Sys2Proof.Machine.execAlarmClearOos c s
  | .alarmReset c => Sys2Proof.Machine.execAlarmReset c s
  | .alarmGroupList c => Sys2Proof.Machine.execAlarmGroupList c s
  | .alarmBundle c => Sys2Proof.Machine.execAlarmBundle c s
  | .alarmEdges c => Sys2Proof.Machine.execAlarmEdges c s
  | .alarmAckBundle c => Sys2Proof.Machine.execAlarmAckBundle c s
  | .nodeLanes c => Sys2Proof.Machine.execNodeLanes c s
  | .nodeSetProfile c => Sys2Proof.Machine.execNodeSetProfile c s
  | .callStatus c => Sys2Proof.Machine.execCallStatus c s
  | .callSetWatchOffer c => Sys2Proof.Machine.execCallSetWatchOffer c s
  | .callSetWatchAccept c => Sys2Proof.Machine.execCallSetWatchAccept c s
  | .callSetWatchWithdraw c => Sys2Proof.Machine.execCallSetWatchWithdraw c s
  | .callDeadman c => Sys2Proof.Machine.execCallDeadman c s
  | .callRelayTest c => Sys2Proof.Machine.execCallRelayTest c s
  | .fabStatus c => Sys2Proof.Machine.execFabStatus c s
  | .timeRead c => Sys2Proof.Machine.execTimeRead c s
  | .timeSetSystem c => Sys2Proof.Machine.execTimeSetSystem c s
  | .fabMembers c => Sys2Proof.Machine.execFabMembers c s
  | .snapRead c => Sys2Proof.Machine.execSnapRead c s
  | .snapSchedule c => Sys2Proof.Machine.execSnapSchedule c s
  | .chanRead c => Sys2Proof.Machine.execChanRead c s
  | .chanMap c => Sys2Proof.Machine.execChanMap c s
  | .chanRetire c => Sys2Proof.Machine.execChanRetire c s
  | .chanRestore c => Sys2Proof.Machine.execChanRestore c s
  | .chanCheck c => Sys2Proof.Machine.execChanCheck c s
  | .chanCj c => Sys2Proof.Machine.execChanCj c s
  | .loopStatus c => Sys2Proof.Machine.execLoopStatus c s
  | .loopTransact c => Sys2Proof.Machine.execLoopTransact c s
  | .loopForce c => Sys2Proof.Machine.execLoopForce c s
  | .loopForceRelease c => Sys2Proof.Machine.execLoopForceRelease c s
  | .dioRead c => Sys2Proof.Machine.execDioRead c s
  | .dioWriteHostSet c => Sys2Proof.Machine.execDioWriteHostSet c s
  | .dioWriteForce c => Sys2Proof.Machine.execDioWriteForce c s
  | .dioWriteRelease c => Sys2Proof.Machine.execDioWriteRelease c s
  | .dioRestore c => Sys2Proof.Machine.execDioRestore c s
  | .recInfo c => Sys2Proof.Machine.execRecInfo c s
  | .recRead c => Sys2Proof.Machine.execRecRead c s
  | .recFreeze c => Sys2Proof.Machine.execRecFreeze c s
  | .recThaw c => Sys2Proof.Machine.execRecThaw c s
  | .recClear c => Sys2Proof.Machine.execRecClear c s
  | .timeSetWallmap c => Sys2Proof.Machine.execTimeSetWallmap c s
  | .dispStatus c => Sys2Proof.Machine.execDispStatus c s
  | .dispShowPage c => Sys2Proof.Machine.execDispShowPage c s
  | .dispClear c => Sys2Proof.Machine.execDispClear c s
  | .nodeClocks c => Sys2Proof.Machine.execNodeClocks c s
  | .nodeStatus c => Sys2Proof.Machine.execNodeStatus c s
  | .nodePrepareOff c => Sys2Proof.Machine.execNodePrepareOff c s
  | .ageLedger c => Sys2Proof.Machine.execAgeLedger c s
  | .ageReplan c => Sys2Proof.Machine.execAgeReplan c s
  | .cfgStatus c => Sys2Proof.Machine.execCfgStatus c s
  | .cfgBegin c => Sys2Proof.Machine.execCfgBegin c s
  | .cfgWrite c => Sys2Proof.Machine.execCfgWrite c s
  | .cfgCommit c => Sys2Proof.Machine.execCfgCommit c s
  | .cfgAbandon c => Sys2Proof.Machine.execCfgAbandon c s
  | .cfgActivate c => Sys2Proof.Machine.execCfgActivate c s
  | .injStatus c => Sys2Proof.Machine.execInjStatus c s
  | .injArm c => Sys2Proof.Machine.execInjArm c s
  | .injDisarm c => Sys2Proof.Machine.execInjDisarm c s
  | .secPorts c => Sys2Proof.Machine.execSecPorts c s
  | .secFuses c => Sys2Proof.Machine.execSecFuses c s
  | .secProgram c => Sys2Proof.Machine.execSecProgram c s
  | .secSeal c => Sys2Proof.Machine.execSecSeal c s
  | .secWithdrawInj c => Sys2Proof.Machine.execSecWithdrawInj c s
  | .hostDatagramReceived d => Sys2Proof.Machine.execHostDatagramReceived d s
  | .arpRequest port targetIp => Sys2Proof.Machine.execArpRequest port targetIp s
  | .icmpEchoRequest port targetIp ipLen => Sys2Proof.Machine.execIcmpEchoRequest port targetIp ipLen s
  | .svcBytesReceived bytes => Sys2Proof.Machine.execSvcBytesReceived bytes s
  | .svcPacketTimeout => Sys2Proof.Machine.execSvcPacketTimeout s
  | .usbEnumeration => Sys2Proof.Machine.execUsbEnumeration s
  | .duplicateWindowExpiry => Sys2Proof.Machine.execDuplicateWindowExpiry s
  | .subscriptionLapsed => Sys2Proof.Machine.execSubscriptionLapsed s
  | .relaySegmentReceived rx => Sys2Proof.Machine.execRelaySegmentReceived rx s
  | .relayReassemblyTimeout => Sys2Proof.Machine.execRelayReassemblyTimeout s
  | .relayReplyTimeout => Sys2Proof.Machine.execRelayReplyTimeout s
  | .epochEnd => Sys2Proof.Machine.execEpochEnd s
  | .sealSend => Sys2Proof.Machine.execSealSend s
  | .tagUpdateFraming => Sys2Proof.Machine.execTagUpdateFraming s
  | .sealReceived rx => Sys2Proof.Machine.execSealReceived rx s
  | .segmentAggregateSend => Sys2Proof.Machine.execSegmentAggregateSend s
  | .segmentAggregateReceived rx => Sys2Proof.Machine.execSegmentAggregateReceived rx s
  | .segmentVote => Sys2Proof.Machine.execSegmentVote s
  | .trunkVote => Sys2Proof.Machine.execTrunkVote s
  | .segmentVoteReceived rx => Sys2Proof.Machine.execSegmentVoteReceived rx s
  | .trunkVoteReceived rx => Sys2Proof.Machine.execTrunkVoteReceived rx s
  | .membershipJoinReceived rx => Sys2Proof.Machine.execMembershipJoinReceived rx s
  | .tagUpdateReceived rx => Sys2Proof.Machine.execTagUpdateReceived rx s
  | .actionReceived rx => Sys2Proof.Machine.execActionReceived rx s
  | .digestReceived rx => Sys2Proof.Machine.execDigestReceived rx s
  | .epochEvaluate r => Sys2Proof.Machine.execEpochEvaluate r s
  | .inputIncomplete => Sys2Proof.Machine.execInputIncomplete s
  | .noEvaluationTimeout => Sys2Proof.Machine.execNoEvaluationTimeout s
  | .alarmActionPending => Sys2Proof.Machine.execAlarmActionPending s
  | .witnessRecordReceived rx => Sys2Proof.Machine.execWitnessRecordReceived rx s
  | .witnessAckReceived rx => Sys2Proof.Machine.execWitnessAckReceived rx s
  | .witnessResend => Sys2Proof.Machine.execWitnessResend s
  | .transferRequestReceived rx => Sys2Proof.Machine.execTransferRequestReceived rx s
  | .transferBlockSend => Sys2Proof.Machine.execTransferBlockSend s
  | .transferBlockReceived rx => Sys2Proof.Machine.execTransferBlockReceived rx s
  | .transferEndReceived rx => Sys2Proof.Machine.execTransferEndReceived rx s
  | .transferAbortReceived rx => Sys2Proof.Machine.execTransferAbortReceived rx s
  | .transferReadyReceived rx => Sys2Proof.Machine.execTransferReadyReceived rx s
  | .providerSearch => Sys2Proof.Machine.execProviderSearch s
  | .transferRetry => Sys2Proof.Machine.execTransferRetry s
  | .transferTimeout => Sys2Proof.Machine.execTransferTimeout s
  | .loggedEpochReplay => Sys2Proof.Machine.execLoggedEpochReplay s
  | .snapshotFrameReceived rx => Sys2Proof.Machine.execSnapshotFrameReceived rx s
  | .unknownFrameReceived rx => Sys2Proof.Machine.execUnknownFrameReceived rx s
  | .linkSyncAcquired port => Sys2Proof.Machine.execLinkSyncAcquired port s
  | .linkSyncLost port => Sys2Proof.Machine.execLinkSyncLost port s
  | .linkHelloSend => Sys2Proof.Machine.execLinkHelloSend s
  | .linkHelloReceived rx => Sys2Proof.Machine.execLinkHelloReceived rx s
  | .helloLossTimeout port => Sys2Proof.Machine.execHelloLossTimeout port s
  | .portHoldExpiry port => Sys2Proof.Machine.execPortHoldExpiry port s
  | .quietPhaseBoundary ms => Sys2Proof.Machine.execQuietPhaseBoundary ms s
  | .delayMeasure => Sys2Proof.Machine.execDelayMeasure s
  | .delayReqReceived rx => Sys2Proof.Machine.execDelayReqReceived rx s
  | .delayRespReceived rx => Sys2Proof.Machine.execDelayRespReceived rx s
  | .timeAnnounceSend => Sys2Proof.Machine.execTimeAnnounceSend s
  | .timeAnnounceReceived rx => Sys2Proof.Machine.execTimeAnnounceReceived rx s
  | .announceExpiry => Sys2Proof.Machine.execAnnounceExpiry s
  | .timeSyncSend => Sys2Proof.Machine.execTimeSyncSend s
  | .timeSyncReceived rx => Sys2Proof.Machine.execTimeSyncReceived rx s
  | .upstreamTimeout => Sys2Proof.Machine.execUpstreamTimeout s
  | .coldCandidateTimer => Sys2Proof.Machine.execColdCandidateTimer s
  | .operatingTimePersist => Sys2Proof.Machine.execOperatingTimePersist s
  | .timeAnchor => Sys2Proof.Machine.execTimeAnchor s
  | .founderTimer => Sys2Proof.Machine.execFounderTimer s
  | .foundingAnnounceSend => Sys2Proof.Machine.execFoundingAnnounceSend s
  | .foundingAnnounceReceived rx => Sys2Proof.Machine.execFoundingAnnounceReceived rx s
  | .foundingReadySend => Sys2Proof.Machine.execFoundingReadySend s
  | .foundingReadyReceived rx => Sys2Proof.Machine.execFoundingReadyReceived rx s
  | .foundingRosterReceived rx => Sys2Proof.Machine.execFoundingRosterReceived rx s
  | .conversionResult bank slice r => Sys2Proof.Machine.execConversionResult bank slice r s
  | .pulsedRequest channel => Sys2Proof.Machine.execPulsedRequest channel s
  | .leadTimeExpiry bank slice => Sys2Proof.Machine.execLeadTimeExpiry bank slice s
  | .wireCheckWindowStart channel => Sys2Proof.Machine.execWireCheckWindowStart channel s
  | .wireCheckWindowEnd channel ohms => Sys2Proof.Machine.execWireCheckWindowEnd channel ohms s
  | .clampConduction bank terminal conducting => Sys2Proof.Machine.execClampConduction bank terminal conducting s
  | .clampFlagTimeout bank terminal => Sys2Proof.Machine.execClampFlagTimeout bank terminal s
  | .selfCheckDone bank slice offsetErr gainPpm => Sys2Proof.Machine.execSelfCheckDone bank slice offsetErr gainPpm s
  | .inPlaceCheckTimer channel => Sys2Proof.Machine.execInPlaceCheckTimer channel s
  | .roveVisitStart bank slice => Sys2Proof.Machine.execRoveVisitStart bank slice s
  | .remapHandover channel => Sys2Proof.Machine.execRemapHandover channel s
  | .housekeepingReading bank tA tB bankTemp supplyMv => Sys2Proof.Machine.execHousekeepingReading bank tA tB bankTemp supplyMv s
  | .loopSupplyTrack bank readings => Sys2Proof.Machine.execLoopSupplyTrack bank readings s
  | .loopComplianceCheck bank readings => Sys2Proof.Machine.execLoopComplianceCheck bank readings s
  | .loopFault channel => Sys2Proof.Machine.execLoopFault channel s
  | .driverThermalLimit reading => Sys2Proof.Machine.execDriverThermalLimit reading s
  | .setpointRefresh bank frame => Sys2Proof.Machine.execSetpointRefresh bank frame s
  | .holdExpired bank => Sys2Proof.Machine.execHoldExpired bank s
  | .nselRead bank ohms => Sys2Proof.Machine.execNselRead bank ohms s
  | .instrumentRead channel slot => Sys2Proof.Machine.execInstrumentRead channel slot s
  | .hartPoll channel => Sys2Proof.Machine.execHartPoll channel s
  | .carrierFreeWait channel => Sys2Proof.Machine.execCarrierFreeWait channel s
  | .hartResponseReceived channel bytes parityOk => Sys2Proof.Machine.execHartResponseReceived channel bytes parityOk s
  | .hartResponseTimeout channel => Sys2Proof.Machine.execHartResponseTimeout channel s
  | .windowPreemption channel => Sys2Proof.Machine.execWindowPreemption channel s
  | .loopForceExpiry channel => Sys2Proof.Machine.execLoopForceExpiry channel s
  | .dioFilterCount channel high => Sys2Proof.Machine.execDioFilterCount channel high s
  | .fsState supply mv => Sys2Proof.Machine.execFsState supply mv s
  | .fsOff supply mv => Sys2Proof.Machine.execFsOff supply mv s
  | .fsRestore supply mv => Sys2Proof.Machine.execFsRestore supply mv s
  | .fsChannelResume channel => Sys2Proof.Machine.execFsChannelResume channel s
  | .cellReset channel => Sys2Proof.Machine.execCellReset channel s
  | .couplerRefresh channel frame => Sys2Proof.Machine.execCouplerRefresh channel frame s
  | .dioHoldExpired channel => Sys2Proof.Machine.execDioHoldExpired channel s
  | .hostLeaseExpiry channel => Sys2Proof.Machine.execHostLeaseExpiry channel s
  | .outputOverload channel ma thermal => Sys2Proof.Machine.execOutputOverload channel ma thermal s
  | .overloadRetry channel => Sys2Proof.Machine.execOverloadRetry channel s
  | .stuckOff channel ma present => Sys2Proof.Machine.execStuckOff channel ma present s
  | .backfeed channel mv present => Sys2Proof.Machine.execBackfeed channel mv present s
  | .openLoad channel ma present => Sys2Proof.Machine.execOpenLoad channel ma present s
  | .offPulse channel mv => Sys2Proof.Machine.execOffPulse channel mv s
  | .dioForceExpiry channel => Sys2Proof.Machine.execDioForceExpiry channel s
  | .recordWrite dieErrors silentDies => Sys2Proof.Machine.execRecordWrite dieErrors silentDies s
  | .freezeExpiry => Sys2Proof.Machine.execFreezeExpiry s
  | .panelIdentityRead panel id => Sys2Proof.Machine.execPanelIdentityRead panel id s
  | .displayUpdateStart panel railFault railMv => Sys2Proof.Machine.execDisplayUpdateStart panel railFault railMv s
  | .displayUpdateEnd panel => Sys2Proof.Machine.execDisplayUpdateEnd panel s
  | .railOffTimer => Sys2Proof.Machine.execRailOffTimer s
  | .railFaultRetry panel railFault railMv => Sys2Proof.Machine.execRailFaultRetry panel railFault railMv s
  | .pageHoldExpiry panel => Sys2Proof.Machine.execPageHoldExpiry panel s
  | .supplyValid mv heldMs => Sys2Proof.Machine.execSupplyValid mv heldMs s
  | .oscillatorStable bosc runs => Sys2Proof.Machine.execOscillatorStable bosc runs s
  | .boscAttemptTimer => Sys2Proof.Machine.execBoscAttemptTimer s
  | .clockStartDecision => Sys2Proof.Machine.execClockStartDecision s
  | .coreStartUp r => Sys2Proof.Machine.execCoreStartUp r s
  | .startMembershipTimeout => Sys2Proof.Machine.execStartMembershipTimeout s
  | .clockMonitorTrip f stretchNs => Sys2Proof.Machine.execClockMonitorTrip f stretchNs s
  | .xoRetry runs windows offsets => Sys2Proof.Machine.execXoRetry runs windows offsets s
  | .boscRetry runs => Sys2Proof.Machine.execBoscRetry runs s
  | .woscCheck khz => Sys2Proof.Machine.execWoscCheck khz s
  | .supplyEvent input mv heldMs => Sys2Proof.Machine.execSupplyEvent input mv heldMs s
  | .supplyWarning mv heldMs => Sys2Proof.Machine.execSupplyWarning mv heldMs s
  | .supplyLoss mv fallMv => Sys2Proof.Machine.execSupplyLoss mv fallMv s
  | .supplyRestart mv heldMs => Sys2Proof.Machine.execSupplyRestart mv heldMs s
  | .watchdogTimeout => Sys2Proof.Machine.execWatchdogTimeout s
  | .stoppingTimeout => Sys2Proof.Machine.execStoppingTimeout s
  | .prepareOffStopTimer => Sys2Proof.Machine.execPrepareOffStopTimer s
  | .svcKeyChange ohms heldUs => Sys2Proof.Machine.execSvcKeyChange ohms heldUs s
  | .dramUncorrectable address => Sys2Proof.Machine.execDramUncorrectable address s
  | .dramScrub corrected => Sys2Proof.Machine.execDramScrub corrected s
  | .ageMeasurement entry site value => Sys2Proof.Machine.execAgeMeasurement entry site value s
  | .historySample => Sys2Proof.Machine.execHistorySample s
  | .replan heldUpReadings => Sys2Proof.Machine.execReplan heldUpReadings s
  | .flashProgramDone region => Sys2Proof.Machine.execFlashProgramDone region s
  | .injDurationExpiry injector => Sys2Proof.Machine.execInjDurationExpiry injector s
  | .injHoldRelease injector => Sys2Proof.Machine.execInjHoldRelease injector s
  | .relayTestEnd relay => Sys2Proof.Machine.execRelayTestEnd relay s
  | .hostLinkChange port speed => Sys2Proof.Machine.execHostLinkChange port speed s
  | .holdUpSpent => Sys2Proof.Machine.execHoldUpSpent s
  | .uncontainedInternalFault => Sys2Proof.Machine.execUncontainedInternalFault s

end Sys2Proof.Machine
end

