-- ==== Sys2Proof/Machine/Tick.lean ====
section
/-! DEFINITION. One microsecond of the node's own time (log entry 1, DESIGN CHOICE): what step does when no command waits. Time
advances, queued replies, notifications and frames leave, what follows from the state alone is done, and the command
processor takes one command from its rings. -/

namespace Sys2Proof.Machine

/-! ## Time (R11, R410, R452) -/

/-- What fabric time gains in a microsecond of the timebase at the rate in force, in ns, and the part of a ns left over in
10⁻⁶ ns (R231). -/
def fabricGain (s : State) : Nat × Nat :=
  let x := (1000000000 + s.fab.rate).toNat + s.fab.rateSub
  (x / 1000000, x % 1000000)

/-- The fibre ports' monitors (R240; log entry 85). -/
def measured (s : State) : List FabPort :=
  s.fab.ports.zipIdx.map fun p =>
    { p.1 with optPower := max (-400) (Config.optPower s.tm.now p.2), bias := Config.txBias s.tm.now p.2 }

/-- The timebase, fabric time and operating time advance by one microsecond. Operating time counts powered time with
a core clock; a core in reset after a power-fail counts none. -/
def State.advanceTime (s : State) : State :=
  let runs := switchRuns s
  let counts := runs && !s.pw.failing
  let sub := s.tm.opSub + 1
  { s with
    tm := { s.tm with
      now := s.tm.now + 1
      fab := s.tm.fab.map fun t => if runs then t + (fabricGain s).1 else t
      op := if counts && decide (100 ≤ sub) then (s.tm.op + 1) % 0x1000000000000 else s.tm.op
      opSub := if counts then sub % 100 else s.tm.opSub }
    fab := if runs then
        { s.fab with ports := measured s, rateSub := if s.tm.fab.isSome then (fabricGain s).2 else s.fab.rateSub }
      else s.fab }

/-! ## Replies (R24, R44, R62, R68) -/

/-- A reply to a relayed command leaves in a relay body, once Q22 has room for it. -/
def State.sendRelayed (s : State) (o : OutPkt) : Option State :=
  match o.dest with
  | .relay node tag =>
    let body := relayBody node o.origPort 1 tag o.pkt
    if 256 < outUsed s 2 + ceilDiv body.length 232 then none else some (s.sendRelay node tag 1 body)
  | _ => some s

/-- Whether a port's wire takes a packet now: `SVC` while a USB host is enumerated and reading (R61). -/
def takes (s : State) (port : Nat) : Bool := port != 2 || (s.ports.usb && Config.usbReads s.tm.now)

/-- A packet leaves for an originator: on a host port through its next hop (R57). -/
def State.leaves (s : State) (dest : Originator) : State :=
  match dest with
  | .host p ip _ => { s with ports.hop := upd s.ports.hop p fun _ => nextHop s p ip.toNat }
  | _ => s

/-- The oldest packet of a port's outbound queue leaves; then the reserve of P0 to P2. -/
def State.sendReply (s : State) (port : Nat) : State :=
  match nth s.ports.outRings port with
  | o :: rest =>
    let gone (t : State) : State := { t with ports.outRings := upd t.ports.outRings port fun _ => rest }
    if 3 ≤ port ∧ port ≤ 6 then
      match s.sendRelayed o with
      | some t => gone t
      | none => s
    else if takes s port then gone (s.leaves o.dest) else s
  | [] =>
    if port ≤ 2 then
      match nth s.ports.reserve port with
      | o :: rest =>
        if takes s port then { s.leaves o.dest with ports.reserve := upd s.ports.reserve port fun _ => rest } else s
      | [] => s
    else s

/-! ## Notifications (R46, R52) -/

/-- The first position at or after a read position whose descriptor is not for one lapsed subscriber. -/
def NotifRing.skip (r : NotifRing) (k : Nat) : Nat :=
  k + ((r.items.drop (k - r.first)).takeWhile fun n => n.only.isSome).length

/-- The next notification a subscriber is due: the ring's slot, its position there and the notification. -/
def nextNotif (s : State) (u : Subscription) : Option (Nat × Nat × Notif) :=
  (List.range 5).findSome? fun i =>
    let r : NotifRing := nth s.ports.notifs i
    let k := r.skip (nth u.read i)
    if u.has i && decide (r.first ≤ k) then (r.items[k - r.first]?).map fun n => (i, k, n) else none

/-- A subscriber after its next notification has left in its packet (R46): the count runs on and the lost count starts
again. -/
def Subscription.sent (u : Subscription) (i k : Nat) (p : Bytes) : Subscription :=
  { u with count := (u.count + 1) % 65536, lost := 0, read := upd u.read i fun _ => k + 1, last := p }

/-- Each subscriber whose port takes a packet is sent one notification. -/
def State.sendNotifs (s : State) : State :=
  let due (u : Subscription) : Option (Nat × Nat × Notif) :=
    match nextNotif s u with
    | some x => if takes s u.port then some x else none
    | none => none
  let s1 := (s.ports.subs.filter fun u => (due u).isSome).foldl (fun (acc : State) (u : Subscription) => acc.leaves u.orig) s
  { s1 with ports.subs := s.ports.subs.map fun (u : Subscription) => match due u with
    | some (i, k, n) => u.sent i k (notifPacket s u n)
    | none => u }

/-- The oldest SUBSCRIPTION_LAPSED that waits leaves for its one subscriber (R48). -/
def State.sendLapsed (s : State) : State :=
  let r : NotifRing := nth s.ports.notifs 4
  match r.items.find? fun n => n.only.isSome && !n.sent with
  | some n =>
    match n.only with
    | some u =>
      if takes s u.port then
        let i := r.items.findIdx (fun n => n.only.isSome && !n.sent)
        let r1 : NotifRing := { r with items := upd r.items i (fun n => { n with sent := true }) }
        { s.leaves u.orig with ports.notifs := upd s.ports.notifs 4 (fun _ => r1) }
      else s
    | none => s
  | none => s

/-- A descriptor that everyone it is for has been sent is released. -/
def NotifRing.release (r : NotifRing) (reads : List Nat) : NotifRing :=
  let lapsed := r.first + (r.items.findIdx fun n => n.only.isSome && !n.sent)
  let to_ := (reads.map r.skip).foldl min (min lapsed (r.first + r.items.length))
  { first := max r.first to_, items := r.items.drop (to_ - r.first) }

def State.releaseNotifs (s : State) : State :=
  let ring (p : NotifRing × Nat) : NotifRing := p.1.release ((s.ports.subs.filter fun u => u.has p.2).map fun u => nth u.read p.2)
  { s with ports.notifs := s.ports.notifs.zipIdx.map ring }

/-! ## Frames (R25, R211, R214, R229) -/

/-- A frame of the port's own logic. -/
def isLink (f : Frame) : Bool := decide (0x0A ≤ f.type ∧ f.type ≤ 0x0C)

/-- A port takes no frames from the rings and forgets them, unless it is UP; a dark port holds them. A port that is
neither sends only its link frames. -/
def mayLeave (s : State) (p : Nat) (f : Frame) : Bool :=
  isUp s p || (linkFrames s p && isLink f)

/-- In QUIET the frames to be originated wait from 4.0 ms to 25.0 ms of each epoch; link-local ones do not (R229,
Table 08-7). -/
def quietHolds (s : State) (f : Frame) : Bool :=
  quietSystem s && decide (f.dest ≠ 0xFFFE ∧ 4000 ≤ quietPhase s ∧ quietPhase s < 25000)

/-- Frames waiting for a port, in the order of R25: transit of class 0 and 1, own of class 0 and 1, then each class
with transit first. `none` marks transit, else the ring. -/
def waiting (s : State) (p : Nat) : List (Option Nat × TxFrame) :=
  let cls (t : TxFrame) : Nat := t.frame.class
  let transit (c : Nat) : List (Option Nat × TxFrame) :=
    (s.fab.transit.filter fun t => t.ports.contains p && cls t == c).map fun t => (none, t)
  let own (c : Nat) : List (Option Nat × TxFrame) := ((nth s.fab.out c).filter fun t => t.ports.contains p && !quietHolds s t.frame).map fun t => (some c, t)
  transit 0 ++ transit 1 ++ own 0 ++ own 1 ++ transit 2 ++ own 2 ++ transit 3 ++ own 3

/-- Take a port off a frame; a frame with no port left is gone. -/
def dropPort (p : Nat) (t : TxFrame) (l : List TxFrame) : List TxFrame :=
  match l with
  | [] => []
  | x :: rest =>
    if x = t then
      (if (t.ports.filter (· != p)).isEmpty then rest else { t with ports := t.ports.filter (· != p) } :: rest)
    else x :: dropPort p t rest

def State.takeFrame (s : State) (p : Nat) (w : Option Nat × TxFrame) : State :=
  match w.1 with
  | none => { s with fab.transit := dropPort p w.2 s.fab.transit }
  | some c => { s with fab.out := upd s.fab.out c (dropPort p w.2) }

/-- An own frame leaves by a segment port: a counted frame counts for its epoch (R247, R470), and a node whose seal
leaves has sealed its epoch (R254). -/
def State.countLeft (s : State) (p : Nat) (f : Frame) : State :=
  if f.origin ≠ s.node ∨ 2 ≤ p then s
  else match s.repl.own.find? fun o => o.seqs.contains f.seq with
    | some o => s.setOwn (if p = 0 then { o with left0 := o.left0 + 1 } else { o with left1 := o.left1 + 1 })
    | none => match s.repl.sealed with
      | some (e, _, g) => if g = f then s.setOwn { ownCount s e with sealLeft := true } else s
      | none => s

/-- One frame leaves by a port, through its transmit injector (R527), with its transmit time (R232, R234). A DARK port
holds its frames; from 24.0 ms its link frames leave (R230). -/
def State.sendFrame (s : State) (p : Nat) : State :=
  let dark := decide ((fport s p).state = .dark)
  match (waiting s p).filter fun w => !dark || (isLink w.2.frame && lit s p) with
  | [] => s
  | w :: _ =>
    let s1 := s.takeFrame p w
    if mayLeave s p w.2.frame then
      let f := w.2.frame.stamped (clockNs s)
      ((s1.countLeft p w.2.frame).delayLeft p f).inject 1 { port := p, bytes := f.bytes, coded := w.2.coded, ns := clockNs s } |>.1
    else s1

/-! ## The tick -/

/-- What leaves in a microsecond. -/
def State.traffic (s : State) : State :=
  let s1 := if s.core = .running then
      ((List.range 8).foldl (fun (acc : State) p => acc.sendReply p) s).sendNotifs.sendLapsed.releaseNotifs
    else s
  if switchRuns s1 then (List.range 4).foldl (fun (acc : State) p => acc.sendFrame p) s1 else s1

/-- A firmware activation restarts the core once everything it answered has left (R522). -/
def State.firmwareStep (s : State) : State :=
  if s.cfg.fwRestart ∧ s.ports.outRings.all List.isEmpty ∧ s.fab.out.all List.isEmpty then s.coreRestart 5 else s

/-- What follows from the state alone. -/
def State.consequences (s : State) : State :=
  if s.core = .running ∧ !s.pw.failing then (s.frameWitness.followFabricRef.judgeSealed.judgeOwn.prepareStep.promote).firmwareStep
  else if switchRuns s then s.followFabricRef
  else s

/-- One microsecond. -/
def tick (s : State) : Out :=
  let s1 := s.advanceTime.traffic.consequences
  if s1.core = .running ∧ !s1.pw.failing then
    match s1.intake with
    | (s2, some i) => exec i s2
    | (s2, none) => .next s2
  else .next s1

end Sys2Proof.Machine
end

