-- ==== Sys2Proof/Safety.lean ====
section
/-! DEFINITION. The terms claims use: a safe run, the units of the node, and what a command leaves behind. -/

namespace Sys2Proof.Machine

/-- `n` steps from a state that all answer a next state. -/
def runsSafely : Nat → State → Prop
  | 0, _ => True
  | n + 1, s => ∃ t, step s = .next t ∧ runsSafely n t

/-- The node has as many units as the manual gives it: rings Q00 to Q31 (R24), fuse words (R78), fabric ports (R209),
injectors (R527), analogue slices and channels (R280), digital channels (R372), field supplies (R376), panels (R427),
relays (R203), recorder dies (R399), banks and selector words of the configuration flash (R505), regions (R506), host
ports (R54) and notification rings (R24). -/
structure Units (s : State) : Prop where
  inRings  : s.ports.inRings.length = 8
  outRings : s.ports.outRings.length = 8
  high     : s.ports.high.length = 32
  drops    : s.ports.drops.length = 32
  fuses    : s.sec.fuses.length = 32
  fabPorts : s.fab.ports.length = 4
  fabOut   : s.fab.out.length = 4
  fabIn    : s.fab.inQ.length = 4
  inj      : s.inj.length = 8
  slices   : s.ana.slices.length = 40
  chans    : s.ana.chans.length = 32
  loops    : s.ana.loops.length = 32
  banks    : s.ana.banks.length = 4
  cells    : s.dio.cells.length = 48
  fs       : s.dio.fs.length = 2
  panels   : s.disp.panels.length = 4
  relays   : s.repl.relays.length = 2
  dies     : s.rcd.dies.length = 5
  lost     : s.rcd.lost.length = 5
  wit      : s.rcd.wit.length = 2
  entries  : s.age.entries.length = 16
  flash    : s.cfg.flash.length = 2
  dir      : s.cfg.dir.map List.length = [89, 89]
  selector : s.cfg.selector.length = 6
  reserve  : s.ports.reserve.length = 3
  notifs   : s.ports.notifs.length = 5
  links    : s.ports.links.length = 2
  echo     : s.ports.echo.length = 2
  arpSent  : s.ports.arpSent.length = 2
  echoSent : s.ports.echoSent.length = 2

/-- Every memory of the node stands in its canonical form (log entry 5, DESIGN CHOICE). -/
def MemoriesCanonical (s : State) : Prop :=
  (∀ m ∈ s.rcd.dies, m.wf = true) ∧ s.rcd.gasp.wf = true ∧ (∀ m ∈ s.cfg.flash, m.wf = true)

/-- The command processor runs, and the packet names the node itself and a port P0 to P7 (R24, R66). -/
structure Admitted (s : State) (c : Cmd) : Prop where
  units   : Units s
  running : s.core = .running
  slot    : c.slot = 0
  port    : c.port < 8

/-- `t` holds the reply to a command (R42) last on the reply ring of the command's port, and the other rings are as in
`s`. -/
def Replies (s t : State) (c : Cmd) (opcode status flags : Nat) (data : Bytes) : Prop :=
  nth t.ports.outRings c.port = nth s.ports.outRings c.port
      ++ [{ dest := c.orig, origPort := c.origPort
            pkt := packet (opcode + 0x8000) c.seq.toNat (s.node * 64 + c.slot) flags (le 2 status ++ data) }]
    ∧ ∀ p, p ≠ c.port → nth t.ports.outRings p = nth s.ports.outRings p

/-- `t` has replied, and all else at the ports but the windows and the high marks is as in `s`. -/
def Answers (s t : State) (c : Cmd) (opcode status flags : Nat) (data : Bytes) : Prop :=
  Replies s t c opcode status flags data
    ∧ t.ports = { s.ports with outRings := t.ports.outRings, high := t.ports.high, windows := t.ports.windows }

/-- `t` has refused a command for want of authority past step 6, in the port or in the key, counted it at its port (R82,
R89, R530), and done nothing else. -/
def Denies (s t : State) (c : Cmd) (opcode : Nat) (key : Bool) : Prop :=
  Replies s t c opcode (if key then Status.keyRequired else Status.notPermittedPort) 0 []
    ∧ t = { s with ports := { s.ports with
        outRings := t.ports.outRings, high := t.ports.high, windows := t.ports.windows
        refusedPort := if key then s.ports.refusedPort else upd s.ports.refusedPort c.port fun n => sat32 (n + 1)
        refusedKey := if key then upd s.ports.refusedKey c.port fun n => sat32 (n + 1) else s.ports.refusedKey } }

/-- The record type of an item behind the recorder. -/
def QItem.recordType : QItem → Option Nat
  | .own r => some r.type
  | .witness _ _ _ _ r => some r.type
  | .note .. => none
  | .pages _ => none

/-- `t` has records of the types given behind the recorder, in this order and after what waited in `s`; nothing else of
the recorder differs. -/
def Logs (s t : State) (types : List Nat) : Prop :=
  ∃ l : List QItem, t.rcd = { s.rcd with queue := s.rcd.queue ++ l } ∧ l.map QItem.recordType = types.map some

/-- Of replication, `t` differs from `s` at most in the results of owned tags and the updates they wait with (R248). -/
def Publishes (s t : State) : Prop :=
  t.repl = { s.repl with results := t.repl.results, pending := t.repl.pending, published := t.repl.published }

/-- Of the digital channels, `t` differs from `s` at most in the cell of channel `n`. -/
def OnlyCell (s t : State) (n : Nat) : Prop :=
  t.dio = { s.dio with cells := t.dio.cells } ∧ ∀ m, isDio m = true → m ≠ n → cell t m = cell s m

/-- Of the analogue channels, `t` differs from `s` at most in channel `ch` and its loop. -/
def OnlyChannel (s t : State) (ch : Nat) : Prop :=
  ∀ d, d ≠ ch → chan t d = chan s d ∧ loopSt t d = loopSt s d

/-- Of the display, `t` differs from `s` at most in panel `p`. -/
def OnlyPanel (s t : State) (p : Nat) : Prop :=
  t.disp = { s.disp with panels := t.disp.panels } ∧ ∀ q, q ≠ p → panel t q = panel s q

/-- A frame of a listed type that a running switch takes as the node formed it: no injector at its port, whole, header
and CRC-32C good; the inbound rings, which are acted on at once (log entry 12), hold nothing. -/
structure Arrives (s : State) (rx : RxFrame) : Prop where
  runs   : switchRuns s = true
  port   : rx.port < 4
  inj    : nth s.inj (2 * rx.port) = none
  coded  : rx.coded = false
  short  : 24 ≤ rx.bytes.length
  long   : rx.bytes.length ≤ 264
  head   : headerOk rx.bytes = true
  crc    : crcOk rx.bytes = true
  listed : (frameClass (hdrFrame rx.bytes).type).isSome = true
  inQ    : s.fab.inQ = List.replicate 4 []

/-- A link-local frame on an UP port. -/
structure ArrivesLocal (s : State) (rx : RxFrame) : Prop extends Arrives s rx where
  up   : isUp s rx.port = true
  dest : (hdrFrame rx.bytes).dest = 0xFFFE

/-- A frame for this node on an UP port, of which no copy was accepted before and which goes no further; `os` is what
is known of the origins once it is accepted (R220, R221). -/
structure ArrivesHere (s : State) (rx : RxFrame) (os : List OriginEntry) : Prop extends Arrives s rx where
  up     : isUp s rx.port = true
  dest   : (hdrFrame rx.bytes).dest = 0xFFFF ∨ (hdrFrame rx.bytes).dest = s.node
  node   : s.node < 0x1000
  origin : (hdrFrame rx.bytes).origin ≠ s.node
  voted  : votedAgainst s (hdrFrame rx.bytes) = false
  fresh  : acceptOrigin s.fab.origins (hdrFrame rx.bytes) = some os
  still  : (hdrFrame rx.bytes).ttl = 1 ∨ (hdrFrame rx.bytes).dest = s.node
  plain  : bridgeRole s = 0

/-- The fabric of `s` with one more accepted frame at a port. -/
def Fabric.counted (x : Fabric) (port : Nat) : Fabric :=
  { x with ports := upd x.ports port fun y => { y with accepted := sat32 (y.accepted + 1) } }

/-- The node once a frame has been accepted at its port and has left the inbound ring of its class again (R69, R228); `os`
is what is then known of the origins. -/
def State.accepted (s : State) (rx : RxFrame) (os : List OriginEntry) : State :=
  { s with fab := { s.fab.counted rx.port with origins := os }
           ports := { s.ports with high := upd s.ports.high (24 + (hdrFrame rx.bytes).class) (max 1) } }

end Sys2Proof.Machine
end

