-- ==== Sys2Proof/WellFormed.lean ====
section
/-! DEFINITION. Which commands are well formed: every unit they name exists (R24, R66, Tables 01-1, 10-1, 19-1). -/

namespace Sys2Proof

def inRange (lo x hi : Nat) : Bool := decide (lo ≤ x ∧ x ≤ hi)

/-- A packet that can have been admitted: ports P0 to P7, a slot of 6 bits, an origin that exists, a payload within
R36's length. -/
def Cmd.wf (c : Cmd) : Bool :=
  decide (c.port < 8) && decide (c.slot < 64) && decide (c.origNode < 4096) && decide (c.origPort < 8)
    && decide (c.payload.length ≤ 4080)

/-- A frame on one of the four fabric ports. -/
def RxFrame.wf (f : RxFrame) : Bool := decide (f.port < 4)

/-- Well-formedness of a command. -/
def Instr.wf : Instr → Bool
  | .nodeIdentify c => c.wf
  | .nodeSubscribe c => c.wf
  | .nodeRingStatus c => c.wf
  | .tagRead c => c.wf
  | .tagReadRange c => c.wf
  | .alarmList c => c.wf
  | .alarmAck c => c.wf
  | .alarmShelve c => c.wf
  | .alarmUnshelve c => c.wf
  | .alarmSetOos c => c.wf
  | .alarmClearOos c => c.wf
  | .alarmReset c => c.wf
  | .alarmGroupList c => c.wf
  | .alarmBundle c => c.wf
  | .alarmEdges c => c.wf
  | .alarmAckBundle c => c.wf
  | .nodeLanes c => c.wf
  | .nodeSetProfile c => c.wf
  | .callStatus c => c.wf
  | .callSetWatchOffer c => c.wf
  | .callSetWatchAccept c => c.wf
  | .callSetWatchWithdraw c => c.wf
  | .callDeadman c => c.wf
  | .callRelayTest c => c.wf
  | .fabStatus c => c.wf
  | .timeRead c => c.wf
  | .timeSetSystem c => c.wf
  | .fabMembers c => c.wf
  | .snapRead c => c.wf
  | .snapSchedule c => c.wf
  | .chanRead c => c.wf
  | .chanMap c => c.wf
  | .chanRetire c => c.wf
  | .chanRestore c => c.wf
  | .chanCheck c => c.wf
  | .chanCj c => c.wf
  | .loopStatus c => c.wf
  | .loopTransact c => c.wf
  | .loopForce c => c.wf
  | .loopForceRelease c => c.wf
  | .dioRead c => c.wf
  | .dioWriteHostSet c => c.wf
  | .dioWriteForce c => c.wf
  | .dioWriteRelease c => c.wf
  | .dioRestore c => c.wf
  | .recInfo c => c.wf
  | .recRead c => c.wf
  | .recFreeze c => c.wf
  | .recThaw c => c.wf
  | .recClear c => c.wf
  | .timeSetWallmap c => c.wf
  | .dispStatus c => c.wf
  | .dispShowPage c => c.wf
  | .dispClear c => c.wf
  | .nodeClocks c => c.wf
  | .nodeStatus c => c.wf
  | .nodePrepareOff c => c.wf
  | .ageLedger c => c.wf
  | .ageReplan c => c.wf
  | .cfgStatus c => c.wf
  | .cfgBegin c => c.wf
  | .cfgWrite c => c.wf
  | .cfgCommit c => c.wf
  | .cfgAbandon c => c.wf
  | .cfgActivate c => c.wf
  | .injStatus c => c.wf
  | .injArm c => c.wf
  | .injDisarm c => c.wf
  | .secPorts c => c.wf
  | .secFuses c => c.wf
  | .secProgram c => c.wf
  | .secSeal c => c.wf
  | .secWithdrawInj c => c.wf
  | .hostDatagramReceived d => decide (d.port < 2)
  | .arpRequest port _ => decide (port < 2)
  | .icmpEchoRequest port _ _ => decide (port < 2)
  | .svcBytesReceived _ => true
  | .svcPacketTimeout => true
  | .usbEnumeration => true
  | .duplicateWindowExpiry => true
  | .subscriptionLapsed => true
  | .relaySegmentReceived rx => rx.wf
  | .relayReassemblyTimeout => true
  | .relayReplyTimeout => true
  | .epochEnd => true
  | .sealSend => true
  | .tagUpdateFraming => true
  | .sealReceived rx => rx.wf
  | .segmentAggregateSend => true
  | .segmentAggregateReceived rx => rx.wf
  | .segmentVote => true
  | .trunkVote => true
  | .segmentVoteReceived rx => rx.wf
  | .trunkVoteReceived rx => rx.wf
  | .membershipJoinReceived rx => rx.wf
  | .tagUpdateReceived rx => rx.wf
  | .actionReceived rx => rx.wf
  | .digestReceived rx => rx.wf
  | .epochEvaluate r => decide (r.disputes.length ≤ 262144)
  | .inputIncomplete => true
  | .noEvaluationTimeout => true
  | .alarmActionPending => true
  | .witnessRecordReceived rx => rx.wf
  | .witnessAckReceived rx => rx.wf
  | .witnessResend => true
  | .transferRequestReceived rx => rx.wf
  | .transferBlockSend => true
  | .transferBlockReceived rx => rx.wf
  | .transferEndReceived rx => rx.wf
  | .transferAbortReceived rx => rx.wf
  | .transferReadyReceived rx => rx.wf
  | .providerSearch => true
  | .transferRetry => true
  | .transferTimeout => true
  | .loggedEpochReplay => true
  | .snapshotFrameReceived rx => rx.wf
  | .unknownFrameReceived rx => rx.wf
  | .linkSyncAcquired port => decide (port < 4)
  | .linkSyncLost port => decide (port < 4)
  | .linkHelloSend => true
  | .linkHelloReceived rx => rx.wf
  | .helloLossTimeout port => decide (port < 4)
  | .portHoldExpiry port => decide (port < 4)
  | .quietPhaseBoundary ms => [4, 5, 24, 25].contains ms
  | .delayMeasure => true
  | .delayReqReceived rx => rx.wf
  | .delayRespReceived rx => rx.wf
  | .timeAnnounceSend => true
  | .timeAnnounceReceived rx => rx.wf
  | .announceExpiry => true
  | .timeSyncSend => true
  | .timeSyncReceived rx => rx.wf
  | .upstreamTimeout => true
  | .coldCandidateTimer => true
  | .operatingTimePersist => true
  | .timeAnchor => true
  | .founderTimer => true
  | .foundingAnnounceSend => true
  | .foundingAnnounceReceived rx => rx.wf
  | .foundingReadySend => true
  | .foundingReadyReceived rx => rx.wf
  | .foundingRosterReceived rx => rx.wf
  | .conversionResult bank slice _ => decide (bank < 4) && decide (slice < 10)
  | .pulsedRequest channel => decide (channel < 32)
  | .leadTimeExpiry bank slice => decide (bank < 4) && decide (slice < 10)
  | .wireCheckWindowStart channel => decide (channel < 32)
  | .wireCheckWindowEnd channel _ => decide (channel < 32)
  | .clampConduction bank terminal _ => decide (bank < 4) && inRange 1 terminal 40
  | .clampFlagTimeout bank terminal => decide (bank < 4) && inRange 1 terminal 40
  | .selfCheckDone bank slice _ _ => decide (bank < 4) && decide (slice < 10)
  | .inPlaceCheckTimer channel => decide (channel < 32)
  | .roveVisitStart bank slice => decide (bank < 4) && decide (slice < 10)
  | .remapHandover channel => decide (channel < 32)
  | .housekeepingReading bank _ _ _ _ => decide (bank < 4)
  | .loopSupplyTrack bank readings => decide (bank < 4) && readings.all fun r => decide (r.channel < 32)
  | .loopComplianceCheck bank readings => decide (bank < 4) && readings.all fun r => decide (r.channel < 32)
  | .loopFault channel => decide (channel < 32)
  | .driverThermalLimit reading => decide (reading.channel < 32)
  | .setpointRefresh bank _ => decide (bank < 4)
  | .holdExpired bank => decide (bank < 4)
  | .nselRead bank _ => decide (bank < 4)
  | .instrumentRead channel slot => decide (channel < 32) && inRange 1 slot 63
  | .hartPoll channel => decide (channel < 32)
  | .carrierFreeWait channel => decide (channel < 32)
  | .hartResponseReceived channel _ _ => decide (channel < 32)
  | .hartResponseTimeout channel => decide (channel < 32)
  | .windowPreemption channel => decide (channel < 32)
  | .loopForceExpiry channel => decide (channel < 32)
  | .dioFilterCount channel _ => inRange 1 channel 48
  | .fsState supply _ => inRange 1 supply 2
  | .fsOff supply _ => inRange 1 supply 2
  | .fsRestore supply _ => inRange 1 supply 2
  | .fsChannelResume channel => inRange 1 channel 48
  | .cellReset channel => inRange 1 channel 48
  | .couplerRefresh channel _ => inRange 1 channel 48
  | .dioHoldExpired channel => inRange 1 channel 48
  | .hostLeaseExpiry channel => inRange 1 channel 48
  | .outputOverload channel _ _ => inRange 1 channel 48
  | .overloadRetry channel => inRange 1 channel 48
  | .stuckOff channel _ _ => inRange 1 channel 48
  | .backfeed channel _ _ => inRange 1 channel 48
  | .openLoad channel _ _ => inRange 1 channel 48
  | .offPulse channel _ => inRange 1 channel 48
  | .dioForceExpiry channel => inRange 1 channel 48
  | .recordWrite dieErrors _ => dieErrors.all fun d => decide (d < 5)
  | .freezeExpiry => true
  | .panelIdentityRead panel _ => decide (panel < 4)
  | .displayUpdateStart panel railFault _ => decide (panel < 4) && decide (railFault ≤ 5)
  | .displayUpdateEnd panel => decide (panel < 4)
  | .railOffTimer => true
  | .railFaultRetry panel railFault _ => decide (panel < 4) && decide (railFault ≤ 5)
  | .pageHoldExpiry panel => decide (panel < 4)
  | .supplyValid _ _ => true
  | .oscillatorStable _ _ => true
  | .boscAttemptTimer => true
  | .clockStartDecision => true
  | .coreStartUp _ => true
  | .startMembershipTimeout => true
  | .clockMonitorTrip f stretchNs => decide (stretchNs ≤ 8000) && (match f with | .stop clock _ => decide (clock ≤ 2) | _ => true)
  | .xoRetry _ _ _ => true
  | .boscRetry _ => true
  | .woscCheck _ => true
  | .supplyEvent input _ _ => inRange 1 input 2
  | .supplyWarning _ _ => true
  | .supplyLoss _ _ => true
  | .supplyRestart _ _ => true
  | .watchdogTimeout => true
  | .stoppingTimeout => true
  | .prepareOffStopTimer => true
  | .svcKeyChange _ _ => true
  | .dramUncorrectable address => decide (address.toNat < 0x20000000)
  | .dramScrub _ => true
  | .ageMeasurement entry _ _ => inRange 1 entry 16
  | .historySample => true
  | .replan _ => true
  | .flashProgramDone region => decide (region < 89)
  | .injDurationExpiry injector => decide (injector < 8)
  | .injHoldRelease injector => decide (injector < 8)
  | .relayTestEnd relay => inRange 1 relay 2
  | .hostLinkChange port speed => decide (port < 2) && decide (speed ≤ 2)
  | .holdUpSpent => true
  | .uncontainedInternalFault => true

end Sys2Proof
end

