-- ==== Sys2Proof/Certificates/Slice0/Obligations.lean ====
section
/-! DEFINITION. The statements for the provers, in the order of OBLIGATIONS.json. -/

open Sys2Proof Sys2Proof.Machine

/-- A step with a command at the front of the queue is that command's effect on the state with the queue's rest
(log entry 1). -/
def Obligations.StepRunsFrontCommand : Prop :=
  ∀ (s : State) (i : Instr) (q : List Instr), s.pending = i :: q → step s = exec i { s with pending := q }

/-- On an empty queue a step is one microsecond (log entry 1). Without a core clock nothing but the timebase moves. -/
def Obligations.IdleStepIsOneMicrosecond : Prop :=
  ∀ s : State, s.pending = [] → switchRuns s = false →
    step s = .next { s with tm := { s.tm with now := s.tm.now + 1 } }

/-- The state at reset, the node as made (the model's choice, log entry 3): it has the node's units, canonical memories,
an empty queue, no fuse blown and no fabric port UP. -/
def Obligations.ResetKeepsInvariants : Prop :=
  Units State.reset ∧ MemoriesCanonical State.reset ∧ State.reset.pending = []
    ∧ (∀ w, fuse State.reset w = 0) ∧ (∀ p, ¬ isUp State.reset p)

/-- R24, R78, R209, R280, R372 and the other counts of units: no step adds or removes one. -/
def Obligations.StepKeepsUnits : Prop :=
  ∀ s t : State, Units s → step s = .next t → Units t

/-- R78: a blown fuse cannot be restored. In every step each fuse bit that reads 1 goes on reading 1. -/
def Obligations.StepNeverRestoresFuse : Prop :=
  ∀ s t : State, step s = .next t → ∀ w i, (fuse s w).getLsbD i = true → (fuse t w).getLsbD i = true

/-- Log entry 5: every step keeps the recorder's dies, the last-gasp records and the flash banks in their one form, so
that equal memories are equal data. -/
def Obligations.StepKeepsMemoriesCanonical : Prop :=
  ∀ s t : State, MemoriesCanonical s → step s = .next t → MemoriesCanonical t

/-- Table 08-4, R216, R217: a frame as a node forms it is a frame as a node reads it, for every type, listed or not, and
every value of every field: the header check and the CRC-32C hold and each field comes back. A listed type has its class
from Table 08-5, another one the class bits of its header. -/
def Obligations.FormedFrameReadsBack : Prop :=
  ∀ f : Frame, f.type < 256 → ((frameClass f.type).isSome = true → f.cls = 0) → f.cls < 4 → 0 < f.ttl → f.ttl < 256
    → f.origin < 0x1000 → f.dest < 0x10000 → ¬ (0x1000 ≤ f.dest ∧ f.dest ≤ 0xFFFD) → f.inc < 0x10000 → f.seq < 0x100000000 → f.body.length < 0x10000
    → headerOk f.bytes = true ∧ crcOk f.bytes = true ∧ hdrFrame f.bytes = f

/-- Opcodes without payload that observe: the reply is OK with the data the opcode's rule gives, and nothing but the
reply changes (R42, R49 and each opcode's rule). -/
def Obligations.ObservingOpcodesOnlyReply : Prop :=
  ∀ (s : State) (c : Cmd), Admitted s c → c.payload = [] →
    let observes (i : Instr) (op : Nat) (data : Bytes) : Prop :=
      ∃ t, exec i s = .next t ∧ Answers s t c op Status.ok 0 data ∧ t = { s with ports := t.ports }
    observes (.nodeIdentify c) 0x0101 (identifyData s) ∧ observes (.nodeStatus c) 0x0102 (statusData s)
      ∧ observes (.nodeRingStatus c) 0x0104 (ringStatusData s) ∧ observes (.nodeLanes c) 0x0105 (lanesData s)
      ∧ observes (.nodeClocks c) 0x0106 (clocksData s) ∧ observes (.callStatus c) 0x0401 (callStatusData s)
      ∧ observes (.chanCj c) 0x0503 (cjData s) ∧ observes (.recInfo c) 0x0801 (recInfoData s)
      ∧ observes (.dispStatus c) 0x0901 (dispStatusData s) ∧ observes (.fabStatus c) 0x0A01 (fabStatusData s)
      ∧ observes (.timeRead c) 0x0B01 (timeReadData s) ∧ observes (.ageLedger c) 0x0C01 (ageLedgerData s)
      ∧ observes (.cfgStatus c) 0x0D01 (cfgStatusData s) ∧ observes (.injStatus c) 0x0E01 (injStatusData s)
      ∧ observes (.secPorts c) 0x0F01 (secPortsData s) ∧ observes (.secFuses c) 0x0F02 (secFusesData s)

/-- R88: SEC.FUSES answers 134 B: the status, the 32 fuse words, each little-endian (R5), the counts of blown SEAL and
INJ_ALLOW bits, the mask of the ports whose two matrix words differ, and whether the identifier's copies differ. -/
def Obligations.FuseWordsAreReported : Prop :=
  ∀ (s : State) (c : Cmd), Admitted s c → c.payload = [] →
    let blown (w : Nat) (bits : List Nat) : Nat := bits.countP fun i => (fuse s w).getLsbD i
    ∃ t data, exec (.secFuses c) s = .next t ∧ Answers s t c 0x0F02 Status.ok 0 data ∧ (le 2 Status.ok ++ data).length = 134
      ∧ (∀ w, w < 32 → u32 data (4 * w) = (fuse s w).toNat)
      ∧ u8 data 128 = blown 20 [8, 9, 10] ∧ u8 data 129 = blown 20 [0, 1, 2]
      ∧ u8 data 130 < 256 ∧ (∀ n, n < 8 → ((u8 data 130).testBit n = true ↔ fuse s n ≠ fuse s (8 + n)))
      ∧ u8 data 131 = (if fuse s 16 = fuse s 18 ∧ fuse s 17 = fuse s 19 then 0 else 1)
      ∧ t = { s with ports := t.ports }

/-- Observing opcodes with a range (R99, R100, R127, R162, R207, R237, R277 and the chapters' tables): on a payload in
range the reply is OK and its data begin as the opcode's table says, and nothing but the reply changes. -/
def Obligations.RangeReadsOnlyReply : Prop :=
  ∀ (s : State) (c : Cmd), Admitted s c →
    let reads (i : Instr) (op : Nat) (head : Bytes) : Prop :=
      ∃ t flags rest, exec i s = .next t ∧ Answers s t c op Status.ok flags (head ++ rest)
        ∧ t = { s with ports := t.ports }
    let p := c.payload
    let evaluated := zeros 2 ++ le 4 (evalField s)
    (entriesOk p 4 1019 (fun b => decide (0x40000 ≤ u32 b 0)) = true → reads (.tagRead c) 0x0201 evaluated)
      ∧ (p.length = 8 → u32 p 4 ≠ 0 → u32 p 0 + u32 p 4 ≤ 262144 → reads (.tagReadRange c) 0x0202 evaluated)
      ∧ (p.length = 8 → u16 p 4 ≠ 0 → u16 p 4 ≤ 255 → u8 p 6 ≠ 0 → u8 p 6 % 2 = 0 → u8 p 6 ≤ 31 → u8 p 7 = 0
          → u32 p 0 ≤ 262143 → reads (.alarmList c) 0x0301 evaluated)
      ∧ (p.length = 4 → u16 p 2 ≠ 0 → u16 p 0 + u16 p 2 ≤ 4096 → reads (.alarmGroupList c) 0x0302 evaluated)
      ∧ (p.length = 8 → u16 p 0 ≤ 4095 → u16 p 2 = 0 → u32 p 4 ≤ 262143 → reads (.alarmBundle c) 0x0303 evaluated)
      ∧ (p.length = 8 → u32 p 0 ≤ 262143 → u32 p 4 ≤ 1048575 → reads (.alarmEdges c) 0x0304 evaluated)
      ∧ (p.length = 4 → allZero p 2 2 = true → u8 p 1 ≠ 0 → u8 p 1 ≤ 64 → u8 p 0 + u8 p 1 ≤ 64
          → reads (.fabMembers c) 0x0A02 evaluated)
      ∧ (∀ b, p.length = 8 → allZero p 2 2 = true → u32 p 4 % 4 = 0 → bankOf s (u16 p 0) = .ok b → u32 p 4 < b.bytes.length
          → reads (.snapRead c) 0x1001 (zeros 2 ++ le 2 (u16 p 0) ++ zeros 2 ++ le 4 b.target))
      ∧ (rangeOk p = true → reads (.chanRead c) 0x0501 (zeros 2 ++ le 8 ((fabUs s).getD 0) ++ le 1 (u8 p 1)))
      ∧ (p.length = 4 → allZero p 1 3 = true → u8 p 0 ≤ 3 ∨ u8 p 0 = 0xFF
          → reads (.chanMap c) 0x0502 (zeros 2 ++ le 1 (if u8 p 0 = 0xFF then 4 else 1) ++ zeros 3))
      ∧ (rangeOk p = true → reads (.loopStatus c) 0x0601 (zeros 2 ++ le 8 ((fabUs s).getD 0) ++ le 1 (u8 p 1)))
      ∧ (p.length = 4 → allZero p 2 2 = true → 1 ≤ u8 p 0 → 1 ≤ u8 p 1 → u8 p 0 + u8 p 1 ≤ 49
          → reads (.dioRead c) 0x0701 (zeros 2 ++ le 8 ((fabUs s).getD 0)))

/-- R404, R417, R418: REC.READ in every partition. From a cursor that the recorder resolves it answers the whole records
that lie between the first readable cursor (the oldest for one older than that, the floor for one below it) and the write
cursor, as many as fit, with the cursor read from, the cursor reached and the records; a record that does not read back
valid ends the reply with INTERNAL_FAULT. A cursor of no form is refused with PARAM_RANGE, and a recorder in WITNESS-ONLY
with RECORDER_LOST but for the last-gasp log. Nothing is written. -/
def Obligations.RecorderReadsFromACursor : Prop :=
  ∀ (s : State) (c : Cmd), Admitted s c → c.payload.length = 12 → u8 c.payload 0 ≤ 3 → allZero c.payload 1 3 = true →
    let i := AreaId.ofCode (u8 c.payload 0)
    let ar := s.rcd.area i
    let found := resolveCursor s.rcd i (u32 c.payload 4) (u32 c.payload 8)
    (u8 c.payload 0 ≠ 3 → s.rcd.witnessOnly = true →
      ∃ t, exec (.recRead c) s = .next t ∧ Answers s t c 0x0802 Status.recorderLost 0 [] ∧ t = { s with ports := t.ports })
    ∧ (u8 c.payload 0 = 3 ∨ s.rcd.witnessOnly = false → found = none →
      ∃ t, exec (.recRead c) s = .next t ∧ Answers s t c 0x0802 Status.paramRange 0 [] ∧ t = { s with ports := t.ports })
    ∧ (∀ g a old, u8 c.payload 0 = 3 ∨ s.rcd.witnessOnly = false → found = some (g, a, old) →
      let a1 := if old = true then ar.oldest else a
      let below := i ≠ .gasp ∧ cursorBefore (genAt s.rcd i a1) a1 (genAt s.rcd i ar.floor) ar.floor = true
      let a2 := if below then ar.floor else a1
      let got := readLoop s.rcd i ar.write 70000 a2 (fillLimit s c - 28) []
      ∃ t flags data, exec (.recRead c) s = .next t
        ∧ Answers s t c 0x0802 (if got.2.2 = true then Status.internalFault else Status.ok) flags data
        ∧ (flags = 0 ↔ got.2.1 = ar.write) ∧ u32 data 10 = a2 % 0x100000000 ∧ u32 data 18 = got.2.1 % 0x100000000
        ∧ (old = false → u32 data 22 = 0) ∧ data.drop 26 = got.1.flatten ∧ t = { s with ports := t.ports })

/-- R119, R126: an acting command that passes its checks is published whole, stamped with the fabric time at its
execution, is answered later, and changes nothing else. -/
def Obligations.ActingCommandsArePublished : Prop :=
  ∀ (s : State) (c : Cmd) (us : Nat), Admitted s c → mayPublish s = true → fabUs s = some us →
    let p := c.payload
    let publishes (i : Instr) (op : Nat) : Prop :=
      ∃ t, exec i s = .next t
        ∧ t.repl.outActs = s.repl.outActs ++ [{ stamp := us, opcode := op, number := s.repl.actNumber, port := c.origPort
                                                origin := s.node, payload := p }]
        ∧ t.repl.awaits = s.repl.awaits ++ [{ cmd := c, opcode := op, number := s.repl.actNumber, epoch := epochOf s us
                                              sentAt := s.tm.now, pending := false }]
        ∧ t.repl.actNumber = (s.repl.actNumber + 1) % 0x10000
        ∧ t = { s with repl := { s.repl with outActs := t.repl.outActs, awaits := t.repl.awaits, actNumber := t.repl.actNumber } }
    (entriesOk p 4 1019 maskReserved = true → publishes (.alarmAck c) 0x0340)
      ∧ (entriesOk p 8 509 shelveReserved = true → (∀ b ∈ entries p 8, shelveCheck1 s b = none)
          → publishes (.alarmShelve c) 0x0341)
      ∧ (entriesOk p 4 1019 tagReserved = true → (∀ b ∈ entries p 4, (desc s (u32 b 0)).type ≠ 0)
          → publishes (.alarmUnshelve c) 0x0342 ∧ publishes (.alarmSetOos c) 0x0343 ∧ publishes (.alarmClearOos c) 0x0344)
      ∧ (entriesOk p 4 1019 maskReserved = true → publishes (.alarmReset c) 0x0345)
      ∧ (entriesOk p 4 1019 groupReserved = true → publishes (.alarmAckBundle c) 0x0346)
      ∧ (watchFormat s 1 p = true → bound s c (u8 p 4) = true → publishes (.callSetWatchOffer c) 0x0440)
      ∧ (watchFormat s 2 p = true → bound s c (u8 p 4) = true → publishes (.callSetWatchAccept c) 0x0440)
      ∧ (watchFormat s 3 p = true → bound s c (u8 p 4) = true → publishes (.callSetWatchWithdraw c) 0x0440)
      ∧ (p.length = 4 → u8 p 0 < 64 → allZero p 1 3 = true → bound s c (u8 p 0) = true → publishes (.callDeadman c) 0x0441)
      ∧ (p.length = 8 → publishes (.timeSetSystem c) 0x0B41)
      ∧ (p.length = 4 → snapCheck p s = none → publishes (.snapSchedule c) 0x1040)
      ∧ (activateFormat p = true → activateCheck p s = none → publishes (.cfgActivate c) 0x0D44)

/-- R120: the format is checked before the operating state, whose failure is answered NOT_IN_REPLICA; a command refused
is not published and changes nothing but the reply. -/
def Obligations.ActingCommandsOutsideTheReplicaAreRefused : Prop :=
  ∀ (s : State) (c : Cmd), Admitted s c → mayPublish s = false →
    let refused (i : Instr) (op : Nat) (good : Bool) : Prop :=
      ∃ t, exec i s = .next t ∧ Answers s t c op (if good then Status.notInReplica else Status.paramRange) 0 []
        ∧ t = { s with ports := t.ports }
    let p := c.payload
    refused (.alarmAck c) 0x0340 (entriesOk p 4 1019 maskReserved)
      ∧ refused (.alarmShelve c) 0x0341 (entriesOk p 8 509 shelveReserved)
      ∧ refused (.alarmUnshelve c) 0x0342 (entriesOk p 4 1019 tagReserved)
      ∧ refused (.alarmSetOos c) 0x0343 (entriesOk p 4 1019 tagReserved)
      ∧ refused (.alarmClearOos c) 0x0344 (entriesOk p 4 1019 tagReserved)
      ∧ refused (.alarmReset c) 0x0345 (entriesOk p 4 1019 maskReserved)
      ∧ refused (.alarmAckBundle c) 0x0346 (entriesOk p 4 1019 groupReserved)
      ∧ refused (.callSetWatchOffer c) 0x0440 (watchFormat s 1 p) ∧ refused (.callSetWatchAccept c) 0x0440 (watchFormat s 2 p)
      ∧ refused (.callSetWatchWithdraw c) 0x0440 (watchFormat s 3 p)
      ∧ refused (.callDeadman c) 0x0441 (p.length == 4 && decide (u8 p 0 < 64) && allZero p 1 3)
      ∧ refused (.timeSetSystem c) 0x0B41 (p.length == 8) ∧ refused (.snapSchedule c) 0x1040 (p.length == 4)
      ∧ refused (.cfgActivate c) 0x0D44 (activateFormat p)

/-- R27, R29, R183: NODE.SET_PROFILE. A profile that is available replaces the configured profile; in GUARD the reply is
GUARD_ACTIVE and the profile runs from leaving GUARD, otherwise it runs from the next epoch boundary. One that is not
available changes nothing. -/
def Obligations.SetProfileReplacesTheConfiguredProfile : Prop :=
  ∀ (s : State) (c : Cmd) (p : Profile), Admitted s c → c.payload.length = 4 → Profile.ofCode (u8 c.payload 0) = some p
    → allZero c.payload 1 3 = true →
    (profileAvailable s p = true →
      ∃ t, exec (.nodeSetProfile c) s = .next t
        ∧ Answers s t c 0x0140 (if s.op = .guard then Status.guardActive else Status.ok) 0 []
        ∧ t.lanes = { s.lanes with profile := p, next := if s.op = .guard then none else some p }
        ∧ Logs s t (if p = s.lanes.profile then [] else [0x0034])
        ∧ t = { s with ports := t.ports, rcd := t.rcd, lanes := t.lanes })
    ∧ (profileAvailable s p = false →
      ∃ t, exec (.nodeSetProfile c) s = .next t ∧ Answers s t c 0x0140 Status.profileUnavailable 0 []
        ∧ t = { s with ports := t.ports })

/-- R49, R50: NODE.SUBSCRIBE. A mask of zero ends the sender's subscription; a new subscriber is added while fewer than
8 exist and a ninth is refused, the eight unchanged; a second one replaces mask and lease and keeps the count. -/
def Obligations.SubscribeKeepsAtMostEight : Prop :=
  ∀ (s : State) (c : Cmd), Admitted s c → c.payload.length = 4 → c.port ≤ 2 →
    let mask := u16 c.payload 0
    let lease := u16 c.payload 2
    let mine (u : Subscription) : Bool := u.isOf c.port c.orig
    ∃ t st, exec (.nodeSubscribe c) s = .next t
      ∧ (∃ d, nth t.ports.outRings c.port = nth s.ports.outRings c.port ++ [d]
          ∧ d.pkt = packet 0x8103 c.seq.toNat (s.node * 64) 0 (le 2 st))
      ∧ t = { s with ports := { s.ports with subs := t.ports.subs, outRings := t.ports.outRings, high := t.ports.high
                                             windows := t.ports.windows } }
      ∧ (mask = 0 → st = Status.ok ∧ t.ports.subs = s.ports.subs.filter fun u => !mine u)
      ∧ ((31 < mask ∨ mask ≠ 0 ∧ (lease < 10 ∨ 600 < lease)) → st = Status.paramRange ∧ t.ports.subs = s.ports.subs)
      ∧ (mask ≠ 0 → mask ≤ 31 → 10 ≤ lease → lease ≤ 600 → s.ports.subs.any mine = true →
          st = Status.ok ∧ t.ports.subs.map (fun u => (u.port, u.orig, u.count)) = s.ports.subs.map (fun u => (u.port, u.orig, u.count))
            ∧ ∀ u ∈ t.ports.subs, mine u = true → u.mask.toNat = mask ∧ u.leaseEnd = s.tm.now + lease * 1000000)
      ∧ (mask ≠ 0 → mask ≤ 31 → 10 ≤ lease → lease ≤ 600 → s.ports.subs.any mine = false →
          (8 ≤ s.ports.subs.length → st = Status.subscribersFull ∧ t.ports.subs = s.ports.subs)
          ∧ (s.ports.subs.length < 8 → st = Status.ok ∧ t.ports.subs.length = s.ports.subs.length + 1
              ∧ t.ports.subs.any mine = true))

/-- R205: the test of a relay energises it for 200 epochs on the caller, is refused on any other node, and when it
ends writes RELAY_TEST (0x0115) and gives the relay back to R203. -/
def Obligations.RelayTestRunsTwoHundredEpochs : Prop :=
  ∀ (s : State) (r : Nat), Units s → s.core = .running → r = 1 ∨ r = 2 →
    (∀ c, Admitted s c → c.payload.length = 4 → u8 c.payload 0 = r → allZero c.payload 1 3 = true →
      ∃ t, exec (.callRelayTest c) s = .next t
        ∧ Answers s t c 0x0442 (if isCaller s then Status.ok else Status.notCaller) 0 []
        ∧ (isCaller s = true → (nth t.repl.relays (r - 1)).on = true ∧ (nth t.repl.relays (r - 1)).testEnd = some (s.repl.cur + 200))
        ∧ (isCaller s = false → t.repl = s.repl)
        ∧ (∀ q, q ≠ r - 1 → nth t.repl.relays q = nth s.repl.relays q)
        ∧ t = { s with ports := t.ports, repl := { s.repl with relays := t.repl.relays } })
    ∧ (∀ e, (nth s.repl.relays (r - 1)).testEnd = some e → e ≤ s.repl.cur →
      ∃ t, exec (.relayTestEnd r) s = .next t ∧ Logs s t [0x0115]
        ∧ (nth t.repl.relays (r - 1)).testEnd = none
        ∧ (nth t.repl.relays (r - 1)).on = (isCaller s && nth (callDrive s) (r - 1))
        ∧ (∀ q, q ≠ r - 1 → nth t.repl.relays q = nth s.repl.relays q)
        ∧ t = { s with rcd := t.rcd, repl := { s.repl with relays := t.repl.relays } })

/-- R312, R314, R319: CHAN.RETIRE takes the channel off its slice and leaves its outputs at zero, and leaves a retired
channel as it is; CHAN.RESTORE puts a retired channel on its home slice while that is available, else on the
highest-numbered available slice, leaves one in service as it is, and is refused when no slice is available; no other
channel changes, but that a CHAN.CHECK waiting for the rover that is taken may complete. -/
def Obligations.ChannelsAreRetiredAndRestored : Prop :=
  ∀ (s : State) (c : Cmd) (ch : Nat), Admitted s c → chanNamed s c.payload = true → u8 c.payload 0 = ch →
    let place := if sliceFree s (ch / 8) (ch % 8) = true then some (ch % 8) else (freeSlices s (ch / 8)).head?
    ((chan s ch).retired = 0 →
      ∃ t l, exec (.chanRetire c) s = .next t ∧ (chan t ch).retired = 4 ∧ (chan t ch).slice = none
        ∧ (loopSt t ch).setpoint = 0 ∧ (loopSt t ch).latched = 0 ∧ (loopSt t ch).forced = none
        ∧ Logs s t (0x0203 :: l) ∧ Publishes s t ∧ OnlyChannel s t ch
        ∧ t = { s with ports := t.ports, rcd := t.rcd, repl := t.repl, ana := t.ana })
    ∧ ((chan s ch).retired ≠ 0 →
      ∃ t, exec (.chanRetire c) s = .next t ∧ Answers s t c 0x0540 Status.ok 0 [] ∧ t = { s with ports := t.ports })
    ∧ ((chan s ch).retired = 0 →
      ∃ t, exec (.chanRestore c) s = .next t ∧ Answers s t c 0x0541 Status.ok 0 [] ∧ t = { s with ports := t.ports })
    ∧ (∀ n, (chan s ch).retired ≠ 0 → place = some n →
      ∃ t, exec (.chanRestore c) s = .next t ∧ (chan t ch).retired = 0 ∧ (chan t ch).slice = some n ∧ Logs s t [0x0204]
        ∧ (s.ana.chans.all (·.check.isNone) = true → Answers s t c 0x0541 Status.ok 0 [] ∧ OnlyChannel s t ch)
        ∧ t = { s with ports := t.ports, rcd := t.rcd, ana := t.ana })
    ∧ ((chan s ch).retired ≠ 0 → place = none →
      ∃ t, exec (.chanRestore c) s = .next t ∧ Answers s t c 0x0541 Status.channelRetired 0 []
        ∧ t = { s with ports := t.ports })

/-- R320: CHAN.CHECK on a channel in use without a check is accepted and completed later; one already running gives
CHECK_BUSY, a retired channel CHANNEL_RETIRED, and neither changes anything else. -/
def Obligations.ChannelCheckRunsOnce : Prop :=
  ∀ (s : State) (c : Cmd) (ch : Nat), Admitted s c → chanNamed s c.payload = true → u8 c.payload 0 = ch →
    ∃ t, exec (.chanCheck c) s = .next t
      ∧ Answers s t c 0x0542 (if (chan s ch).retired ≠ 0 then Status.channelRetired
          else if (chan s ch).check.isSome then Status.checkBusy else Status.acceptedPending) 0 []
      ∧ ((chan s ch).retired ≠ 0 ∨ (chan s ch).check.isSome → t = { s with ports := t.ports })
      ∧ ((chan s ch).retired = 0 → (chan s ch).check = none →
          (chan t ch).check.map (·.cmd) = some c ∧ OnlyChannel s t ch ∧ t.ana.slices = s.ana.slices
            ∧ (rovers s (ch / 8) ≠ [] → (bankSt t (ch / 8)).wanted = (bankSt s (ch / 8)).wanted ++ [ch % 8])
            ∧ t = { s with ports := t.ports, ana := t.ana })

/-- R66, R369: LOOP.TRANSACT to the slot of an instrument joins Q30 behind what waits there and is answered
ACCEPTED_PENDING. A full Q30 refuses it with QUEUE_FULL and counts it, a loop without FSK with LOOP_UNAVAILABLE, a payload
out of form with PARAM_RANGE; a refusal leaves all but the reply as it was. -/
def Obligations.LoopTransactionsQueueOnQ30 : Prop :=
  ∀ (s : State) (c : Cmd) (ch : Nat) (i : InstCfg), Units s → s.core = .running → c.port < 8 → c.slot ≠ 0
    → slotChannel s c.slot = some (ch, i) →
    let good := c.payload.length = 4 + u8 c.payload 2 ∧ u8 c.payload 2 ≤ (if 253 < u16 c.payload 0 then 251 else 253)
      ∧ allZero c.payload 3 1 = true
    (good → fskUp s ch = true → s.ana.q30.length < 256 →
      ∃ t, exec (.loopTransact c) s = .next t ∧ Answers s t c 0x0640 Status.acceptedPending 0 []
        ∧ t.ana = { s.ana with q30 := s.ana.q30 ++ [{ cmd := c, channel := ch, slot := c.slot, command := u16 c.payload 0
                                                      data := c.payload.drop 4 }] }
        ∧ t = { s with ports := t.ports, ana := t.ana })
    ∧ (good → fskUp s ch = true → 256 ≤ s.ana.q30.length →
      ∃ t, exec (.loopTransact c) s = .next t ∧ Replies s t c 0x0640 Status.queueFull 0 []
        ∧ nth t.ports.drops 30 = sat32 (nth s.ports.drops 30 + 1) ∧ (∀ q, q ≠ 30 → nth t.ports.drops q = nth s.ports.drops q)
        ∧ t = { s with ports := { s.ports with outRings := t.ports.outRings, high := t.ports.high, windows := t.ports.windows
                                               drops := t.ports.drops } })
    ∧ (good → fskUp s ch = false →
      ∃ t, exec (.loopTransact c) s = .next t ∧ Answers s t c 0x0640 Status.loopUnavailable 0 [] ∧ t = { s with ports := t.ports })
    ∧ (¬ good →
      ∃ t, exec (.loopTransact c) s = .next t ∧ Answers s t c 0x0640 Status.paramRange 0 [] ∧ t = { s with ports := t.ports })

/-- R358, R370: LOOP.FORCE holds an output at a current for a duration, in place of a force that stands, which ends; the
release and the end of the duration take the force away again; each beginning and end writes LOOP_FORCE (0x0215). -/
def Obligations.LoopForcesBeginAndEnd : Prop :=
  ∀ (s : State) (ch : Nat), Units s → s.core = .running → ch < 32 →
    (∀ c, Admitted s c → c.payload.length = 8 → u8 c.payload 0 = ch → allZero c.payload 1 1 = true → 10 ≤ u16 c.payload 2
      → u16 c.payload 2 ≤ 3600 → isOutputMode (chanCfg s ch).mode = true → (chan s ch).retired = 0 →
      (u32 c.payload 4 ≤ 24000 →
        ∃ t, exec (.loopForce c) s = .next t ∧ Answers s t c 0x0641 Status.ok 0 []
          ∧ (loopSt t ch).forced = some (u32 c.payload 4, s.tm.now + u16 c.payload 2 * 1000000)
          ∧ driven t ch = u32 c.payload 4 ∧ Logs s t (if (loopSt s ch).forced = none then [0x0215] else [0x0215, 0x0215])
          ∧ OnlyChannel s t ch
          ∧ t = { s with ports := t.ports, rcd := t.rcd, ana := { s.ana with loops := t.ana.loops } })
      ∧ (∀ f, u32 c.payload 4 = 0xFFFFFFFF → (loopSt s ch).forced = some f →
        ∃ t, exec (.loopForceRelease c) s = .next t ∧ Answers s t c 0x0641 Status.ok 0 []
          ∧ loopSt t ch = { loopSt s ch with forced := none, supply := (loopSt t ch).supply, refused := (loopSt t ch).refused }
          ∧ Logs s t [0x0215] ∧ OnlyChannel s t ch
          ∧ t = { s with ports := t.ports, rcd := t.rcd, ana := { s.ana with loops := t.ana.loops } })
      ∧ (u32 c.payload 4 = 0xFFFFFFFF → (loopSt s ch).forced = none →
        ∃ t, exec (.loopForceRelease c) s = .next t ∧ Answers s t c 0x0641 Status.ok 0 [] ∧ t = { s with ports := t.ports }))
    ∧ (∀ ua e, (loopSt s ch).forced = some (ua, e) → e ≤ s.tm.now →
        ∃ t, exec (.loopForceExpiry ch) s = .next t
          ∧ loopSt t ch = { loopSt s ch with forced := none, supply := (loopSt t ch).supply, refused := (loopSt t ch).refused }
          ∧ Logs s t [0x0215] ∧ OnlyChannel s t ch
          ∧ t = { s with rcd := t.rcd, ana := { s.ana with loops := t.ana.loops } })

/-- R381, R396: DIO.WRITE. A host set commands a host output and starts its lease, whose end commands the safe state; a
force holds the output whatever its latch until it is released or its duration ends. No other cell changes. -/
def Obligations.DigitalWritesSetForceAndRelease : Prop :=
  ∀ (s : State) (n : Nat), Units s → s.core = .running → isDio n = true → (dioCfg s n).mode = 2 → (cell s n).retired = false →
    let frame (t : State) : Prop := Publishes s t ∧ OnlyCell s t n
      ∧ t = { s with ports := t.ports, rcd := t.rcd, repl := t.repl, dio := t.dio }
    (∀ c, Admitted s c → c.payload.length = 8 → u8 c.payload 0 = n → u8 c.payload 2 ≤ 1 → allZero c.payload 3 1 = true
      → allZero c.payload 6 2 = true →
      (u8 c.payload 1 = 1 → u16 c.payload 4 = 0 → (dioCfg s n).kind = 4 →
        ∃ t, exec (.dioWriteHostSet c) s = .next t ∧ Answers s t c 0x0740 Status.ok 0 [] ∧ frame t
          ∧ (cell t n).command = (u8 c.payload 2 == 1)
          ∧ (cell t n).lease = if (dioCfg s n).lease = 0 then none else some (s.tm.now + (dioCfg s n).lease * 1000000))
      ∧ (u8 c.payload 1 = 2 → 10 ≤ u16 c.payload 4 → u16 c.payload 4 ≤ 3600 →
        ∃ t l, exec (.dioWriteForce c) s = .next t ∧ Answers s t c 0x0740 Status.ok 0 [] ∧ frame t
          ∧ (cell t n).forced = some (u8 c.payload 2 == 1, s.tm.now + u16 c.payload 4 * 1000000, u16 c.payload 4)
          ∧ commanded t n = (u8 c.payload 2 == 1) ∧ Logs s t (0x022F :: l))
      ∧ (∀ f, u8 c.payload 1 = 3 → u16 c.payload 4 = 0 → (cell s n).forced = some f →
        ∃ t l, exec (.dioWriteRelease c) s = .next t ∧ Answers s t c 0x0740 Status.ok 0 [] ∧ frame t
          ∧ (cell t n).forced = none ∧ commanded t n = (cell s n).latch ∧ Logs s t (0x022F :: l))
      ∧ (u8 c.payload 1 = 3 → u16 c.payload 4 = 0 → (cell s n).forced = none →
        ∃ t, exec (.dioWriteRelease c) s = .next t ∧ Answers s t c 0x0740 Status.ok 0 [] ∧ t = { s with ports := t.ports }))
    ∧ (∀ b e d, (cell s n).forced = some (b, e, d) → e ≤ s.tm.now →
        ∃ t l, exec (.dioForceExpiry n) s = .next t ∧ frame t ∧ t.ports = s.ports
          ∧ (cell t n).forced = none ∧ commanded t n = (cell s n).latch ∧ Logs s t (0x022F :: l))
    ∧ (∀ e, (cell s n).lease = some e → e ≤ s.tm.now → (dioCfg s n).kind = 4 →
        ∃ t l, exec (.hostLeaseExpiry n) s = .next t ∧ frame t ∧ t.ports = s.ports
          ∧ (cell t n).lease = none ∧ (cell t n).command = (dioCfg s n).safe ∧ Logs s t (l ++ [0x022E]))

/-- R399, R400, R402, R424: with at most one die lost, a word written to the recorder reads back, every other word
reads as before, and while no die is lost the word is also rebuilt without any one die. -/
def Obligations.RecordedWordsSurviveOneLostDie : Prop :=
  ∀ (r : Recorder) (w v : Nat), r.dies.length = 5 → r.lost.length = 5 → (∀ m ∈ r.dies, m.wf = true)
    → r.lost.count true ≤ 1 → v < 0x100000000 →
    (r.setWord w v).word none w = v
      ∧ (∀ u, u ≠ w → (r.setWord w v).word none u = r.word none u)
      ∧ (r.lost.count true = 0 → ∀ d, d < 5 → (r.setWord w v).word (some d) w = v)

/-- R420, R421: REC.FREEZE begins a freeze of the duration asked for, with RECORDER_FROZEN as its first staged record; a
second one is refused, and so is one in WITNESS-ONLY or of no length from 1 to 60 s. REC.THAW and the end of the duration
end it; without a freeze REC.THAW changes nothing. -/
def Obligations.FreezeHoldsTheLogUntilThaw : Prop :=
  ∀ s : State, Units s → s.core = .running →
    (∀ c, Admitted s c → c.payload.length = 4 → allZero c.payload 2 2 = true →
      (∀ f, s.rcd.freeze = some f → ∃ t, exec (.recFreeze c) s = .next t ∧ Answers s t c 0x0840 Status.frozen 0 []
        ∧ t = { s with ports := t.ports })
      ∧ (s.rcd.freeze = none → s.rcd.witnessOnly = true →
        ∃ t, exec (.recFreeze c) s = .next t ∧ Answers s t c 0x0840 Status.recorderLost 0 [] ∧ t = { s with ports := t.ports })
      ∧ (s.rcd.freeze = none → s.rcd.witnessOnly = false → u16 c.payload 0 = 0 ∨ 60 < u16 c.payload 0 →
        ∃ t, exec (.recFreeze c) s = .next t ∧ Answers s t c 0x0840 Status.paramRange 0 [] ∧ t = { s with ports := t.ports })
      ∧ (s.rcd.freeze = none → s.rcd.witnessOnly = false → 1 ≤ u16 c.payload 0 → u16 c.payload 0 ≤ 60 →
        ∃ t f, exec (.recFreeze c) s = .next t ∧ Replies s t c 0x0840 Status.ok 0 []
          ∧ t.rcd = { s.rcd with freeze := some f } ∧ f.start = s.tm.now
          ∧ f.until_ = s.tm.now + u16 c.payload 0 * 1000000 ∧ f.staged.map (·.type) = [0x0405] ∧ f.lost = 0
          ∧ t = { s with ports := t.ports, rcd := t.rcd }))
    ∧ (∀ c, Admitted s c → c.payload = [] → s.rcd.freeze = none →
      ∃ t, exec (.recThaw c) s = .next t ∧ Answers s t c 0x0841 Status.ok 0 [] ∧ t = { s with ports := t.ports })
    ∧ (∀ f, s.rcd.freeze = some f →
      (∀ c, Admitted s c → c.payload = [] → ∃ t, exec (.recThaw c) s = .next t ∧ Replies s t c 0x0841 Status.ok 0 []
        ∧ t.rcd.freeze = none ∧ t.rcd.queue = s.rcd.queue ∧ t.rcd.gasp = s.rcd.gasp
        ∧ t = { s with ports := t.ports, rcd := t.rcd })
      ∧ (f.until_ ≤ s.tm.now → ∃ t, exec .freezeExpiry s = .next t
        ∧ t.rcd.freeze = none ∧ t.rcd.queue = s.rcd.queue ∧ t.rcd.gasp = s.rcd.gasp ∧ t.ports.outRings = s.ports.outRings
        ∧ t = { s with ports := t.ports, rcd := t.rcd }))

/-- R407, R408, R15: RECORD_WRITE commits the record at the head of the queue, and only that one. One that does not fold
into the newest record, written without an error on a recorder in health, is the newest record of the own log, at the
write position. -/
def Obligations.RecordWriteCommitsTheHead : Prop :=
  ∀ (s : State) (r : QRec) (q : List QItem) (errs : List Nat) (silent : BitVec 5), s.core = .running → s.rcd.isOpen = true
    → s.rcd.queue = .own r :: q → s.rcd.freeze = none → s.rcd.witnessOnly = false →
    let folds := match newestBytes s with
      | some (_, b) => foldsInto b r.type r.len s.tm.powerCount r.body && decide (r.rep = 0)
      | none => false
    ∃ t, exec (.recordWrite errs silent) s = .next t ∧ t.rcd.queue = q ∧ t.rcd.own.newest ≠ none
      ∧ (errs = [] → silent = 0 → (∀ d, d < 5 → (recentErrors s d).length < 16) → 26 ≤ r.len → folds = false →
          t.rcd.own.newest = some (placeAt .own s.rcd.own.write r.len))
      ∧ t.ports.outRings = s.ports.outRings
      ∧ t = { s with rcd := t.rcd, ports := t.ports, fab := t.fab, fresh := t.fresh }

/-- R422, R423: REC.CLEAR moves the floor of the partition to the place of the CLEARED record it writes there, answers
how many records that hides and where the floor is, and from the own log also writes TIME_ANCHOR (0x0306) while there is
fabric time; the other partitions and what waits in the queue stay. It is refused during a freeze, in WITNESS-ONLY and
for a partition above 2. -/
def Obligations.ClearMovesTheFloor : Prop :=
  ∀ (s : State) (c : Cmd), Admitted s c → c.payload.length = 4 → allZero c.payload 1 3 = true →
    let p := u8 c.payload 0
    let i := AreaId.ofCode p
    let refused (st : Nat) : Prop :=
      ∃ t, exec (.recClear c) s = .next t ∧ Answers s t c 0x0842 st 0 [] ∧ t = { s with ports := t.ports }
    (∀ f, s.rcd.freeze = some f → refused Status.frozen)
    ∧ (s.rcd.freeze = none → s.rcd.witnessOnly = true → refused Status.recorderLost)
    ∧ (s.rcd.freeze = none → s.rcd.witnessOnly = false → 2 < p → refused Status.paramRange)
    ∧ (s.rcd.freeze = none → s.rcd.witnessOnly = false → s.rcd.wit.length = 2 → p ≤ 2 →
      ∃ t data, exec (.recClear c) s = .next t ∧ Replies s t c 0x0842 Status.ok 0 data
        ∧ (t.rcd.area i).floor = placeAt i (s.rcd.area i).write 48
        ∧ ((s.rcd.area i).gens ≠ [] → (t.rcd.area i).newest = some (t.rcd.area i).floor)
        ∧ u32 data 2 = recordsFrom s.rcd i (s.rcd.area i).floor % 0x100000000
        ∧ u32 data 10 = (t.rcd.area i).floor % 0x100000000
        ∧ (∀ k, k ≤ 3 → k ≠ p → t.rcd.area (AreaId.ofCode k) = s.rcd.area (AreaId.ofCode k)) ∧ t.rcd.gasp = s.rcd.gasp
        ∧ (p ≠ 0 → t.rcd.queue = s.rcd.queue ∧ t.tm = s.tm)
        ∧ (p = 0 → (∃ l : List QItem, t.rcd.queue = s.rcd.queue ++ l
              ∧ l.map QItem.recordType = if s.tm.fab.isSome = true then [some 0x0306] else [])
            ∧ t.tm = { s.tm with anchorDue := t.tm.anchorDue })
        ∧ t = { s with ports := t.ports, rcd := t.rcd, tm := t.tm })

/-- R412: TIME.SET_WALLMAP pairs the wall time given with the present fabric time and writes WALL_MAP (0x0305); without
fabric time it is refused. -/
def Obligations.WallMapPairsWallAndFabricTime : Prop :=
  ∀ (s : State) (c : Cmd), Admitted s c → c.payload.length = 8 →
    (∀ us, fabUs s = some us → ∃ t, exec (.timeSetWallmap c) s = .next t ∧ Answers s t c 0x0B40 Status.ok 0 []
      ∧ t.tm = { s.tm with wallMap := some (sint 8 (u64 c.payload 0), us) } ∧ Logs s t [0x0305]
      ∧ t = { s with ports := t.ports, rcd := t.rcd, tm := t.tm })
    ∧ (fabUs s = none → ∃ t, exec (.timeSetWallmap c) s = .next t ∧ Answers s t c 0x0B40 Status.noFabricTime 0 []
      ∧ t = { s with ports := t.ports })

/-- R445: DISP.SHOW_PAGE holds a page on a panel until its hold runs out, and DISP.CLEAR asks for a clearing; no other
panel changes. -/
def Obligations.PagesAreShownHeldAndCleared : Prop :=
  ∀ (s : State) (p : Nat), Units s → s.core = .running → p ≤ 3 → (panelCfg s p).used = true →
    (∀ c, Admitted s c → unavailable s p = false → u8 c.payload 0 = p →
      (c.payload.length = 12 → u8 c.payload 1 ≤ 3 → allZero c.payload 2 2 = true → allZero c.payload 10 2 = true
        → (u16 c.payload 8 = 0 ∨ 10 ≤ u16 c.payload 8 ∧ u16 c.payload 8 ≤ 3600)
        → hasPage s (u8 c.payload 1) (u32 c.payload 4) = true →
        ∃ t, exec (.dispShowPage c) s = .next t ∧ Answers s t c 0x0940 Status.ok 0 []
          ∧ (panel t p).held = (if u8 c.payload 1 = 0 then none else some (u8 c.payload 1, u32 c.payload 4,
              if u16 c.payload 8 = 0 then none else some (s.tm.now + u16 c.payload 8 * 1000000)))
          ∧ OnlyPanel s t p ∧ Publishes s t ∧ t = { s with ports := t.ports, repl := t.repl, disp := t.disp })
      ∧ (c.payload.length = 4 → allZero c.payload 1 3 = true →
        ∃ t, exec (.dispClear c) s = .next t ∧ Answers s t c 0x0941 Status.ok 0 []
          ∧ panel t p = { panel s p with clearAsked := true } ∧ OnlyPanel s t p
          ∧ t = { s with ports := t.ports, disp := t.disp }))
    ∧ (∀ k q e, (panel s p).held = some (k, q, some e) → e ≤ s.tm.now →
        ∃ t, exec (.pageHoldExpiry p) s = .next t ∧ (panel t p).held = none ∧ OnlyPanel s t p ∧ Publishes s t
          ∧ t.ports.outRings = s.ports.outRings ∧ t = { s with ports := t.ports, repl := t.repl, disp := t.disp })

/-- R432, R433, R436, R437: an update due starts the rails from dark, and with the rails on puts STARTED and the next
frame number in the panel's journal; its end makes the target current and writes DONE. The rails go off 50 ms after. -/
def Obligations.PanelUpdatesRunAgainstTheJournal : Prop :=
  ∀ (s : State) (p : Nat), Units s →
    (∀ mv, mayStart s p = true → s.disp.fault = none → s.disp.rails = 0 →
      ∃ t, exec (.displayUpdateStart p 0 mv) s = .next t
        ∧ t = { s with disp := { s.disp with rails := 1, railEnd := s.tm.now + 5000 } })
    ∧ (∀ mv, mayStart s p = true → s.disp.fault = none → s.disp.rails = 2 →
      ∃ t u, exec (.displayUpdateStart p 0 mv) s = .next t ∧ (panel t p).update = some u ∧ u.start = s.tm.now
        ∧ (panel t p).journal.state = 2 ∧ (panel t p).journal.frame = ((panel s p).journal.frame + 1) % 0x100000000
        ∧ (panel t p).journal.kind = u.kind ∧ t.disp.rails = 2 ∧ t.disp.offAt = none ∧ (∀ q, q ≠ p → panel t q = panel s q)
        ∧ t = { s with disp := t.disp, rcd := t.rcd, ports := { s.ports with high := t.ports.high } })
    ∧ (∀ u, s.core = .running → p ≤ 3 → (panel s p).update = some u → u.end_ ≤ s.tm.now →
      ∃ t, exec (.displayUpdateEnd p) s = .next t ∧ (panel t p).update = none ∧ (panel t p).current = some u.target
        ∧ (panel t p).journal = { (panel s p).journal with state := 3 } ∧ (panel t p).updates = sat32 ((panel s p).updates + 1)
        ∧ t.disp.rails = s.disp.rails
        ∧ t.disp.offAt = (if s.disp.panels.zipIdx.any (fun x => x.1.update.isSome && x.2 != p) = true then s.disp.offAt
            else some (s.tm.now + 50000))
        ∧ (∀ q, q ≠ p → panel t q = panel s q) ∧ Publishes s t
        ∧ t.age = { s.age with meas := t.age.meas, entries := t.age.entries } ∧ (∀ m, 1 ≤ m → m ≤ 15 → ledgerEntry t m = ledgerEntry s m)
        ∧ t = { s with disp := t.disp, age := t.age, rcd := t.rcd, repl := t.repl })
    ∧ (∀ at_, s.core = .running → s.disp.offAt = some at_ → at_ ≤ s.tm.now → s.disp.rails = 2 →
      exec .railOffTimer s = .next { s with disp := { s.disp with rails := 3, railEnd := s.tm.now + 5000, offAt := none } })

/-- R427, R432, R435: a rail fault runs the off sequence, leaves the journal and is retried after 60 s; an identity read
is taken over, and a panel that does not answer misses one more. -/
def Obligations.RailFaultsAndIdentities : Prop :=
  ∀ (s : State) (p : Nat), Units s →
    (∀ rail mv, mayStart s p = true → s.disp.fault = none → s.disp.rails = 0 → rail ≠ 0 →
      ∃ t, exec (.displayUpdateStart p rail mv) s = .next t ∧ Logs s t [0x0044] ∧ Publishes s t
        ∧ t.disp = { s.disp with rails := 3, railEnd := s.tm.now + 5000, offAt := none, fault := some (rail, s.tm.now) }
        ∧ t = { s with disp := t.disp, rcd := t.rcd, repl := t.repl })
    ∧ (∀ rail at_ mv, mayStart s p = true → s.disp.fault = some (rail, at_) → at_ + 60000000 ≤ s.tm.now → railsNow s = 0 →
      ∃ t, exec (.railFaultRetry p 0 mv) s = .next t ∧ Publishes s t
        ∧ t.disp = { s.disp with rails := 1, railEnd := s.tm.now + 5000, fault := none }
        ∧ t = { s with disp := t.disp, repl := t.repl })
    ∧ (∀ id, s.core = .running → p ≤ 3 → (panelCfg s p).used = true →
      ∃ t, exec (.panelIdentityRead p id) s = .next t
        ∧ (∀ i, id = some i → (panel t p).id = some i ∧ (panel t p).misses = 0 ∧ (panel t p).serial = some i.serial)
        ∧ (id = none → (panel t p).misses = min 3 ((panel s p).misses + 1) ∧ (panel t p).id = (panel s p).id)
        ∧ (∀ q, q ≠ p → panel t q = panel s q)
        ∧ t.disp = { s.disp with panels := t.disp.panels, offAt := t.disp.offAt }
        ∧ ((panel s p).update = none → t.disp.offAt = s.disp.offAt) ∧ Publishes s t
        ∧ t = { s with disp := t.disp, rcd := t.rcd, repl := t.repl, ports := { s.ports with high := t.ports.high } })

/-- R486, R487, R490: a measurement is kept with the operating time it was taken at; M02, M04 and M16 are worked out from
what the node holds, and M06 comes with M05. Every 100 operating hours the entries' values join the history, which holds
the 96 newest rows. -/
def Obligations.MeasurementsAndHistoryAreKept : Prop :=
  ∀ s : State, Units s → s.core = .running →
    (∀ m site value, m ∈ [1, 3, 5, 7, 8, 9, 10, 11, 12, 13, 14] → siteUsed s m site = true → F32.finite value = true →
      ∃ t, exec (.ageMeasurement m site value) s = .next t ∧ (m, site, s.tm.op, value) ∈ t.age.meas
        ∧ t.age.history = s.age.history ∧ Publishes s t ∧ t = { s with age := t.age, rcd := t.rcd, repl := t.repl })
    ∧ (∀ m site value x, (m, x) ∈ [(2, F32.ofIntDiv s.age.der.coreMv 1000), (4, gainDrift (nth s.ana.slices site)),
          (16, F32.ofInt (panel s site).updates)] → siteUsed s m (if m = 2 then 0xFF else site) = true → F32.finite x = true →
      ∃ t, exec (.ageMeasurement m site value) s = .next t ∧ (m, if m = 2 then 0xFF else site, s.tm.op, x) ∈ t.age.meas
        ∧ t.age.history = s.age.history ∧ Publishes s t ∧ t = { s with age := t.age, rcd := t.rcd, repl := t.repl })
    ∧ (∀ site value i, (panel s site).id = some i → siteUsed s 15 site = true → F32.finite value = true →
      let x := F32.ofInt (F32.roundScaled value 1 1 - i.vcom).natAbs
      F32.finite x = true →
      ∃ t, exec (.ageMeasurement 15 site value) s = .next t ∧ (15, site, s.tm.op, x) ∈ t.age.meas
        ∧ t.age.history = s.age.history ∧ Publishes s t ∧ t = { s with age := t.age, rcd := t.rcd, repl := t.repl })
    ∧ (∀ site value, exec (.ageMeasurement 6 site value) s = .next s)
    ∧ (((s.age.history.getLast?).map (·.1)).getD 0 < opHours s / 100 * 100 →
      ∃ t, exec .historySample s = .next t
        ∧ t.age.history.getLast? = some (opHours s / 100 * 100, s.age.entries.map (·.value))
        ∧ t.age.history.length = min 96 (s.age.history.length + 1)
        ∧ t.age.der = s.age.der ∧ t.age.meas = s.age.meas ∧ t = { s with age := t.age })

/-- R493 to R496: AGE.REPLAN is answered ACCEPTED_PENDING and satisfied by a re-plan that runs already; a re-plan counts
itself, ends, and never lowers the core setting. -/
def Obligations.ReplansRunOnceAndNeverLowerTheCore : Prop :=
  ∀ s : State, Units s → s.core = .running →
    (∀ c, Admitted s c → c.payload = [] →
      ∃ t r, exec (.ageReplan c) s = .next t ∧ Answers s t c 0x0C40 Status.acceptedPending 0 []
        ∧ t.age = { s.age with running := some r } ∧ r.2.getLast? = some c ∧ (∀ q, s.age.running = some q → r.1 = q.1)
        ∧ t = { s with ports := t.ports, age := t.age })
    ∧ (∀ readings, s.rcd.isOpen = true → (s.age.running.isSome ∨ s.age.planned < opHours s / 1000) →
      ∃ t, exec (.replan readings) s = .next t ∧ t.age.running = none ∧ t.age.count = s.age.count + 1
        ∧ t.age.lastReplan = some (opHours s) ∧ s.age.der.coreMv ≤ t.age.der.coreMv
        ∧ t = { s with ports := t.ports, age := t.age, ana := t.ana, rcd := t.rcd, repl := t.repl })


/-- R512, R513, R516: CFG.BEGIN opens a session in place of the region's open one and answers its handle, CFG.WRITE
places data in it, CFG.ABANDON discards it or the commit that waits with it; a foreign image on a sealed node, a full
pool, a second firmware session, an unknown session and a running update are refused. Nothing below the firmware's place
and nothing of the firmware's active bank changes in flash. -/
def Obligations.SessionsBeginWriteAndAbandon : Prop :=
  ∀ (s : State) (c : Cmd), Admitted s c →
    let only (t : State) : Prop := t.cfg.selector = s.cfg.selector
      ∧ nth t.cfg.flash (selected s 88) = nth s.cfg.flash (selected s 88)
      ∧ (∀ b a, a < regionBase 88 → (nth t.cfg.flash b).read a = (nth s.cfg.flash b).read a)
      ∧ t = { s with ports := t.ports, cfg := { s.cfg with sessions := t.cfg.sessions, nextHandle := t.cfg.nextHandle
                                                           flash := t.cfg.flash, dir := t.cfg.dir } }
    (∀ x : Session, c.payload.length = 24 → allZero c.payload 1 3 = true → u8 c.payload 0 = x.region
      → regionLengthOk x.region x.length = true → x.region ≤ 88
      → x = { handle := s.cfg.nextHandle, region := u8 c.payload 0, length := u32 c.payload 4, crc := u32 c.payload 8
              version := u32 c.payload 12, ident := BitVec.ofNat 64 (u64 c.payload 16) } →
      (x.region ≤ 87 → s.sec.sealed = true → x.ident.toNat ≠ fusedIdent s →
        ∃ t, exec (.cfgBegin c) s = .next t ∧ Answers s t c 0x0D40 Status.imageForeign 0 [] ∧ t = { s with ports := t.ports })
      ∧ (x.region ≤ 87 → (s.sec.sealed = true → x.ident.toNat = fusedIdent s) →
        let rest := s.cfg.sessions.filter (·.region != x.region)
        (freePool { s with cfg.sessions := rest } < reserved x →
          ∃ t, exec (.cfgBegin c) s = .next t ∧ Answers s t c 0x0D40 Status.stagingFull 0 [] ∧ t = { s with ports := t.ports })
        ∧ (reserved x ≤ freePool { s with cfg.sessions := rest } →
          ∃ t, exec (.cfgBegin c) s = .next t ∧ Answers s t c 0x0D40 Status.ok 0 (le 4 s.cfg.nextHandle)
            ∧ t.cfg.sessions = rest ++ [x] ∧ t.cfg.flash = s.cfg.flash ∧ t.cfg.dir = s.cfg.dir ∧ only t))
      ∧ (x.region = 88 → (∀ y ∈ s.cfg.sessions, y.region ≠ 88) → (∀ k ∈ s.cfg.running, k.session.region ≠ 88) →
        ∃ t, exec (.cfgBegin c) s = .next t ∧ Answers s t c 0x0D40 Status.ok 0 (le 4 s.cfg.nextHandle)
          ∧ t.cfg.sessions = s.cfg.sessions ++ [x] ∧ (dirEntry t (inactive s 88) 88).state = 1 ∧ only t)
      ∧ (x.region = 88 → ((∃ y ∈ s.cfg.sessions, y.region = 88) ∨ ∃ k ∈ s.cfg.running, k.session.region = 88) →
        ∃ t, exec (.cfgBegin c) s = .next t ∧ Answers s t c 0x0D40 Status.regionBusy 0 [] ∧ t = { s with ports := t.ports }))
    ∧ (12 ≤ c.payload.length → c.payload.length ≤ 4080 → c.payload.length % 4 = 0 → u32 c.payload 4 % 4 = 0
      → sessionOf s (u32 c.payload 0) = none →
        ∃ t, exec (.cfgWrite c) s = .next t ∧ Answers s t c 0x0D41 Status.sessionUnknown 0 [] ∧ t = { s with ports := t.ports })
    ∧ (∀ x, 12 ≤ c.payload.length → c.payload.length ≤ 4080 → c.payload.length % 4 = 0 → u32 c.payload 4 % 4 = 0
      → sessionOf s (u32 c.payload 0) = some x →
      (u32 c.payload 4 + (c.payload.length - 8) ≤ x.length →
        ∃ t, exec (.cfgWrite c) s = .next t ∧ Answers s t c 0x0D41 Status.ok 0 [] ∧ t.cfg.dir = s.cfg.dir
          ∧ t.cfg.nextHandle = s.cfg.nextHandle
          ∧ t.cfg.sessions.map (·.handle) = s.cfg.sessions.map (·.handle)
          ∧ (x.region ≠ 88 → t.cfg.flash = s.cfg.flash ∧ (sessionOf t x.handle).map (·.content)
              = some (x.content.writeBytes (u32 c.payload 4) (c.payload.drop 8))) ∧ only t)
      ∧ (x.length < u32 c.payload 4 + (c.payload.length - 8) →
        ∃ t, exec (.cfgWrite c) s = .next t ∧ Answers s t c 0x0D41 Status.paramRange 0 [] ∧ t = { s with ports := t.ports }))
    ∧ (c.payload.length = 4 →
      ((sessionOf s (u32 c.payload 0)).isSome = true →
        ∃ t, exec (.cfgAbandon c) s = .next t ∧ Answers s t c 0x0D43 Status.ok 0 [] ∧ sessionOf t (u32 c.payload 0) = none
          ∧ t = { s with ports := t.ports, cfg := { s.cfg with sessions := t.cfg.sessions } })
      ∧ (sessionOf s (u32 c.payload 0) = none → (∃ k ∈ s.cfg.pendingC, k.session.handle = u32 c.payload 0) →
        ∃ t, exec (.cfgAbandon c) s = .next t
          ∧ ((nth t.ports.outRings c.port).getLast?.map (·.pkt)) = some (replyPacket s c 0x0D43 Status.ok [] 0)
          ∧ t = { s with ports := t.ports
                         cfg := { s.cfg with pendingC := s.cfg.pendingC.filter (·.session.handle != u32 c.payload 0) } })
      ∧ (sessionOf s (u32 c.payload 0) = none → (∀ k ∈ s.cfg.pendingC, k.session.handle ≠ u32 c.payload 0) →
        let busy : Prop := (∃ k ∈ s.cfg.running, k.session.handle = u32 c.payload 0)
          ∨ ∃ y ∈ s.cfg.handles, y.2 = u32 c.payload 0 ∧ isScheduled s y.1 = true
        ∃ t, exec (.cfgAbandon c) s = .next t ∧ t = { s with ports := t.ports }
          ∧ (busy → Answers s t c 0x0D43 Status.updateRunning 0 [])
          ∧ (¬ busy → Answers s t c 0x0D43 Status.sessionUnknown 0 [])))

/-- R514, R515: CFG.COMMIT is accepted at once; behind a running update it waits, a failed check completes it with its
status and REGION_REFUSED (0x0501), and otherwise the inactive copy is programmed. Once programmed it is VERIFIED: a
replicated region is staged, a node-local one and the firmware become active by their selector. -/
def Obligations.CommitsAreCheckedThenProgrammed : Prop :=
  ∀ s : State, Units s → s.core = .running →
    (∀ c x, Admitted s c → sessionOf s (u32 c.payload 0) = some x → allZero c.payload 4 4 = true
      → c.payload.length = (if x.region = 88 then 72 else 8) →
      let k : Commit := { cmd := c, session := x, sig := c.payload.drop 8 }
      let rest := s.cfg.sessions.filter (·.handle != x.handle)
      let s1 := ({ s with cfg.sessions := rest } : State).reply c 0x0D42 Status.acceptedPending
      (updateRuns s1 x.region = true → (∀ o ∈ s.cfg.pendingC, o.session.region ≠ x.region) →
        ∃ t, exec (.cfgCommit c) s = .next t ∧ Answers s t c 0x0D42 Status.acceptedPending 0 []
          ∧ t.cfg = { s.cfg with sessions := rest, pendingC := s.cfg.pendingC ++ [k] } ∧ t = { s with ports := t.ports, cfg := t.cfg })
      ∧ (∀ b, updateRuns s1 x.region = false → commitBad s1 k = some b →
        ∃ t, exec (.cfgCommit c) s = .next t ∧ Answers s s1 c 0x0D42 Status.acceptedPending 0 [] ∧ Answers s1 t c 0x0D42 b.1 1 b.2
          ∧ Logs s t [0x0501] ∧ t.cfg = { s.cfg with sessions := rest } ∧ t = { s with ports := t.ports, rcd := t.rcd, cfg := t.cfg })
      ∧ (updateRuns s1 x.region = false → commitBad s1 k = none → x.region ≤ 88 →
        ∃ t, exec (.cfgCommit c) s = .next t ∧ Answers s t c 0x0D42 Status.acceptedPending 0 []
          ∧ t.cfg.running = s.cfg.running ++ [k] ∧ (dirEntry t (inactive s x.region) x.region).state = 1
          ∧ t.cfg = { s.cfg with sessions := rest, running := t.cfg.running, staged := s.cfg.staged.filter (· != x.region), dir := t.cfg.dir }
          ∧ t = { s with ports := t.ports, cfg := t.cfg }))
    ∧ (∀ r k, s.cfg.running.find? (·.session.region == r) = some k → s.pw.failing = false → s.cfg.pendingC = [] → k.cmd.port < 8 →
      (r ≤ 81 → s.op ≠ .start →
        ∃ t, exec (.flashProgramDone r) s = .next t ∧ Replies s t k.cmd 0x0D42 Status.ok 1 []
          ∧ t.cfg.staged = ins s.cfg.staged r ∧ (dirEntry t (inactive s r) r).state = 2 ∧ (dirEntry t (inactive s r) r).crc = k.session.crc
          ∧ (MemoriesCanonical s → k.session.content.wf = true → (∀ x ∈ k.session.content, x.1 < regionSpace r) →
              ∀ a, a < regionSpace r → (nth t.cfg.flash (inactive s r)).read (regionBase r + a) = k.session.content.read a)
          ∧ nth t.cfg.flash (selected s r) = nth s.cfg.flash (selected s r) ∧ t.cfg.selector = s.cfg.selector
          ∧ t.cfg.running = s.cfg.running.filter (·.session.region != r) ∧ t = { s with ports := t.ports, cfg := t.cfg })
      ∧ (82 ≤ r → r ≤ 88 → ∃ t, exec (.flashProgramDone r) s = .next t ∧ selected t r = inactive s r
          ∧ (dirEntry t (selected t r) r).state = 2 ∧ (dirEntry t (selected t r) r).crc = k.session.crc
          ∧ t.cfg.running = s.cfg.running.filter (·.session.region != r)
          ∧ (r = 88 → t.cfg.fwRestart = true ∧ Logs s t [0x0500] ∧ Replies s t k.cmd 0x0D42 Status.ok 1 [])))

/-- R530, R531, R532, R533: INJ.ARM passes its five checks in order, the first two counted at the port (R89), then arms
its injector in place of what was armed; INJ.DISARM, the end of the duration and the end of a hold. Arming writes
INJ_ARMED (0x0540), each disarming INJ_DISARMED (0x0541). Where no injector holds frames back nothing else changes. -/
def Obligations.InjectorsArmAndDisarm : Prop :=
  ∀ s : State, Units s → s.core = .running →
    (∀ c, Admitted s c →
      let refused (status : Nat) : Prop :=
        ∃ t, exec (.injArm c) s = .next t ∧ Answers s t c 0x0E40 status 0 [] ∧ t = { s with ports := t.ports }
      let i := 2 * u8 c.payload 0 + u8 c.payload 1
      (c.port ≠ 2 → ∃ t, exec (.injArm c) s = .next t ∧ Denies s t c 0x0E40 false)
      ∧ (c.port = 2 → s.sec.keyClosed = false → ∃ t, exec (.injArm c) s = .next t ∧ Denies s t c 0x0E40 true)
      ∧ (c.port = 2 → s.sec.keyClosed = true → s.sec.injAllowed = false → refused Status.injNotAllowed)
      ∧ (c.port = 2 → s.sec.keyClosed = true → s.sec.injAllowed = true →
          (isCaller s = true → refused Status.injCaller)
          ∧ (isCaller s = false → injPayloadOk c.payload = false → refused Status.paramRange)
          ∧ (isCaller s = false → injPayloadOk c.payload = true →
            ∃ t, exec (.injArm c) s = .next t
              ∧ nth t.inj i = some { payload := c.payload, gen := word32 c.payload 16, armedOp := s.tm.op
                                     endOp := s.tm.op + u16 c.payload 12 * 10000 })
          ∧ (isCaller s = false → injPayloadOk c.payload = true → (∀ a, nth s.inj i = some a → a.held = []) →
            ∃ t, exec (.injArm c) s = .next t ∧ Answers s t c 0x0E40 Status.ok 0 []
              ∧ nth t.inj i = some { payload := c.payload, gen := word32 c.payload 16, armedOp := s.tm.op
                                     endOp := s.tm.op + u16 c.payload 12 * 10000 }
              ∧ (∀ j, j ≠ i → nth t.inj j = nth s.inj j)
              ∧ Logs s t (if (nth s.inj i).isSome then [0x0541, 0x0540] else [0x0540])
              ∧ t = { s with ports := t.ports, rcd := t.rcd, inj := t.inj }))
      ∧ (c.payload.length = 4 → allZero c.payload 2 2 = true → (u8 c.payload 0 ≤ 3 ∨ u8 c.payload 0 = 0xFF)
          → (u8 c.payload 1 ≤ 1 ∨ u8 c.payload 1 = 0xFF) →
          ∃ t, exec (.injDisarm c) s = .next t
            ∧ ∀ j, j < 8 → (u8 c.payload 0 = 0xFF ∨ j / 2 = u8 c.payload 0) → (u8 c.payload 1 = 0xFF ∨ j % 2 = u8 c.payload 1)
              → nth t.inj j = none)
      ∧ (c.payload.length = 4 → allZero c.payload 2 2 = true → (u8 c.payload 0 ≤ 3 ∨ u8 c.payload 0 = 0xFF)
          → (u8 c.payload 1 ≤ 1 ∨ u8 c.payload 1 = 0xFF) → (∀ j a, nth s.inj j = some a → a.held = []) →
          ∃ t l, exec (.injDisarm c) s = .next t ∧ Answers s t c 0x0E41 Status.ok 0 []
            ∧ (∀ j, nth t.inj j = if (u8 c.payload 0 = 0xFF ∨ j / 2 = u8 c.payload 0) ∧ (u8 c.payload 1 = 0xFF ∨ j % 2 = u8 c.payload 1)
                then none else nth s.inj j)
            ∧ Logs s t l ∧ (∀ x ∈ l, x = 0x0541) ∧ ((∀ j, nth t.inj j = nth s.inj j) → l = [])
            ∧ t = { s with ports := t.ports, rcd := t.rcd, inj := t.inj })
      ∧ (¬(c.payload.length = 4 ∧ allZero c.payload 2 2 = true ∧ (u8 c.payload 0 ≤ 3 ∨ u8 c.payload 0 = 0xFF)
            ∧ (u8 c.payload 1 ≤ 1 ∨ u8 c.payload 1 = 0xFF)) →
          ∃ t, exec (.injDisarm c) s = .next t ∧ Answers s t c 0x0E41 Status.paramRange 0 [] ∧ t = { s with ports := t.ports }))
    ∧ (∀ i a, nth s.inj i = some a → i < 8 →
      (s.tm.op < a.endOp → exec (.injDurationExpiry i) s = .next s)
      ∧ (a.endOp ≤ s.tm.op → ∃ t, exec (.injDurationExpiry i) s = .next t ∧ nth t.inj i = none)
      ∧ (a.endOp ≤ s.tm.op → a.held = [] →
        ∃ t, exec (.injDurationExpiry i) s = .next t ∧ t.inj = upd s.inj i (fun _ => none) ∧ Logs s t [0x0541]
          ∧ t = { s with rcd := t.rcd, inj := t.inj })
      ∧ (let stay := a.held.filter fun x => decide (s.tm.now < x.2.2)
        let kept : State := { s with inj := upd s.inj i fun _ => some { a with held := stay } }
        (i % 2 = 1 → exec (.injHoldRelease i) s = .next kept)
        ∧ (i % 2 = 0 → exec (.injHoldRelease i) s = .next
            (((a.held.filter fun x => decide (x.2.2 ≤ s.tm.now)).map (·.1)).foldl (fun (acc : State) f => acc.receive f) kept))))

/-- R82 to R87, R89: the programming opcodes are executed on `SVC` with the key closed, and a refusal for want of either
is counted at its port; they blow bits of the mask only, and which bits take is a free value (log entry 4): what is said
holds whatever takes. The reply says what verified. The order in which SEC.PROGRAM and SEC.SEAL judge what refuses them
is the model's (log entry 83). -/
def Obligations.FusesAreBlownWithinTheMask : Prop :=
  ∀ (s : State) (c : Cmd), Admitted s c →
    let blown (t : State) (w : Nat) (mask : Word) : Prop := ∀ i,
      ((fuse s w).getLsbD i = true → (fuse t w).getLsbD i = true)
        ∧ ((fuse t w).getLsbD i = true → (fuse s w).getLsbD i = true ∨ mask.getLsbD i = true)
    let refuses (i : Instr) (op status : Nat) : Prop :=
      ∃ t, exec i s = .next t ∧ Answers s t c op status 0 [] ∧ t = { s with ports := t.ports }
    let denies (i : Instr) (op : Nat) (key : Bool) : Prop := ∃ t, exec i s = .next t ∧ Denies s t c op key
    let inRange : Prop := c.payload.length = 8 ∧ allZero c.payload 1 3 = true
      ∧ (u8 c.payload 0 ≤ 7 ∨ u8 c.payload 0 = 16 ∨ u8 c.payload 0 = 17)
    (c.port ≠ 2 → denies (.secProgram c) 0x0F40 false ∧ denies (.secSeal c) 0x0F41 false
      ∧ denies (.secWithdrawInj c) 0x0F42 false)
    ∧ (c.port = 2 → s.sec.keyClosed = false → denies (.secProgram c) 0x0F40 true ∧ denies (.secSeal c) 0x0F41 true
      ∧ denies (.secWithdrawInj c) 0x0F42 true)
    ∧ (c.port = 2 → s.sec.keyClosed = true →
      (¬ inRange → refuses (.secProgram c) 0x0F40 Status.paramRange)
      ∧ (inRange → s.sec.sealed = true → refuses (.secProgram c) 0x0F40 Status.fuseSealed)
      ∧ (inRange → s.sec.sealed = false → fuseConditions s = false → refuses (.secProgram c) 0x0F40 Status.fuseConditions)
      ∧ (c.payload.length ≠ 4 → refuses (.secSeal c) 0x0F41 Status.paramRange)
      ∧ (c.payload.length = 4 → s.sec.sealed = true → refuses (.secSeal c) 0x0F41 Status.fuseSealed)
      ∧ (c.payload.length = 4 → s.sec.sealed = false → fuseConditions s = false →
          refuses (.secSeal c) 0x0F41 Status.fuseConditions)
      ∧ (c.payload.length ≠ 0 → refuses (.secWithdrawInj c) 0x0F42 Status.paramRange)
      ∧ (c.payload.length = 0 → fuseConditions s = false → refuses (.secWithdrawInj c) 0x0F42 Status.fuseConditions)
      ∧ (c.payload.length = 0 → fuseConditions s = true →
          ∃ t, exec (.secWithdrawInj c) s = .next t ∧ t.sec.injAllowed = decide (injBits t ≤ 1)))
    ∧ (c.port = 2 → s.sec.keyClosed = true → fuseConditions s = true →
      (∀ w mask, u8 c.payload 0 = w → word32 c.payload 4 = mask → c.payload.length = 8 → allZero c.payload 1 3 = true
        → (w ≤ 7 ∨ w = 16 ∨ w = 17) → s.sec.sealed = false →
        let w2 := if w ≤ 7 then 8 + w else w + 2
        ∃ t, exec (.secProgram c) s = .next t
          ∧ Answers s t c 0x0F40 (if fuse t w &&& mask = mask ∧ fuse t w2 &&& mask = mask then Status.ok else Status.fuseVerify) 0
              (le 4 (fuse t w).toNat ++ le 4 (fuse t w2).toNat)
          ∧ blown t w mask ∧ blown t w2 mask ∧ (∀ v, v ≠ w → v ≠ w2 → fuse t v = fuse s v)
          ∧ Logs s t (if t.sec.fuses = s.sec.fuses then [] else [0x0520])
          ∧ t = { s with ports := t.ports, rcd := t.rcd, fresh := t.fresh, sec := { s.sec with fuses := t.sec.fuses } })
      ∧ (c.payload.length = 4 → s.sec.sealed = false →
        ((mismatchMask s ≠ 0 ∨ identMismatch s = true ∨ crc32c (copyOne s) ≠ u32 c.payload 0) →
          refuses (.secSeal c) 0x0F41 Status.fuseVerify)
        ∧ (mismatchMask s = 0 → identMismatch s = false → crc32c (copyOne s) = u32 c.payload 0 →
          ∃ t, exec (.secSeal c) s = .next t ∧ Answers s t c 0x0F41 (if sealBits t = 3 then Status.ok else Status.fuseVerify) 0 []
            ∧ blown t 20 0x700 ∧ (∀ v, v ≠ 20 → fuse t v = fuse s v) ∧ t.sec.sealed = decide (2 ≤ sealBits t) ∧ Logs s t [0x0521]
            ∧ t = { s with ports := t.ports, rcd := t.rcd, fresh := t.fresh, sec := t.sec }))
      ∧ (c.payload.length = 0 → (∀ j a, nth s.inj j = some a → a.held = []) →
        ∃ t l, exec (.secWithdrawInj c) s = .next t ∧ Answers s t c 0x0F42 (if injBits t = 3 then Status.ok else Status.fuseVerify) 0 []
          ∧ blown t 20 0x7 ∧ (∀ v, v ≠ 20 → fuse t v = fuse s v) ∧ t.sec.injAllowed = decide (injBits t ≤ 1)
          ∧ (∀ j, nth t.inj j = none) ∧ Logs s t (l ++ [0x0524]) ∧ (∀ x ∈ l, x = 0x0541)
          ∧ t = { s with ports := t.ports, rcd := t.rcd, fresh := t.fresh, sec := t.sec, inj := t.inj }))

/-- R473, R474: NODE.PREPARE_OFF is accepted, starts the shutdown or joins the one that runs, and is completed at once
when it is done or when a node in START or ISLAND has nothing to wait for; the node enters STOPPING when E1 + 2 cannot
be evaluated, and restarts its core (cause 4) when the supply is still there 600 s after the completion. -/
def Obligations.PrepareOffStopsTheNode : Prop :=
  ∀ s : State, Units s → s.core = .running →
    (∀ c, Admitted s c → c.payload = [] →
      (∀ cs e1 was, s.pw.prepareOff = some (cs, e1, was, 3) →
        ∃ u t, exec (.nodePrepareOff c) s = .next t ∧ Answers s u c 0x0141 Status.acceptedPending 0 []
          ∧ Answers u t c 0x0141 Status.ok 1 [] ∧ u = { s with ports := u.ports } ∧ t = { s with ports := t.ports })
      ∧ (∀ cs e1 was k, s.pw.prepareOff = some (cs, e1, was, k) → k ≠ 3 →
        ∃ t, exec (.nodePrepareOff c) s = .next t ∧ Answers s t c 0x0141 Status.acceptedPending 0 []
          ∧ t = { s with ports := t.ports, pw := { s.pw with prepareOff := some (cs ++ [c], e1, was, k) } })
      ∧ (s.pw.prepareOff = none → (s.op = .service ∨ s.op = .guard) → s.rcd.freeze = none → (∀ i, nth s.inj i = none) →
        ∃ t, exec (.nodePrepareOff c) s = .next t ∧ Answers s t c 0x0141 Status.acceptedPending 0 [] ∧ t.disp.stopped = true
          ∧ t = { s with ports := t.ports, disp := t.disp, pw := { s.pw with prepareOff := some ([c], none, isCaller s, 1) } })
      ∧ (s.pw.prepareOff = none → (s.op = .start ∨ s.op = .island) → s.rcd.freeze = none → (∀ i, nth s.inj i = none) →
          s.disp.rails = 0 → (∀ x ∈ s.disp.panels, x.update = none) →
        ∃ t, exec (.nodePrepareOff c) s = .next t ∧ t.op = .stopping ∧ t.repl.member = false
          ∧ t.pw.prepareOff = some ([], none, isCaller s, 3) ∧ t.pw.stopAt = s.tm.now + 600000000
          ∧ ((nth t.ports.outRings c.port).getLast?.map (·.pkt)) = some (replyPacket s c 0x0141 Status.ok [] 1)))
    ∧ (∀ c, Admitted s c → c.payload ≠ [] → ∃ t, exec (.nodePrepareOff c) s = .next t
        ∧ Answers s t c 0x0141 Status.paramRange 0 [] ∧ t = { s with ports := t.ports })
    ∧ (∀ cs e1 was, s.pw.prepareOff = some (cs, some e1, was, 1) → epochStart s (e1 + 3) + 1000000 ≤ (fabUs s).getD 0 →
      ∃ t, exec .prepareOffStopTimer s = .next t ∧ t.op = .stopping ∧ t.repl.member = false ∧ t.cfg = s.cfg ∧ t.sec = s.sec)
    ∧ (∀ cs e1 was, s.pw.prepareOff = some (cs, e1, was, 3) → s.op = .stopping → s.pw.stopAt ≤ s.tm.now →
      ∃ t, exec .stoppingTimeout s = .next t ∧ t.core = .held ∧ t.op = .start ∧ t.pw.step = 4 ∧ t.pw.upCause = 3
        ∧ t.pw.restartCause = 4 ∧ t.pw.restarts = recentRestarts s ++ [s.tm.op] ∧ t.pw.prepareOff = none ∧ t.repl.member = false
        ∧ t.sec = s.sec ∧ t.cfg.flash = s.cfg.flash ∧ t.cfg.dir = s.cfg.dir ∧ t.cfg.selector = s.cfg.selector
        ∧ t.dio.cells.map (·.latch) = (List.range 48).map (fun i => commanded s (i + 1)))


/-- R54 to R61, R68, R484: a datagram for the node joins the ring of its port, or is answered QUEUE_FULL from the
reserve of eight when the ring is full, or is counted where it is none of the node's; ARP requests for the port's
address are answered and no other, and so are 100 echo requests a second for it of up to 1,500 B, the others being
counted; how the second is measured is the model's (log entry 81). A whole packet on `SVC` joins ring Q02, a packet that
stops is dropped and counted, and enumeration empties what waits for `SVC`; a change of a host port's link is kept. -/
def Obligations.HostPortsTakePackets : Prop :=
  ∀ s : State, Units s → s.core = .running →
    (∀ d : Datagram, d.port ≤ 1 → s.pw.heldStart = false →
      let mine : Prop := hostAddress s d.port ≠ 0 ∧ d.dstIp.toNat = hostAddress s d.port ∧ d.dstUdp = 47250 ∧ d.fragment = false ∧ d.ipOptions = false
        ∧ d.checksumBad = false ∧ d.tagged = false ∧ d.ipLen ≤ (if hasImage s then mtuOf s s.node d.port else 1500) ∧ 16 ≤ d.payload.length
      let marked : Prop := sub d.payload 0 2 = [0xD7, 0x4E]
      let i : InPkt := { orig := .host d.port d.srcIp d.srcUdp, origNode := s.node, origPort := d.port, pkt := d.payload }
      (¬ mine → exec (.hostDatagramReceived d) s = .next { s with ports := { s.ports with dgDrops := sat32 (s.ports.dgDrops + 1) } })
      ∧ (mine → ¬ marked →
          exec (.hostDatagramReceived d) s = .next { s with ports := { s.ports with badMarker := sat32 (s.ports.badMarker + 1) } })
      ∧ (mine → marked → (nth s.ports.inRings d.port).length < 256 →
          ∃ t, exec (.hostDatagramReceived d) s = .next t ∧ t.ports.inRings = upd s.ports.inRings d.port (· ++ [i])
            ∧ t = { s with ports := { s.ports with inRings := t.ports.inRings, high := t.ports.high } })
      ∧ (mine → marked → 256 ≤ (nth s.ports.inRings d.port).length → (nth s.ports.reserve d.port).length < 8 →
          ∃ t, exec (.hostDatagramReceived d) s = .next t ∧ nth t.ports.drops d.port = sat32 (nth s.ports.drops d.port + 1)
            ∧ t.ports.reserve = upd s.ports.reserve d.port (· ++
                [{ dest := i.orig, origPort := i.origPort, pkt := statusReply s d.payload Status.queueFull }])
            ∧ t = { s with ports := { s.ports with reserve := t.ports.reserve, drops := t.ports.drops } })
      ∧ (mine → marked → 256 ≤ (nth s.ports.inRings d.port).length → 8 ≤ (nth s.ports.reserve d.port).length →
          ∃ t, exec (.hostDatagramReceived d) s = .next t ∧ nth t.ports.drops d.port = sat32 (nth s.ports.drops d.port + 1)
            ∧ t = { s with ports := { s.ports with drops := t.ports.drops } }))
    ∧ (∀ p (ip : Word), p ≤ 1 → s.pw.heldStart = false →
      let mine : Prop := hostAddress s p ≠ 0 ∧ ip.toNat = hostAddress s p
      (¬ mine → exec (.arpRequest p ip) s = .next s)
      ∧ (mine → ∃ t, exec (.arpRequest p ip) s = .next t ∧ nth t.ports.arpSent p = nth s.ports.arpSent p + 1
        ∧ t = { s with ports := { s.ports with arpSent := t.ports.arpSent } })
      ∧ (∀ len, ¬ (mine ∧ len ≤ 1500) →
          exec (.icmpEchoRequest p ip len) s = .next { s with ports := { s.ports with dgDrops := sat32 (s.ports.dgDrops + 1) } })
      ∧ (∀ len, mine → len ≤ 1500 →
        let run := if (nth s.ports.echo p).2 + 1000000 ≤ s.tm.now then 0 else (nth s.ports.echo p).1
        ∃ t, exec (.icmpEchoRequest p ip len) s = .next t
          ∧ nth t.ports.echoSent p = nth s.ports.echoSent p + (if run < 100 then 1 else 0)
          ∧ (nth t.ports.echo p).1 = run + (if run < 100 then 1 else 0)
          ∧ t = { s with ports := { s.ports with
              echo := t.ports.echo, echoSent := t.ports.echoSent
              dgDrops := if run < 100 then s.ports.dgDrops else sat32 (s.ports.dgDrops + 1) } }))
    ∧ (∀ p : Bytes, s.ports.usb = true → s.ports.svcBuf = [] → sub p 0 2 = [0xD7, 0x4E] → u16 p 4 ≤ 4080
      → p.length = 20 + u16 p 4 → crc32c (p.take (16 + u16 p 4)) = pktCrc p → (nth s.ports.inRings 2).length < 256 →
      ∃ t, exec (.svcBytesReceived p) s = .next t ∧ t.ports.inRings = upd s.ports.inRings 2 (· ++ [svcPkt s p])
        ∧ t = { s with ports := { s.ports with inRings := t.ports.inRings, high := t.ports.high, svcLast := s.tm.now } })
    ∧ (s.ports.svcBuf.take 2 = [0xD7, 0x4E] → s.ports.svcLast + 100000 ≤ s.tm.now → (∀ b ∈ s.ports.svcBuf.drop 2, b ≠ 0xD7) →
      exec .svcPacketTimeout s = .next { s with ports :=
        { s.ports with svcTimeouts := sat32 (s.ports.svcTimeouts + 1), svcBuf := [] } })
    ∧ (∃ t, exec .usbEnumeration s = .next t ∧ t.ports.usb = true ∧ t.ports.svcBuf = [] ∧ nth t.ports.outRings 2 = []
        ∧ nth t.ports.reserve 2 = [] ∧ (∀ w, w ∈ t.ports.windows ↔ w ∈ s.ports.windows ∧ w.port ≠ 2)
        ∧ (∀ u, u ∈ t.ports.subs ↔ u ∈ s.ports.subs ∧ u.port ≠ 2)
        ∧ (∀ p, p ≠ 2 → nth t.ports.outRings p = nth s.ports.outRings p) ∧ t.ports.inRings = s.ports.inRings
        ∧ t = { s with ports := t.ports })
    ∧ (∀ p v, p ≤ 1 → v ≤ 2 → ∃ t, exec (.hostLinkChange p v) s = .next t ∧ nth t.ports.links p = v
        ∧ t = { s with ports := { s.ports with links := t.ports.links } })

/-- R39, R49, R51, R64, R227: what waits at the ports expires: window entries after 30 s, a subscription at its lease's
end with one notification on Q31 for its subscriber alone, a relayed command 1,000 ms after its frame with a refusal, a
relay message 100 ms after its first segment with a count. -/
def Obligations.WaitingItemsExpire : Prop :=
  ∀ s : State, Units s → s.core = .running →
    (∃ t, exec .duplicateWindowExpiry s = .next t
      ∧ t.ports.windows.map (·.entries) = s.ports.windows.map (fun w => w.entries.filter fun e => decide (s.tm.now < e.entered + 30000000))
      ∧ t.ports.windows.map (·.orig) = s.ports.windows.map (·.orig)
      ∧ t = { s with ports := { s.ports with windows := t.ports.windows } })
    ∧ (let due (u : Subscription) : Bool := decide (u.leaseEnd ≤ s.tm.now)
      let last := (s.ports.subs.filter due).map fun u : Subscription =>
        ({ opcode := 0xC0F1, epoch := epochField s, locator := 0xFFFFFFFF, body := [], only := some u } : Notif)
      (nth s.ports.notifs 4).items.length ≤ 256 → ∃ t, exec .subscriptionLapsed s = .next t
      ∧ t.ports.subs.map (fun u => (u.port, u.orig, u.mask, u.leaseEnd))
          = (s.ports.subs.filter (fun u => !due u)).map (fun u => (u.port, u.orig, u.mask, u.leaseEnd))
      ∧ (nth t.ports.notifs 4).items = ((nth s.ports.notifs 4).items ++ last).drop
          ((nth s.ports.notifs 4).items.length + last.length - 256)
      ∧ (∀ i, i ≠ 4 → nth t.ports.notifs i = nth s.ports.notifs i)
      ∧ ((nth s.ports.notifs 4).items.length + last.length ≤ 256 →
          t.ports.subs = s.ports.subs.filter (fun u => !due u) ∧ t.ports.drops = s.ports.drops)
      ∧ t = { s with ports := { s.ports with subs := t.ports.subs, notifs := t.ports.notifs, high := t.ports.high
                                             drops := t.ports.drops } })
    ∧ (let due (r : RelayOut) : Bool := r.counted && decide (r.sentAt + 1000000 ≤ s.tm.now)
      ∃ t, exec .relayReplyTimeout s = .next t ∧ t.ports.relays = s.ports.relays.filter (fun r => !due r)
      ∧ (∀ p, p < 8 → (nth t.ports.outRings p).length = (nth s.ports.outRings p).length
          + s.ports.relays.countP fun r => due r && r.port == p)
      ∧ t = { s with ports := { s.ports with relays := t.ports.relays, outRings := t.ports.outRings, high := t.ports.high } })
    ∧ (let due (a : RelayAsm) : Bool := decide (a.first + 100000 ≤ s.tm.now)
      exec .relayReassemblyTimeout s = .next { s with ports := { s.ports with
        asms := s.ports.asms.filter fun a => !due a, asmDrops := sat32 (s.ports.asmDrops + s.ports.asms.countP due) } })

/-- R11, R12, R521: at the end of an epoch the next begins, by the epoch length that an activation due then brings; a
jump of the timebase by more than eight epochs moves to its epoch (log entry 1). -/
def Obligations.EpochsFollowOneAnother : Prop :=
  ∀ (s : State) (now : Nat), s.core = .running → s.pw.failing = false → timeUs s = some now
    → epochStart s (s.repl.cur + 1) ≤ now →
    (s.repl.cur + 8 < epochOf s now → exec .epochEnd s = .next { s with repl := { s.repl with cur := epochOf s now } })
    ∧ (epochOf s now ≤ s.repl.cur + 8 →
      ∃ t, exec .epochEnd s = .next t ∧ t.repl.cur = s.repl.cur + 1 ∧ t.core = .running ∧ t.sec = s.sec ∧ t.inj = s.inj
        ∧ t.tm.fab = s.tm.fab
        ∧ (∀ ea rs x, s.repl.rep.scheduled = some (ea, rs, x) → ea = s.repl.cur + 1 → (∃ p ∈ rs, p.1 = 0) →
            t.cfg.len = max 1 (u32 (copyBytes s (inactive s 0) 0 0 4) 0)
            ∧ (t.cfg.len ≠ s.cfg.len → t.cfg.base = (ea, epochStart s ea)))
        ∧ (s.repl.rep.scheduled = none → t.cfg.len = s.cfg.len ∧ t.cfg.base = s.cfg.base)
        ∧ t.cfg = { s.cfg with len := t.cfg.len, base := t.cfg.base, prev := t.cfg.prev })

/-- R243 to R245, R247, R249, R250: what a member frames: a pending update in TAG_UPDATE, counted with its epoch; its
seal of the ended epoch with the frames counted; a bridge's aggregate of its segment, once for an epoch. -/
def Obligations.MembersFrameUpdatesAndSeals : Prop :=
  ∀ s : State, Units s → s.core = .running → s.repl.member = true → inReplica s = true → s.pw.failing = false →
    (∀ u, s.repl.pending = [u] → s.repl.outActs = [] → s.rcd.witWait = [] → s.repl.republish = false → bridgeRole s = 0 → outUsed s 1 < 256
      → (ownCount s (epochOf s u.stamp)).entries < (nodeEntry s s.node).quota →
      ∃ t f, exec .tagUpdateFraming s = .next t ∧ t.repl.pending = []
        ∧ f.type = 0x10 ∧ f.dest = 0xFFFF ∧ f.ttl = 63 ∧ f.origin = s.node ∧ f.seq = s.fab.frameSeq ∧ f.body = u.bytes
        ∧ nth t.fab.out 1 = nth s.fab.out 1 ++ [{ ports := [0, 1], frame := f }]
        ∧ (ownCount t (epochOf s u.stamp)).framed = (ownCount s (epochOf s u.stamp)).framed + 1
        ∧ (ownCount t (epochOf s u.stamp)).entries = (ownCount s (epochOf s u.stamp)).entries + 1
        ∧ t = { s with repl := t.repl, fab := { s.fab with out := t.fab.out, frameSeq := t.fab.frameSeq }
                       ports := { s.ports with high := t.ports.high } })
    ∧ (∀ e, s.repl.cur = e + 1 → s.tm.fab.isSome = true → s.repl.since ≤ e → epochStart s (e + 1) ≤ (fabUs s).getD 0
      → (fabUs s).getD 0 ≤ epochStart s (e + 1) + 50 → s.repl.sealed = none → sealPorts s e ≠ []
      → s.repl.sealFlags = 0 → s.pw.prepareOff = none → missedRegion s (e + 1) = none → s.repl.rep.snap.slots = [] →
      ∃ t f, exec .sealSend s = .next t
        ∧ t.repl.seals = s.repl.seals ++ [{ epoch := e, node := s.node, flags := BitVec.ofNat 8 (sealFlagsNow s)
                                            counted := (ownCount s e).framed, lanes := laneMask s, state := s.op.code }]
        ∧ f.type = 1 ∧ f.origin = s.node ∧ f.body = sealBody s e (sealFlagsNow s) (ownCount s e).framed
        ∧ nth t.fab.out 0 = nth s.fab.out 0 ++ [{ ports := sealPorts s e, frame := f }]
        ∧ t.repl = { s.repl with seals := t.repl.seals, sealed := t.repl.sealed, sealFlags := t.repl.sealFlags }
        ∧ t = { s with repl := t.repl, fab := { s.fab with out := t.fab.out, frameSeq := t.fab.frameSeq }
                       ports := { s.ports with high := t.ports.high } })
    ∧ (∀ e, aggregateDue s = some e →
      ∃ t f, exec .segmentAggregateSend s = .next t ∧ t.repl = { s.repl with aggSent := some e }
        ∧ f.type = 1 ∧ f.trunk = true ∧ f.origin = s.node ∧ f.body = aggregateBody s e
        ∧ nth t.fab.out 0 = nth s.fab.out 0 ++ [{ ports := [2, 3], frame := f }]
        ∧ t = { s with repl := t.repl, fab := { s.fab with out := t.fab.out, frameSeq := t.fab.frameSeq }
                       ports := { s.ports with high := t.ports.high } })

/-- R255, R256, R257: at its vote times a member that has sealed E votes on the unsealed run beyond each segment port,
and a bridge on the missing segments beyond each trunk port: one vote for each run that is not empty, once for an epoch;
what it votes on it discards from then on. -/
def Obligations.MembersVoteOnWhatIsMissing : Prop :=
  ∀ (s : State) (ns : Nat), Units s → s.tm.fab = some ns → s.repl.reseed = none → mayVote s (s.repl.cur - 1) = true →
    let e := s.repl.cur - 1
    let vote (kind port : Nat) (run : List Nat) : List Vote := run.head?.toList.map fun m =>
      { epoch := e, kind, port, run := run.length, subject := m, voter := s.node }
    let frame (t : State) : Prop := t = { s with repl := t.repl, fab := { s.fab with out := t.fab.out, frameSeq := t.fab.frameSeq }
                                                 ports := { s.ports with high := t.ports.high } }
    (s.repl.votedSeg ≠ some e → epochStart s (e + 1) * 1000 + 320000 + xSegment s ≤ ns →
      let r0 := unsealedRun s e 0
      let r1 := unsealedRun s e 1
      ∃ t, exec .segmentVote s = .next t ∧ frame t
        ∧ t.repl = { s.repl with votedSeg := some e, votes := s.repl.votes ++ vote 1 0 r0 ++ vote 1 1 r1
                                 voted := s.repl.voted ++ (r0 ++ r1).map fun b => (e, b) }
        ∧ (nth t.fab.out 0).length = (nth s.fab.out 0).length + (vote 1 0 r0).length + (vote 1 1 r1).length)
    ∧ (bridgeRole s ≠ 0 → s.repl.votedTrunk ≠ some e → epochStart s (e + 1) * 1000 + 900000 + xSystem s ≤ ns →
      let r2 := missingSegs s e 2
      let r3 := missingSegs s e 3
      ∃ t, exec .trunkVote s = .next t ∧ frame t
        ∧ t.repl = { s.repl with votedTrunk := some e, votes := s.repl.votes ++ vote 3 2 r2 ++ vote 3 3 r3
                                 voted := s.repl.voted ++ (r2 ++ r3).map fun g => (e, 4096 + g) }
        ∧ (nth t.fab.out 0).length = (nth s.fab.out 0).length + 2 * (vote 3 2 r2).length + 2 * (vote 3 3 r3).length)


/-- R13, R115, R126, R173, R259: the next epoch is evaluated once it has ended and nothing of it is missing, and the
node goes on from the picture evaluated; without a majority among the lanes that judge a unit nothing of it is taken and
the node re-seeds; inputs still missing at the deadline, while following or replaying, and 3 s without evaluation, make a
member re-seed; an action not decided within 400 ms is answered ACCEPTED_PENDING. -/
def Obligations.EpochsAreEvaluatedOrReseeded : Prop :=
  ∀ (s : State) (x : Nat), Units s → s.core = .running → s.pw.failing = false → s.repl.member = true → inReplica s = true
    → s.op ≠ .island → s.repl.lastEval = some x →
    let e := x + 1
    (∀ r : EvalReport, mayEvaluate s e = true → ended s e = true → foundingEpoch s e = false → aggregateDue s = none
      → missing s e = none →
      let v := evalCore s (epochIn s e)
      let j := judged s e r
      (noMajority (arrangement s) j = true →
        ∃ t, exec (.epochEvaluate r) s = .next t ∧ t.repl.lastEval = some x ∧ t.repl.rep.tags = s.repl.rep.tags
          ∧ t.repl.reseed = some 3 ∧ t.lanes.trigger = true ∧ t.cfg = s.cfg ∧ t.sec = s.sec)
      ∧ (noMajority (arrangement s) j = false → s.node ∉ declaredAbsent s e → s.node ∈ v.st.repl.rep.members
          → (∀ j a, nth s.inj j = some a → a.held = []) →
        ∃ t, exec (.epochEvaluate r) s = .next t ∧ t.repl.lastEval = some e ∧ t.repl.lastEvalAt = s.tm.now
          ∧ t.repl.rep.tags = v.st.repl.rep.tags ∧ t.repl.rep.members = v.st.repl.rep.members ∧ t.sec.fuses = s.sec.fuses))
    ∧ (∀ m, missing s e = some m → (mayEvaluate s e = true ∨ replaying s = true) → foundingEpoch s e = false
      → epochStart s (e + 1) + max (2 * epochLen s) 4000 ≤ (fabUs s).getD 0 →
      ∃ t l, exec .inputIncomplete s = .next t ∧ t.repl.reseed = some 2 ∧ t.repl.lastEval = some x
        ∧ t.repl.incomplete = sat32 (s.repl.incomplete + 1) ∧ Logs s t (0x0315 :: l)
        ∧ (∀ y ∈ l, y = 0x0313 ∨ y = 0x0115)
        ∧ ((∀ q, s.repl.req = some q → q.reseed = false) → (∀ i, (nth s.repl.relays i).testEnd = none) → l = [])
        ∧ t = { s with repl := t.repl, rcd := t.rcd, lanes := { s.lanes with trigger := true } })
    ∧ (s.repl.departing = false → s.repl.lastEvalAt + 3000000 ≤ s.tm.now →
      ∃ t l, exec .noEvaluationTimeout s = .next t ∧ t.repl.departing = true ∧ t.repl.lastEval = some x
        ∧ t.repl.reseed = some (s.repl.reseed.getD 2) ∧ Logs s t (0x0316 :: l) ∧ (∀ y ∈ l, y = 0x0115)
        ∧ ((∀ i, (nth s.repl.relays i).testEnd = none) → l = [])
        ∧ t = { s with repl := t.repl, rcd := t.rcd, lanes := t.lanes })
    ∧ (let due (w : Await) : Bool := !w.pending && decide (w.sentAt + 400000 ≤ s.tm.now)
      ∃ t, exec .alarmActionPending s = .next t
        ∧ t.repl = { s.repl with awaits := s.repl.awaits.map fun w => { w with pending := w.pending || due w } }
        ∧ (∀ p, p < 8 → (nth t.ports.outRings p).length = (nth s.ports.outRings p).length
            + s.repl.awaits.countP fun w => due w && w.cmd.port == p)
        ∧ t = { s with repl := t.repl, ports := t.ports })

/-- R265 to R270: a node that needs a replica asks the providers beyond its ports, a provider sends one block after the
other as Q23 takes them and then the end with the digest, or aborts when it is none any more; a transfer not complete
after 5 s is abandoned and tried again 10 s later; logged epochs are replayed until the node is caught up, and a member
that re-seeded resumes at the epoch boundary after that. -/
def Obligations.TransfersSendAndReplay : Prop :=
  ∀ s : State, Units s → s.core = .running →
    let moved (t : State) : Prop := t.fab = { s.fab with out := t.fab.out, frameSeq := t.fab.frameSeq }
      ∧ t.ports = { s.ports with high := t.ports.high }
    (needsReplica s = true → s.repl.req = none → s.repl.retryAt ≤ s.tm.now → synchronised s = true → s.pw.heldStart = false →
      let asks (i : Instr) : Prop :=
        (providersOf s = [] → exec i s = .next { s with repl := { s.repl with searchDue := s.tm.now + 1000000 } })
        ∧ (providersOf s ≠ [] → ∃ t r, exec i s = .next t ∧ t.repl.req = some r ∧ r.providers = providersOf s
            ∧ r.er = epochOf s ((fabUs s).getD 0) + 4 ∧ r.id = (s.repl.transferId + 1) % 0x10000 ∧ r.blocks = []
            ∧ r.reseed = s.repl.reseed.isSome ∧ Logs s t (if s.repl.reseed.isSome then [0x0313] else [])
            ∧ (nth t.fab.out 3).length = (nth s.fab.out 3).length + (providersOf s).length
            ∧ moved t ∧ t = { s with repl := t.repl, rcd := t.rcd, fab := t.fab, ports := t.ports })
      asks .transferRetry ∧ (s.repl.searchDue ≤ s.tm.now → asks .providerSearch))
    ∧ (∀ v img d, s.repl.prov = some v → v.image = some (img, d) →
      (mayProvide s = true → outUsed s 3 = 255 → v.next < blockCount →
        ∃ t f, exec .transferBlockSend s = .next t ∧ t.repl = { s.repl with prov := some { v with next := v.next + max 1 v.count } }
          ∧ f.type = (if v.reseed then 0x31 else 0x30) ∧ f.ttl = 1 ∧ f.dest = 0xFFFE
          ∧ f.body = transferFrame 2 (v.count + 16 * v.share) v.id v.er v.next ++ blockBytes s img v.next
          ∧ nth t.fab.out 3 = nth s.fab.out 3 ++ [{ ports := [v.port], frame := f }]
          ∧ moved t ∧ t = { s with repl := t.repl, fab := t.fab, ports := t.ports })
      ∧ (mayProvide s = true → outUsed s 3 < 256 → blockCount ≤ v.next →
        ∃ t f, exec .transferBlockSend s = .next t ∧ t.repl = { s.repl with prov := none }
          ∧ f.type = (if v.reseed then 0x31 else 0x30) ∧ f.body = transferFrame 3 (v.count + 16 * v.share) v.id v.er d
          ∧ nth t.fab.out 3 = nth s.fab.out 3 ++ [{ ports := [v.port], frame := f }]
          ∧ moved t ∧ t = { s with repl := t.repl, fab := t.fab, ports := t.ports })
      ∧ (mayProvide s = false →
        ∃ t f, exec .transferBlockSend s = .next t ∧ t.repl = { s.repl with prov := none }
          ∧ f.type = (if v.reseed then 0x31 else 0x30) ∧ f.body = transferFrame 5 (v.count + 16 * v.share) v.id v.er 2
          ∧ nth t.fab.out 3 = nth s.fab.out 3 ++ [{ ports := [v.port], frame := f }]
          ∧ moved t ∧ t = { s with repl := t.repl, fab := t.fab, ports := t.ports }))
    ∧ (∀ r, s.repl.req = some r →
      (r.replaying = false → r.started + 5000000 ≤ s.tm.now →
        ∃ t, exec .transferTimeout s = .next t ∧ t.repl = { s.repl with req := none, retryAt := s.tm.now + 10000000 }
          ∧ (nth t.fab.out 3).length = (nth s.fab.out 3).length + r.providers.length
          ∧ Logs s t [if r.reseed then 0x0313 else 0x0314] ∧ moved t
          ∧ t = { s with repl := t.repl, rcd := t.rcd, fab := t.fab, ports := t.ports })
      ∧ (∀ x, s.repl.lastEval = some x → r.replaying = true → r.readySent = none → r.caught = false →
        (epochStart s (x + 1) + 2 * epochLen s < (fabUs s).getD 0 → ended s (x + 1) = true → missing s (x + 1) = none →
          ∃ t, exec .loggedEpochReplay s = .next t ∧ t.repl.lastEval = some (x + 1)
            ∧ t.repl.rep = (evalCore s (epochIn s (x + 1))).st.repl.rep
            ∧ t.repl.req = some { r with replayed := r.replayed + 1 } ∧ (∀ f ∈ t.repl.frames, x + 1 < f.epoch))
        ∧ ((fabUs s).getD 0 ≤ epochStart s (x + 1) + 2 * epochLen s → r.reseed = true →
          exec .loggedEpochReplay s = .next { s with repl := { s.repl with req := some { r with caught := true } } })
        ∧ ((fabUs s).getD 0 ≤ epochStart s (x + 1) + 2 * epochLen s → r.reseed = false →
            (∃ p ∈ r.providers, p.2.1 ∉ r.readyTo) →
          ∃ t r', exec .loggedEpochReplay s = .next t ∧ t.repl.req = some r' ∧ r'.readySent = some s.repl.cur
            ∧ r'.readyTo.length = r.readyTo.length + 1 ∧ (nth t.fab.out 3).length = (nth s.fab.out 3).length + 1
            ∧ moved t ∧ t = { s with repl := t.repl, fab := t.fab, ports := t.ports }))
      ∧ (∀ now, r.caught = true → s.pw.failing = false → timeUs s = some now → epochStart s (s.repl.cur + 1) ≤ now
          → epochOf s now ≤ s.repl.cur + 8 →
        ∃ t, exec .epochEnd s = .next t ∧ t.repl.req = none ∧ t.repl.reseed = none))

/-- R272, R273, R415: a witness record not acknowledged within 50 ms is sent again to every neighbour that did not file
it, each part on Q21 or, where it has no free descriptor, waiting in order; after the third re-send it is given up with
WITNESS_UNFILED (0x0408) for each neighbour that did not file it. -/
def Obligations.WitnessRecordsAreSentAgain : Prop :=
  ∀ s : State, Units s → s.core = .running → s.pw.failing = false →
    ∃ t l, exec .witnessResend s = .next t
      ∧ t.rcd.witOut = s.rcd.witOut.filterMap (fun w =>
          if s.tm.now < w.sent + 50000 then some w
          else if w.tries < 3 then some { w with sent := s.tm.now, tries := w.tries + 1 } else none)
      ∧ s.rcd.witWait <+: t.rcd.witWait
      ∧ (bridgeRole s = 0 → outUsed t 1 + t.rcd.witWait.length = outUsed s 1 + s.rcd.witWait.length
          + ((s.rcd.witOut.filter fun w => !decide (s.tm.now < w.sent + 50000) && decide (w.tries < 3)).map fun w =>
              (w.open_.map (·.2)).dedup.length * (witnessParts w.num w.bytes).length).sum)
      ∧ t.rcd = { s.rcd with queue := s.rcd.queue ++ l, witOut := t.rcd.witOut, witWait := t.rcd.witWait }
      ∧ l.map QItem.recordType = (s.rcd.witOut.filter fun w => !decide (s.tm.now < w.sent + 50000) && !decide (w.tries < 3)).flatMap
          (fun w => w.open_.map fun _ => some 0x0408)
      ∧ t = { s with rcd := t.rcd, fab := { s.fab with out := t.fab.out, frameSeq := t.fab.frameSeq }
                     ports := { s.ports with high := t.ports.high } }


/-- R249 to R252, R256, R257, R260, R264: the frames of replication that a node takes stand in its inputs: seals,
aggregates, votes and digests beside those held, counted frames in the slot of their epoch, or discarded and counted
when they come after its evaluation or more than eight epochs before. A frame accepted is counted at its port. -/
def Obligations.ReplicationFramesAreHeld : Prop :=
  ∀ (s : State) (rx : RxFrame) (os : List OriginEntry), Units s → s.core = .running → ArrivesHere s rx os →
    let f := hdrFrame rx.bytes
    let b := f.body
    let takes (i : Instr) (r : Repl) : Prop := exec i s = .next { s.accepted rx os with repl := r }
    let placed (i : Instr) (c : CFrame) : Prop := ∀ x, s.repl.lastEval = some x → s.repl.req = none →
      (x < c.epoch → c.epoch ≤ x + 8 → takes i { s.repl with frames := s.repl.frames ++ [c] })
      ∧ (c.epoch ≤ x → takes i { s.repl with lateDiscards := sat32 (s.repl.lateDiscards + 1) })
      ∧ (x + 8 < c.epoch → takes i { s.repl with earlyDiscards := sat32 (s.repl.earlyDiscards + 1) })
    (f.type = 1 → b.length = 12 → u8 b 0 = 0 → u8 b 1 ≤ 7 → allZero b 10 2 = true → segOf f.origin = segOf s.node
      → wanted s (liftEpoch s (u32 b 4)) = true → sealOf s (liftEpoch s (u32 b 4)) f.origin = none →
      takes (.sealReceived rx) { s.repl with
        founding := { s.repl.founding with quietSince := s.tm.now }
        seals := s.repl.seals ++ [{ epoch := liftEpoch s (u32 b 4), node := f.origin, flags := BitVec.ofNat 8 (u8 b 1)
                                    counted := u16 b 2, lanes := u8 b 8, state := u8 b 9 }] })
    ∧ (f.type = 1 → b.length = 176 → u8 b 0 = 1 → u8 b 1 ≤ 63 → allZero b 2 2 = true → segOf f.origin = u8 b 1
      → u8 b 1 ≠ segOf s.node → wanted s (liftEpoch s (u32 b 4)) = true
      → (∀ a ∈ aggsOf s (liftEpoch s (u32 b 4)) (u8 b 1), a.bridge ≠ f.origin) →
      let u : State := { s with repl := { s.repl with founding := { s.repl.founding with quietSince := s.tm.now }
                                                      aggs := s.repl.aggs ++ [aggregateOf s f] } }
      let differ (x : State) : Bool := aggsDiffer x (liftEpoch s (u32 b 4)) (u8 b 1)
      ∃ t, exec (.segmentAggregateReceived rx) s = .next t ∧ Logs s t (if differ u && !differ s then [0x0316] else [])
        ∧ t = { s.accepted rx os with repl := u.repl, rcd := t.rcd })
    ∧ (f.type = 2 → b.length = 12 → (u8 b 0 = 1 ∧ u8 b 1 ≤ 1 ∧ segOf f.origin = segOf s.node ∨ u8 b 0 = 3 ∧ 2 ≤ u8 b 1 ∧ u8 b 1 ≤ 3)
      → 1 ≤ u8 b 2 → u8 b 2 ≤ 63 → allZero b 3 1 = true → allZero b 10 2 = true → wanted s (liftEpoch s (u32 b 4)) = true →
      takes (if u8 b 0 = 1 then .segmentVoteReceived rx else .trunkVoteReceived rx) { s.repl with
        votes := s.repl.votes ++ [{ epoch := liftEpoch s (u32 b 4), kind := u8 b 0, port := u8 b 1, run := u8 b 2
                                    subject := u16 b 8, voter := f.origin }] })
    ∧ (f.type = 2 → b.length = 12 → u8 b 0 = 2 → allZero b 1 3 = true → allZero b 10 2 = true →
      placed (.membershipJoinReceived rx) { epoch := liftEpoch s (u32 b 4), origin := f.origin, seq := f.seq, body := .join (u16 b 8) })
    ∧ (∀ us u, f.type = 0x10 → b.length % 16 = 0 → us = (List.range (b.length / 16)).map (fun i => Upd.ofBytes (sub b (16 * i) 16))
      → us.head? = some u → (∀ v ∈ us, epochOf s v.stamp = epochOf s u.stamp) →
      placed (.tagUpdateReceived rx) { epoch := epochOf s u.stamp, origin := f.origin, seq := f.seq, body := .updates us })
    ∧ (f.type = 0x11 → 16 ≤ b.length → u8 b 12 < u8 b 13 → u8 b 13 ≤ 19 → u8 b 14 ≤ 7 → allZero b 15 1 = true →
      placed (.actionReceived rx) { epoch := epochOf s (u64 b 0), origin := f.origin, seq := f.seq
                                    body := .part { stamp := u64 b 0, opcode := u16 b 8, number := u16 b 10, port := u8 b 14
                                                    origin := f.origin, payload := b.drop 16 } (u8 b 12) (u8 b 13) })
    ∧ (f.type = 3 → b.length = 16 → allZero b 4 4 = true → (∀ v, (liftEpoch s (u32 b 0), f.origin, v) ∉ s.repl.digests) →
      takes (.digestReceived rx) { s.repl with digests := s.repl.digests ++ [(liftEpoch s (u32 b 0), f.origin, u64 b 8)] })

/-- R62, R227, R233, R235, R272, R273, R414, R477, R478, R521: the other frames for a node: announces enter the choice
of the master and the highest persisted time of the class-3 nodes, witness records are filed once and acknowledged,
relay segments make up the packet relayed, and the frames of a founding tell of it. -/
def Obligations.NodeFramesAreTaken : Prop :=
  ∀ (s : State) (rx : RxFrame) (os : List OriginEntry), Units s → s.core = .running → ArrivesHere s rx os →
    let f := hdrFrame rx.bytes
    let b := f.body
    let fab : Fabric := { s.fab.counted rx.port with origins := os }
    let a1 := s.accepted rx os
    (f.type = 8 → b.length = 16 → allZero b 3 1 = true → allZero b 14 2 = true →
      let a : Announce := { node := u16 b 0, cls := u8 b 2, persisted := u64 b 4, master := u16 b 12, at_ := s.tm.now }
      let heard : Fabric := { s.fab with announces := a :: s.fab.announces.filter (·.node != a.node) }
      let u : State := { s with fab :=
        if a.cls = 1 ∨ a.cls = 2 then { heard with lastGoodAnnounce := s.tm.now, cold := none, coldHigh := 0 }
        else if a.cls = 3 then { heard with coldHigh := max s.fab.coldHigh a.persisted } else heard }
      ∃ t, exec (.timeAnnounceReceived rx) s = .next t ∧ t.fab.announces = heard.announces
        ∧ (∀ n, masterChoice u = some n → t.fab.master = some n)
        ∧ (∀ n, masterChoice u = some n → s.fab.master = some n → t = { a1 with fab :=
            { fab with announces := heard.announces, lastGoodAnnounce := u.fab.lastGoodAnnounce, cold := u.fab.cold
                       coldHigh := u.fab.coldHigh } })
        ∧ t.fab.coldHigh = u.fab.coldHigh ∧ t.fab.cold = u.fab.cold
        ∧ (∀ n, masterChoice u = some n → s.fab.master ≠ some n → Logs s t [0x0301])
        ∧ t = { a1 with fab := t.fab, rcd := t.rcd })
    ∧ (f.type = 0x12 → 9 ≤ b.length → u8 b 0 = 1 → u8 b 1 = 0 → u8 b 2 = 1 → allZero b 3 1 = true → s.rcd.witnessOnly = false
      → (∀ w ∈ s.rcd.witIn, (w.origin, w.inc, w.num) ≠ (f.origin, f.inc, u32 b 4)) →
      (s.rcd.filed.contains (f.origin, f.inc, u32 b 4) = false
        → (∀ p r, QItem.witness p f.origin f.inc (u32 b 4) r ∉ s.rcd.queue) →
        ∃ t, exec (.witnessRecordReceived rx) s = .next t ∧ Logs s t [0x0480] ∧ t = { a1 with rcd := t.rcd })
      ∧ (s.rcd.filed.contains (f.origin, f.inc, u32 b 4) = true →
          ¬ (s.rcd.witWait = [] ∧ s.repl.outActs = [] ∧ outUsed s 1 < 256) →
        exec (.witnessRecordReceived rx) s = .next { a1 with rcd := { s.rcd with witWait :=
          s.rcd.witWait ++ [(s.repl.outActs.length, f.origin, le 1 2 ++ zeros 3 ++ le 4 (u32 b 4))] } })
      ∧ (s.rcd.filed.contains (f.origin, f.inc, u32 b 4) = true →
          s.rcd.witWait = [] → s.repl.outActs = [] → outUsed s 1 < 256 →
        ∃ t g, exec (.witnessRecordReceived rx) s = .next t ∧ g.type = 0x12 ∧ g.dest = f.origin
          ∧ g.body = le 1 2 ++ zeros 3 ++ le 4 (u32 b 4) ∧ nth t.fab.out 1 = nth s.fab.out 1 ++ [{ ports := [0, 1], frame := g }]
          ∧ t = { a1 with fab := { fab with out := t.fab.out, frameSeq := t.fab.frameSeq }, ports := { s.ports with high := t.ports.high } }))
    ∧ (∀ w, f.type = 0x12 → b.length = 8 → u8 b 0 = 2 → allZero b 1 3 = true → s.rcd.witOut = [w] → w.num = u32 b 4 →
      (w.holder = [f.origin] → w.ack = [false] →
        exec (.witnessAckReceived rx) s = .next { a1 with rcd := { s.rcd with witOut := [] } })
      ∧ (∀ h, h ≠ f.origin → w.holder = [f.origin, h] → w.ack = [false, false] →
        exec (.witnessAckReceived rx) s = .next { a1 with rcd := { s.rcd with witOut := [{ w with ack := [true, false] }] } }))
    ∧ (∀ p : Bytes, f.type = 0x20 → b = le 2 (u16 b 0) ++ [0, 0, 1, 0] ++ le 2 (p.length + 8) ++ relayBody f.origin (u8 b 12) 0 (u16 b 14) p
      → 20 ≤ p.length → p.length ≤ 224 → u8 b 12 ≤ 2 → (∀ a ∈ s.ports.asms, (a.origin, a.tag, a.dir) ≠ (f.origin, u16 b 0, 0))
      → s.ports.asms.length < 256 → (nth s.ports.inRings (3 + rx.port)).length < 256 →
      ∃ t, exec (.relaySegmentReceived rx) s = .next t
        ∧ t.ports.inRings = upd s.ports.inRings (3 + rx.port) (· ++
            [{ orig := .relay f.origin (u16 b 14), origNode := f.origin, origPort := u8 b 12, pkt := p }])
        ∧ t = { a1 with ports := { s.ports with inRings := t.ports.inRings, high := t.ports.high } })
    ∧ (f.type = 4 → u8 b 0 = 1 → b.length = 16 → mayFound s = true → u32 b 12 = tableIdentity s
      → (s.repl.founding.founder = true → s.fab.master = some f.origin) →
      let u : State := { s with cfg := { s.cfg with base := (0, 0), prev := (0, 0, s.cfg.len) } }
      exec (.foundingAnnounceReceived rx) s = .next { a1 with cfg := u.cfg, repl := { s.repl with
        cur := (fabUs s).elim s.repl.cur (epochOf u)
        founding := { s.repl.founding with founder := false, ef := some (liftEpoch u (u32 b 4)), founderNode := u16 b 8
                                           quietSince := s.tm.now } } })
    ∧ (∀ ef, f.type = 4 → u8 b 0 = 2 → b.length = 16 → s.repl.founding.ef = some ef → s.repl.founding.founder = true
      → (fabUs s).getD 0 < epochStart s ef → u32 b 4 = ef % 0x100000000 → u32 b 12 = tableIdentity s →
      exec (.foundingReadyReceived rx) s = .next { a1 with repl := { s.repl with founding :=
        { s.repl.founding with ready := ins s.repl.founding.ready f.origin } } })
    ∧ (∀ ef, f.type = 4 → u8 b 0 = 3 → u8 b 1 < 3 → u8 b 2 = 3 → b.length = (if u8 b 1 = 2 then 176 else 192)
      → s.repl.founding.ef = some ef → mayFound s = true → s.repl.founding.founder = false → u32 b 4 = ef % 0x100000000 →
      ∃ ns, exec (.foundingRosterReceived rx) s = .next { a1 with repl := { s.repl with founding :=
          { s.repl.founding with parts := put s.repl.founding.parts (u8 b 1) ns } } }
        ∧ ∀ n, n ∈ ns ↔ 1408 * u8 b 1 ≤ n ∧ n - 1408 * u8 b 1 ∈ bitsOf (b.drop 16))

/-- R212, R230, R231, R232, R234, R236: hellos make and undo the match of a port, by the run of 1 ms intervals with one
(counted from the first, log entry 87), and a DARK port only notes them; delay frames measure its link; a sync from
upstream gives the offset and the rate within ±100 ppm. A frame accepted is counted at its port. -/
def Obligations.LinkFramesAreTaken : Prop :=
  ∀ (s : State) (rx : RxFrame), Units s → Arrives s rx → (hdrFrame rx.bytes).dest = 0xFFFE →
    let f := hdrFrame rx.bytes
    let b := f.body
    let p := rx.port
    let x := fport s p
    let y : FabPort := { x with accepted := sat32 (x.accepted + 1) }
    (f.type = 0x0C → b.length = 12 → allZero b 9 3 = true → linkFrames s p = true →
      let run := (helloRun s x).1
      let z : FabPort := { y with partner := u16 b 0, partnerPort := u8 b 2, partnerClass := u8 b 8, lastHello := s.tm.now
                                  hellos := run, runStart := (helloRun s x).2, quietHello := true }
      (helloMatches s p b = true → (run < 100 ∨ x.state = .up ∨ x.state = .dark) →
        exec (.linkHelloReceived rx) s = .next { s with fab := { s.fab with ports := upd s.fab.ports p fun _ => z } })
      ∧ (helloMatches s p b = true → 100 ≤ run → x.state = .hello → s.core = .running →
        ∃ t, exec (.linkHelloReceived rx) s = .next t ∧ (fport t p).state = .up ∧ Logs s t [0x0300]
          ∧ (∀ q, q ≠ p → fport t q = fport s q) ∧ t = { s with fab := t.fab, rcd := t.rcd })
      ∧ (helloMatches s p b = true → 100 ≤ run → x.state = .miswired → s.core = .running →
        ∃ t, exec (.linkHelloReceived rx) s = .next t ∧ (fport t p).state = .hello ∧ Logs s t [0x0300]
          ∧ (∀ q, q ≠ p → fport t q = fport s q) ∧ t = { s with fab := t.fab, rcd := t.rcd })
      ∧ (helloMatches s p b = false → x.state = .dark → exec (.linkHelloReceived rx) s = .next { s with fab := { s.fab with
          ports := upd s.fab.ports p fun _ => { z with hellos := 0, quietHello := false } } })
      ∧ (helloMatches s p b = false → x.state ≠ .dark → ∃ t, exec (.linkHelloReceived rx) s = .next t
          ∧ ((fport t p).state = .miswired ∨ (fport t p).state = .held) ∧ ∀ q, q ≠ p → fport t q = fport s q))
    ∧ (f.type = 0x0A → b.length = 8 → linkFrames s p = true →
      ∃ t g, exec (.delayReqReceived rx) s = .next t ∧ g.type = 0x0B ∧ g.dest = 0xFFFE ∧ g.ttl = 1
        ∧ g.body = le 4 (u32 b 0) ++ zeros 4 ++ le 8 rx.ns ++ zeros 8
        ∧ t.fab.transit = s.fab.transit ++ [{ ports := [p], frame := g }]
        ∧ t = { s with fab := { s.fab.counted p with transit := t.fab.transit, frameSeq := t.fab.frameSeq } })
    ∧ (∀ t1, f.type = 0x0B → b.length = 24 → linkFrames s p = true → x.reqOut = some (u32 b 0, t1) →
      exec (.delayRespReceived rx) s = .next { s with fab := { s.fab with ports := upd s.fab.ports p fun _ =>
        { y with reqOut := none, delays := ((((rx.ns : Int) - t1) - ((u64 b 16 : Int) - u64 b 8)) / 2 :: x.delays).take 8 } } })
    ∧ (f.type = 9 → isUp s p = true → b.length = 16 → allZero b 4 4 = true → u8 b 2 ≠ 0 →
      let u := s.setPort p fun _ => { y with lastSync := some (u16 b 0, u8 b 2, u8 b 3, s.tm.now) }
      (upstreamChoice u ≠ some p →
        exec (.timeSyncReceived rx) s = .next { u with fab := { u.fab with upstream := upstreamChoice u } })
      ∧ (upstreamChoice u = some p →
        ∃ t, exec (.timeSyncReceived rx) s = .next t ∧ t.fab.upstream = some p ∧ t.fab.hops = u8 b 2 ∧ t.fab.ports = u.fab.ports
          ∧ t.fab.offset = some ((rx.ns : Int) - (u64 b 8 + (linkDelay s p).getD 0))
          ∧ (-100000 ≤ s.fab.rate → s.fab.rate ≤ 100000 → -100000 ≤ t.fab.rate ∧ t.fab.rate ≤ 100000)
          ∧ t.fab.transit.length + 1 = s.fab.transit.length + (upPorts s).length
          ∧ t = { s with fab := t.fab, tm := { s.tm with fab := t.tm.fab, anchorDue := t.tm.anchorDue }, rcd := t.rcd
                         repl := { s.repl with departing := t.repl.departing } }))

/-- R222, R243, R265 to R269, R273: transfer frames, by kind: a request takes the one provider's place that is free and
otherwise is refused with an abort of reason 1, blocks and end frames of the transfer in progress are held, an abort
ends it, a ready frame names a joiner; a SNAPSHOT frame is counted as a header error. -/
def Obligations.TransferFramesAreTaken : Prop :=
  ∀ (s : State) (rx : RxFrame), Units s → s.core = .running → ArrivesLocal s rx →
    let f := hdrFrame rx.bytes
    let b := f.body
    let p := rx.port
    let a1 := s.accepted rx s.fab.origins
    let takes (i : Instr) (r : Repl) : Prop := exec i s = .next { a1 with repl := r }
    (f.type = 0x30 ∨ f.type = 0x31 → 16 ≤ b.length →
      (u8 b 0 = 1 →
        let er := liftEpoch s (u32 b 4)
        let free : Prop := mayProvide s = true ∧ s.repl.prov = none ∧ s.repl.rep.scheduled = none ∧ ∃ x, s.repl.lastEval = some x ∧ x < er
        let v : Provider := { node := f.origin, port := p, reseed := f.type == 0x31, id := u16 b 2, er := er, share := u8 b 1 / 16
                              count := u8 b 1 % 16, next := u8 b 1 / 16, image := none }
        (free → takes (.transferRequestReceived rx) { s.repl with prov := some v })
        ∧ (¬ free → ∃ t g, exec (.transferRequestReceived rx) s = .next t ∧ g.type = f.type
            ∧ g.body = transferFrame 5 (u8 b 1) (u16 b 2) (u32 b 4) 1
            ∧ nth t.fab.out 3 = nth s.fab.out 3 ++ [{ ports := [p], frame := g }]
            ∧ t = { a1 with fab := { a1.fab with out := t.fab.out, frameSeq := t.fab.frameSeq }
                            ports := { s.ports with high := t.ports.high } }))
      ∧ (∀ r, s.repl.req = some r → ofTransfer r p f = true →
        (u8 b 0 = 2 → b.length = 144 → u32 b 8 < blockCount →
          takes (.transferBlockReceived rx) { s.repl with req := some { r with blocks := put r.blocks (u32 b 8) (b.drop 16) } })
        ∧ (u8 b 0 = 3 →
          let ps := r.providers.map fun v => if v.1 = p then (v.1, v.2.1, some (u64 b 8)) else v
          ((∃ v ∈ ps, v.2.2 = none) → takes (.transferEndReceived rx) { s.repl with req := some { r with providers := ps } })
          ∧ ((∀ v ∈ ps, v.2.2 ≠ none) → r.blocks.length ≠ blockCount →
            ∃ t, exec (.transferEndReceived rx) s = .next t
              ∧ t.repl = { s.repl with req := none, retryAt := s.tm.now + 10000000 }
              ∧ Logs s t [if r.reseed then 0x0313 else 0x0314]))
        ∧ (u8 b 0 = 5 → s.repl.prov = none →
          ∃ t, exec (.transferAbortReceived rx) s = .next t ∧ t.repl = { s.repl with req := none, retryAt := s.tm.now + 10000000 }
            ∧ Logs s t [if r.reseed then 0x0313 else 0x0314]))
      ∧ (∀ v, s.repl.prov = some v → s.repl.req = none → u8 b 0 = 5 → v.node = f.origin → v.port = p → u16 b 2 = v.id →
        takes (.transferAbortReceived rx) { s.repl with prov := none })
      ∧ (u8 b 0 = 4 → s.repl.member = true → inReplica s = true → (∀ j ∈ s.repl.joinOf, j.1 ≠ f.origin) →
        takes (.transferReadyReceived rx) { s.repl with joinOf := s.repl.joinOf ++ [(f.origin, liftEpoch s (u32 b 4))] }))
    ∧ (f.type = 0x32 →
      exec (.snapshotFrameReceived rx) s = .next { a1 with fab := { a1.fab with ports := upd s.fab.ports p fun y =>
        { y with accepted := sat32 (y.accepted + 1), headErrors := sat32 (y.headErrors + 1) } } })

/-- R211, R215, R217, R220, R221, R224: a frame with a bad header is counted and goes nowhere; one with a bad CRC is
counted, not accepted, and goes on coded as an error; a frame not for this node goes on, with one from its TTL, on the
ring's other port unless a copy was accepted before; a bridge also carries it on to its trunk ports when it is for
another segment, and has then accepted it; a type not listed goes on the same and is never accepted. -/
def Obligations.SwitchForwardsAndCounts : Prop :=
  ∀ (s : State) (rx : RxFrame), Units s → switchRuns s = true → rx.port < 4 → isUp s rx.port = true
    → nth s.inj (2 * rx.port) = none → rx.coded = false → 24 ≤ rx.bytes.length → rx.bytes.length ≤ 264 →
    let f := hdrFrame rx.bytes
    let sent (coded : Bool) : List TxFrame := [{ ports := [otherPort rx.port], frame := { f with ttl := f.ttl - 1 }, coded }]
    let i : Instr := if f.type = 0x10 then .tagUpdateReceived rx else .unknownFrameReceived rx
    (f.type = 0x10 ∨ frameClass f.type = none) →
      (headerOk rx.bytes = false →
        exec i s = .next { s with fab := { s.fab with ports := upd s.fab.ports rx.port fun y =>
          { y with headErrors := sat32 (y.headErrors + 1) } } })
      ∧ (headerOk rx.bytes = true → f.dest ≠ 0xFFFE → f.origin ≠ s.node → votedAgainst s f = false → hasImage s = true → f.ttl ≠ 1
          → f.dest ≠ s.node →
        (crcOk rx.bytes = false → (acceptOrigin s.fab.origins f).isSome = true →
          exec i s = .next { s with fab := { s.fab with
            ports := upd s.fab.ports rx.port (fun y => { y with crcErrors := sat32 (y.crcErrors + 1) })
            transit := s.fab.transit ++ sent true } })
        ∧ (crcOk rx.bytes = true → (acceptOrigin s.fab.origins f).isSome = true → bridgeRole s = 0
            → (f.dest ≠ 0xFFFF ∨ frameClass f.type = none) →
          exec i s = .next { s with fab := { s.fab with transit := s.fab.transit ++ sent false } })
        ∧ (∀ os, crcOk rx.bytes = true → acceptOrigin s.fab.origins f = some os → bridgeRole s ≠ 0 → rx.port ≤ 1 → f.type = 0x10
            → f.trunk = false → f.dest ≠ 0xFFFF → segOf f.dest ≠ segOf s.node →
          exec i s = .next { s with fab := { s.fab with
            origins := os
            transit := s.fab.transit ++ sent false ++ [{ ports := [2, 3], frame := { f with trunk := true, ttl := 63 } }] } })
        ∧ (crcOk rx.bytes = true → acceptOrigin s.fab.origins f = none → exec i s = .next s))
      ∧ (bridgeRole s = 0 → headerOk rx.bytes = true → crcOk rx.bytes = true → frameClass f.type = none → f.dest ≠ 0xFFFE → (f.ttl = 1 ∨ f.dest = s.node) →
        exec (.unknownFrameReceived rx) s = .next s)


/-- R209 to R214, R229, R230: sync, which a node on BOSC cannot acquire, brings a DOWN port to HELLO, its loss and the
loss of hellos take a port down, which counts as a departure when it was UP (the tenth within 60 s holds it for 60 s);
hellos go out on the ports that are lit; in QUIET the ports that carry no transfer go DARK at 5 ms, and return at 25 ms
with sync and a matching hello heard since 24 ms. -/
def Obligations.PortsFollowTheirStates : Prop :=
  ∀ (s : State) (p : Nat), Units s → s.core = .running → p < 4 →
    let x := fport s p
    let others (t : State) : Prop := ∀ q, q ≠ p → fport t q = fport s q
    let recent := x.departTimes.filter fun d => decide (s.tm.now < d + 60000000)
    (s.clk.ref = some .bosc → exec (.linkSyncAcquired p) s = .next s)
    ∧ (s.clk.ref ≠ some .bosc → ∃ t, exec (.linkSyncAcquired p) s = .next t ∧ (fport t p).sync = true
      ∧ (fport t p).state = (if x.state = .down then .hello else x.state) ∧ Logs s t (if x.state = .down then [0x0300] else [])
      ∧ others t ∧ t = { s with fab := t.fab, rcd := t.rcd })
    ∧ (s.repl.req = none →
      (linkFrames s p = true → x.state ≠ .dark → downSuspended s = false →
        ∃ t, exec (.linkSyncLost p) s = .next t ∧ (fport t p).sync = false
          ∧ (fport t p).state = (if x.state = .up ∧ 9 ≤ recent.length then .held else .down)
          ∧ Logs s t (if x.state = .up ∧ 9 ≤ recent.length then [0x0300, 0x0300] else [0x0300])
          ∧ (fport t p).departures = (if x.state = .up then sat16 (x.departures + 1) else x.departures)
          ∧ others t ∧ t = { s with fab := t.fab, rcd := t.rcd })
      ∧ (isUp s p = true → downSuspended s = false → 3000 ≤ litSince s x.lastHello → recent.length < 9 →
        ∃ t, exec (.helloLossTimeout p) s = .next t ∧ (fport t p).state = (if x.sync then .hello else .down)
          ∧ (fport t p).departures = sat16 (x.departures + 1) ∧ others t
          ∧ Logs s t (if x.sync then [0x0300, 0x0300] else [0x0300]) ∧ t = { s with fab := t.fab, rcd := t.rcd })
      ∧ (x.state = .held → x.heldUntil ≤ s.tm.now →
        ∃ t, exec (.portHoldExpiry p) s = .next t ∧ (fport t p).state = (if x.sync then .hello else .down)
          ∧ (fport t p).departures = x.departures ∧ others t
          ∧ Logs s t (if x.sync then [0x0300, 0x0300] else [0x0300]) ∧ t = { s with fab := t.fab, rcd := t.rcd }))
    ∧ (let due (q : Nat) : Bool := (fport s q).sync && linkFrames s q && decide ((fport s q).helloDue ≤ s.tm.now) && lit s q
      ∃ t, exec .linkHelloSend s = .next t ∧ (fport t p).helloDue = (if due p then s.tm.now + 1000 else x.helloDue)
        ∧ (due p = true → ∃ f ∈ t.fab.transit, f.ports = [p] ∧ f.frame.type = 0x0C ∧ f.frame.dest = 0xFFFE ∧ f.frame.body = helloBody s p)
        ∧ t.fab.transit.length = s.fab.transit.length + (List.range 4).countP due
        ∧ t = { s with fab := { s.fab with ports := t.fab.ports, transit := t.fab.transit, frameSeq := t.fab.frameSeq } })
    ∧ (∀ ms : Nat, quietSystem s = true → s.fab.quietMs ≠ ms → ms * 1000 ≤ quietPhase s →
      (ms = 5 → quietPhase s < 24000 → ∃ t, exec (.quietPhaseBoundary ms) s = .next t ∧ t.fab.dark = true ∧ t.fab.quietMs = 5
        ∧ (x.state = .up → (fport t p).state = if carriesTransfer s p then .up else .dark) ∧ t.repl = s.repl)
      ∧ (ms = 24 → quietPhase s < 25000 → ∃ t, exec (.quietPhaseBoundary ms) s = .next t
        ∧ fport t p = (if x.state = .dark then { x with quietHello := false } else x)
        ∧ t = { s with fab := { s.fab with ports := t.fab.ports, quietMs := 24, dark := false } })
      ∧ (ms = 25 → ∃ t, exec (.quietPhaseBoundary ms) s = .next t ∧ t.fab.dark = false ∧ t.fab.quietMs = 25
        ∧ (x.state = .dark → ((fport t p).state = .up ↔ x.sync = true ∧ x.quietHello = true)) ∧ t.repl = s.repl)
      ∧ (ms = 4 → quietPhase s < 5000 → exec (.quietPhaseBoundary ms) s
          = .next { s with fab := { s.fab with quietMs := ms, dark := false } }))

/-- R230, R232 to R236, R410, R412: delay requests, announces and syncs go out when they are due; announces leave the
choice of the master after 300 ms; without an upstream the node is not synchronised; a cold start makes the lowest
class-3 node master and starts fabric time 1 s after the latest persisted time, its own or one announced by a class-3
node, with TIME_ANCHOR; operating time is persisted in the two
copies by turns, and TIME_ANCHOR (0x0306) is written every 3,600 s. -/
def Obligations.FabricTimeIsKept : Prop :=
  ∀ s : State, Units s → s.core = .running →
    (∀ p, p < 4 → isUp s p = true → (fport s p).delayDue ≤ s.tm.now →
      ∃ t, exec .delayMeasure s = .next t ∧ (fport t p).delayDue = s.tm.now + 100000
        ∧ (fport t p).reqNum = ((fport s p).reqNum + 1) % 0x100000000 ∧ (fport t p).reqOut = none
        ∧ (∃ f ∈ t.fab.transit, f.ports = [p] ∧ f.frame.type = 0x0A ∧ f.frame.dest = 0xFFFE
            ∧ f.frame.body = le 4 (((fport s p).reqNum + 1) % 0x100000000) ++ zeros 4)
        ∧ (∀ q, (fport t q).state = (fport s q).state)
        ∧ t = { s with fab := { s.fab with ports := t.fab.ports, transit := t.fab.transit, frameSeq := t.fab.frameSeq } })
    ∧ (hasImage s = true → s.fab.announceDue ≤ s.tm.now → timeClass s ≤ 3 → s.pw.failing = false → bridgeRole s = 0 →
      ∃ t f, exec .timeAnnounceSend s = .next t ∧ t.fab.announceDue = s.tm.now + 100000 ∧ f.type = 8 ∧ f.dest = 0xFFFF ∧ f.ttl = 63
        ∧ f.body = le 2 s.node ++ le 1 (timeClass s) ++ zeros 1 ++ le 8 s.tm.fabPersist ++ le 2 (s.fab.master.getD 0xFFFF) ++ zeros 2
        ∧ nth t.fab.out 0 = nth s.fab.out 0 ++ [{ ports := [0, 1], frame := f }]
        ∧ t = { s with fab := { s.fab with out := t.fab.out, frameSeq := t.fab.frameSeq, announceDue := t.fab.announceDue }
                       ports := { s.ports with high := t.ports.high } })
    ∧ (let u : State := { s with fab := { s.fab with announces := s.fab.announces.filter fun a => decide (litSince s a.at_ < 300000) } }
      ∃ t, exec .announceExpiry s = .next t ∧ t.fab.announces = u.fab.announces ∧ (∀ n, masterChoice u = some n → t.fab.master = some n)
        ∧ (masterChoice u = none → s.fab.cold = none → t.fab.master = none)
        ∧ (masterChoice u = s.fab.master → t = u) ∧ t = { s with fab := t.fab, rcd := t.rcd })
    ∧ (s.fab.master = some s.node → s.tm.fab.isSome = true →
      let due (q : Nat) : Bool := isUp s q && decide ((fport s q).syncDue ≤ s.tm.now)
      ∃ t, exec .timeSyncSend s = .next t ∧ t.fab.transit.length = s.fab.transit.length + (List.range 4).countP due
        ∧ (∀ p, p < 4 → due p = true → (fport t p).syncDue = s.tm.now + 1000 ∧ ∃ f ∈ t.fab.transit, f.ports = [p]
            ∧ f.frame.type = 9 ∧ f.frame.dest = 0xFFFE
            ∧ f.frame.body = le 2 s.node ++ le 1 1 ++ le 1 (timeClass s) ++ zeros 12)
        ∧ t = { s with fab := { s.fab with ports := t.fab.ports, transit := t.fab.transit, frameSeq := t.fab.frameSeq } })
    ∧ ((upstreamChoice s = none → exec .upstreamTimeout s = .next { s with fab := { s.fab with upstream := none, syncSince := none } })
      ∧ (∀ p, upstreamChoice s = some p → exec .upstreamTimeout s = .next { s with fab := { s.fab with upstream := some p } }))
    ∧ (∀ up, s.fab.firstUp = some up →
      (timeClass s = 4 → s.fab.cold = none → max up s.fab.lastGoodAnnounce + 2000000 ≤ s.tm.now →
        exec .coldCandidateTimer s = .next { s with fab := { s.fab with cold := some s.tm.now, announceDue := s.tm.now } })
      ∧ (∀ c, s.fab.cold = some c → c + 2000000 ≤ s.tm.now → s.fab.master = none →
          (∀ a ∈ s.fab.announces, a.cls = 3 → litSince s a.at_ < 300000 → s.node < a.node) →
        ∃ t, exec .coldCandidateTimer s = .next t
          ∧ t.tm.fab = some ((max s.fab.coldHigh s.tm.fabPersist + 1000000) * 1000)
          ∧ t.fab.master = some s.node ∧ t.fab.cold = none ∧ Logs s t [0x0301, 0x0302, 0x0306]
          ∧ t = { s with fab := t.fab, rcd := t.rcd, tm := { s.tm with fab := t.tm.fab, anchorDue := s.tm.op + 36000000 } }))
    ∧ (s.tm.persistDue ≤ s.tm.now →
      ∃ t, exec .operatingTimePersist s = .next t ∧ t.tm.fabPersist = (fabUs s).getD s.tm.fabPersist
        ∧ (if s.tm.persistSeq % 2 = 0 then t.tm.copyA = some (s.tm.op, s.tm.persistSeq + 1, s.tm.powerCount) ∧ t.tm.copyB = s.tm.copyB
            else t.tm.copyB = some (s.tm.op, s.tm.persistSeq + 1, s.tm.powerCount) ∧ t.tm.copyA = s.tm.copyA)
        ∧ t = { s with tm := { s.tm with copyA := t.tm.copyA, copyB := t.tm.copyB, persistSeq := t.tm.persistSeq
                                         persistDue := s.tm.now + 1000000, fabPersist := t.tm.fabPersist } })
    ∧ (s.tm.anchorDue ≤ s.tm.op → s.tm.fab.isSome = true → ∃ t, exec .timeAnchor s = .next t ∧ Logs s t [0x0306]
        ∧ t = { s with rcd := t.rcd, tm := { s.tm with anchorDue := s.tm.op + 36000000 } })

/-- R477, R478, R521: the time master that has heard nothing of a system for 5 s founds one on the epoch base (0, 0)
from the first epoch that starts at least 3 s later; until then it announces it, and the others tell it that they are
ready. -/
def Obligations.FoundingIsAnnouncedAndJoined : Prop :=
  ∀ s : State, Units s → s.core = .running →
    (mayFound s = true → s.fab.master = some s.node → s.tm.fab.isSome = true → s.repl.founding.founder = false
      → s.repl.founding.quietSince + 5000000 ≤ s.tm.now →
      ∃ t ef, exec .founderTimer s = .next t ∧ t.repl.founding.founder = true ∧ t.repl.founding.ef = some ef
        ∧ t.repl.founding.founderNode = s.node ∧ t.repl.founding.ready = []
        ∧ (0 < s.cfg.len → (fabUs s).getD 0 + 3000000 ≤ ef * s.cfg.len
            ∧ ∀ e, e < ef → e * s.cfg.len < (fabUs s).getD 0 + 3000000)
        ∧ t.repl.cur = epochOf t ((fabUs s).getD 0)
        ∧ t = { s with cfg := { s.cfg with base := (0, 0), prev := (0, 0, s.cfg.len) }
                       repl := { s.repl with cur := t.repl.cur, founding := t.repl.founding } })
    ∧ (∀ ef, s.repl.founding.ef = some ef → bridgeRole s = 0 →
      let sends (i : Instr) (dest : Nat) (body : Bytes) : Prop := ∃ t f, exec i s = .next t ∧ f.type = 4 ∧ f.dest = dest ∧ f.body = body
        ∧ nth t.fab.out 0 = nth s.fab.out 0 ++ [{ ports := [0, 1], frame := f }]
        ∧ t = { s with repl := { s.repl with founding := { s.repl.founding with announceDue := t.repl.founding.announceDue
                                                                                readyDue := t.repl.founding.readyDue } }
                       fab := { s.fab with out := t.fab.out, frameSeq := t.fab.frameSeq }, ports := { s.ports with high := t.ports.high } }
      (s.repl.founding.founder = true → s.repl.founding.announceDue ≤ s.tm.now → (fabUs s).getD 0 < epochStart s ef →
        sends .foundingAnnounceSend 0xFFFF (foundingBody s 1 0 0 ef s.node []))
      ∧ (awaitsRoster s ef = true → s.repl.founding.readyDue ≤ s.tm.now →
        sends .foundingReadySend s.repl.founding.founderNode (foundingBody s 2 0 0 ef s.repl.founding.founderNode [])))


/-- R282, R292, R293, R295, R299 to R302, R308, R364: the result of a continuous channel whose settings stand is
delivered with its status and only its channel changes: valid, OPEN, an overrange (the first after a valid one is
discarded, its repetition calls the self-check), or LINK_CRC where the frame and its single re-read both fail their
CRC-8. A pulsed request begins a lead time, after which the filter starts with the settings then in force; a wire-check
window runs with its tone when it is due, its series keeping its interval, waits while the loop is busy, starts all the
same after 500 ms, ends after its length and finds an open circuit or, three times below the threshold, its end. -/
def Obligations.ConversionsAndWindowsRun : Prop :=
  ∀ s : State, Units s → s.core = .running →
    (∀ (b n c : Nat) (r : ConvResult), b < 4 → n < 10 → ((slice s b n).phase = .settle ∨ (slice s b n).phase = .run)
      → servedBy s b n = some c → (chanCfg s c).mode ≠ 0 → visitOn s c = none → (chanCfg s c).pulsed = false → (chan s c).late = none
      → (slice s b n).rate = effRate s (chanCfg s c) → (slice s b n).chop = effChop s (chanCfg s c) →
      let y := slice s b n
      let code := combine (chanCfg s c) y.chop ((r.raw.take (subCount (chanCfg s c) y.chop)).map (calibrate y))
      let word (st : Nat) : Word := resultWord st code (clampSet s c) y.chop false
      let frame (t : State) : Prop := OnlyChannel s t c ∧ (∃ l, Logs s t l) ∧ Publishes s t
        ∧ t = { s with ana := t.ana, rcd := t.rcd, repl := t.repl, fresh := t.fresh }
      let intact : Prop := goodResult r = true ∧ (chan s c).isOpen = false ∧ (chan s c).excFault = false ∧ r.excLimit = false
        ∧ (chan s c).remap = none
      let recheck := !frameOk r.frame && unroved s c
      (intact → (chan s c).retry = false → r.overload = false → -8388607 ≤ code → code ≤ 8388607 →
        ∃ t, exec (.conversionResult b n r) s = .next t ∧ (chan t c).last = word 0 ∧ (chan t c).endUs = r.endUs
          ∧ (chan t c).settling = recheck ∧ (slice t b n).phase = (if recheck then .check else .run) ∧ frame t)
      ∧ (intact → (r.overload = true ∨ code < -8388607 ∨ 8388607 < code) →
        ((chan s c).overrange = true → ∃ t, exec (.conversionResult b n r) s = .next t ∧ (chan t c).last = word 3
          ∧ (chan t c).endUs = r.endUs ∧ frame t)
        ∧ ((chan s c).overrange = false → (chan s c).inRange = true → (chan s c).retry = false →
          ∃ t, exec (.conversionResult b n r) s = .next t ∧ (chan t c).last = (chan s c).last ∧ (chan t c).endUs = (chan s c).endUs
            ∧ (chan t c).retry = true ∧ frame t)
        ∧ ((chan s c).overrange = false → ((chan s c).inRange = false ∨ (chan s c).retry = true) →
          ∃ t, exec (.conversionResult b n r) s = .next t ∧ (chan t c).last = word 3 ∧ (chan t c).endUs = r.endUs
            ∧ (chan t c).inRange = false ∧ (slice t b n).phase = .check ∧ frame t))
      ∧ (goodResult r = true → ((chan s c).isOpen = true ∨ (chan s c).excFault = true ∧ r.excLimit = true) → (chan s c).remap = none →
        ∃ t, exec (.conversionResult b n r) s = .next t ∧ (chan t c).last = word 2 ∧ (chan t c).endUs = r.endUs ∧ frame t)
      ∧ (frameOk r.frame = false → frameOk r.reread = false →
        ∃ t, exec (.conversionResult b n r) s = .next t ∧ (chan t c).last = resultWord 4 0 (clampSet s c) y.chop false
          ∧ (chan t c).endUs = r.endUs ∧ (chan t c).upsets = sat16 ((chan s c).upsets + 1)
          ∧ (slice t b n).phase = .check ∧ frame t))
    ∧ (∀ c n, c < 32 → (chan s c).slice = some n → n < 10 → (chanCfg s c).pulsed = true → (chanCfg s c).mode ≠ 0
      → (chan s c).requestDue ≤ s.tm.now →
      ∃ t, exec (.pulsedRequest c) s = .next t ∧ (chan t c).requestDue = s.tm.now + (chanCfg s c).interval * 1000
        ∧ ((slice s (c / 8) n).phase = .idle → (slice t (c / 8) n).phase = .lead ∧ (slice t (c / 8) n).leadEnd = s.tm.now + (chanCfg s c).lead)
        ∧ ((slice s (c / 8) n).phase ≠ .idle → (chan t c).requestWaits = true ∧ t.ana.slices = s.ana.slices)
        ∧ OnlyChannel s t c ∧ t = { s with ana := t.ana })
    ∧ (∀ b n c, b < 4 → n < 10 → (slice s b n).phase = .lead → (slice s b n).leadEnd ≤ s.tm.now → servedBy s b n = some c →
      ∃ t, exec (.leadTimeExpiry b n) s = .next t
        ∧ slice t b n = (slice s b n).filterStart (effRate s (chanCfg s c)) (effChop s (chanCfg s c)) ((fabUs s).getD 0)
        ∧ OnlyChannel s t c ∧ t = { s with ana := t.ana })
    ∧ (∀ c n, c < 32 → (chan s c).slice = some n → n < 10 → (chanCfg s c).mode ≠ 0 →
      ((chan s c).inWindow = false → (slice s (c / 8) n).phase ≠ .check → (chanCfg s c).wire = true → (chan s c).windowDue ≤ s.tm.now →
        let busy := (chanCfg s c).fsk && ((loopSt s c).trans.any (·.sent.isSome) || decide (s.tm.now < (loopSt s c).carrierEnd))
        ∃ t, exec (.wireCheckWindowStart c) s = .next t ∧ (chan t c).inWindow = (!busy) ∧ (busy = true → (chan t c).windowWaits = true)
          ∧ (busy = false → (chan t c).windowDue = nextDue (chan s c).windowDue ((chanCfg s c).wireS * 1000000) s.tm.now
              ∧ (chan t c).toneHz = toneHz (chanCfg s c) (toneRate s c)
              ∧ (chan t c).windowEnd = s.tm.now + windowUs (chanCfg s c) (toneRate s c))
          ∧ OnlyChannel s t c ∧ t = { s with ana := { s.ana with chans := t.ana.chans } })
      ∧ ((chan s c).windowWaits = true → (chan s c).windowDue + 500000 ≤ s.tm.now →
        ∃ t, exec (.windowPreemption c) s = .next t ∧ (chan t c).inWindow = true ∧ (chan t c).windowWaits = false
          ∧ (loopSt t c).preempts = sat16 ((loopSt s c).preempts + 1) ∧ (∀ tr, (loopSt t c).trans = some tr → tr.sent = none)
          ∧ OnlyChannel s t c ∧ t = { s with ana := { s.ana with chans := t.ana.chans, loops := t.ana.loops } })
      ∧ (∀ ohms, (chan s c).inWindow = true → (chan s c).windowEnd ≤ s.tm.now → (chan s c).check = none → (chanCfg s c).wire = true → ohms ≤ 10000000 → (chanCfg s c).fsk = false →
        (∃ t, exec (.wireCheckWindowEnd c ohms) s = .next t ∧ (chan t c).inWindow = false ∧ (chan t c).ohms = ohms
          ∧ ((chan s c).isOpen = false → ((chan t c).isOpen = true ↔ (chanCfg s c).openKohm * 1000 < ohms)
              ∧ ((chan t c).isOpen = true → (chan t c).quality = qOpen))
          ∧ ((chan s c).isOpen = true → ((chan t c).isOpen = false ↔ ohms * 10 < 8 * (chanCfg s c).openKohm * 1000 ∧ 2 ≤ (chan s c).wireGood))
          ∧ Logs s t (if (chan t c).isOpen = (chan s c).isOpen then [] else if (chan t c).isOpen then [0x0205] else [0x0206])
          ∧ OnlyChannel s t c ∧ Publishes s t ∧ t = { s with ana := t.ana, rcd := t.rcd, repl := t.repl })))

/-- R299, R307, R309 to R313, R329, R330, R353, R356, R357: clamp flags, self-checks, which retire a slice at the third
failure in a row, roving visits, the handover of a remap, housekeeping, the strap, and the refresh and expiry of a bank's
hold. -/
def Obligations.BanksCheckTheirSlices : Prop :=
  ∀ (s : State) (b : Nat), Units s → s.core = .running → b < 4 →
    (∀ term, 1 ≤ term → term ≤ 40 → (bankSt s b).clamps.length = 40 →
      let k := nth (bankSt s b).clamps (term - 1)
      let owned := ((List.range 8).map (8 * b + ·)).any fun c => (claimed (chanCfg s c)).contains term
      (∃ t, exec (.clampConduction b term true) s = .next t ∧ (nth (bankSt t b).clamps (term - 1)).flag = true
        ∧ (nth (bankSt t b).clamps (term - 1)).conducting = true
        ∧ (k.flag = true → Logs s t []) ∧ (k.flag = false → k.lastEvent = none → k.cleared + 10000000 ≤ s.tm.now → Logs s t [0x0208])
        ∧ t = { s with ana := t.ana, rcd := t.rcd })
      ∧ (∃ t, exec (.clampConduction b term false) s = .next t ∧ (nth (bankSt t b).clamps (term - 1)).conducting = false
        ∧ (nth (bankSt t b).clamps (term - 1)).flag = k.flag ∧ t = { s with ana := { s.ana with banks := t.ana.banks } })
      ∧ (owned = false → k.flag = true → k.conducting = false → k.ended + 1000000 ≤ s.tm.now →
        ∃ t, exec (.clampFlagTimeout b term) s = .next t ∧ (nth (bankSt t b).clamps (term - 1)).flag = false
          ∧ t = { s with ana := { s.ana with banks := t.ana.banks } }))
    ∧ (∀ (n : Nat) (off gain : Int), n < 10 → (slice s b n).phase = .check → visitBy s b n = none →
      (∀ c, -839 ≤ off → off ≤ 839 → -500 ≤ gain → gain ≤ 500 → servedBy s b n = some c → visitOn s c = none
          → (chan s c).check = none → (chan s c).retry = false → ((chanCfg s c).pulsed = true → (chan s c).requestWaits = false) →
        ∃ t, exec (.selfCheckDone b n off gain) s = .next t ∧ (slice t b n).fails = 0 ∧ (slice t b n).lastOffset = off
          ∧ (slice t b n).lastGain = gain ∧ (slice t b n).phase = (if (chanCfg s c).pulsed then .idle else .lead)
          ∧ (chan t c).checkDue = s.tm.now + 600000000 ∧ OnlyChannel s t c ∧ t = { s with ana := t.ana })
      ∧ ((off < -839 ∨ 839 < off ∨ gain < -500 ∨ 500 < gain) → (slice s b n).fails + 1 < 3 →
          (∀ c, servedBy s b n = some c → (chan s c).check = none) →
        ∃ t, exec (.selfCheckDone b n off gain) s = .next t ∧ (slice t b n).fails = (slice s b n).fails + 1
          ∧ (slice t b n).phase = .check ∧ Logs s t [0x0209] ∧ t.ana.chans = s.ana.chans ∧ t = { s with ana := t.ana, rcd := t.rcd })
      ∧ ((off < -839 ∨ 839 < off ∨ gain < -500 ∨ 500 < gain) → 2 ≤ (slice s b n).fails →
        ∃ t l, exec (.selfCheckDone b n off gain) s = .next t ∧ (slice t b n).phase = .retired
          ∧ (∀ c, servedBy s b n = some c → (chan t c).slice ≠ some n)
          ∧ Logs s t (0x0209 :: 0x0201 :: l)))
    ∧ (∀ c n, c < 32 → (chan s c).slice = some n → servedBy s (c / 8) n = some c → n < 10 → (chan s c).checkDue ≤ s.tm.now → (chanCfg s c).mode ≠ 0 → visitOn s c = none
      → ((chanCfg s c).noRove = true ∨ rovers s (c / 8) = []) → (slice s (c / 8) n).phase ≠ .check → (slice s (c / 8) n).phase ≠ .retired
      → ((chanCfg s c).pulsed = true → (slice s (c / 8) n).phase = .idle) →
      ∃ t, exec (.inPlaceCheckTimer c) s = .next t ∧ (slice t (c / 8) n).phase = .check ∧ (chan t c).checkDue = s.tm.now + 600000000
        ∧ OnlyChannel s t c ∧ t = { s with ana := t.ana })
    ∧ (∀ n c, n ∈ rovers s b → visitBy s b n = none → (slice s b n).phase = .off → (bankSt s b).wanted = []
      → nextVisit s b ((rovers s b).findIdx (· == n)) = some c →
      ∃ t, exec (.roveVisitStart b n) s = .next t ∧ (slice t b n).phase = .check
        ∧ (bankSt t b).visits = (bankSt s b).visits ++ [{ rover := n, channel := c }] ∧ t.ana.chans = s.ana.chans ∧ t = { s with ana := t.ana })
    ∧ (∀ c r, c < 32 → (chan s c).remap = some r → r.done = false → r.at_ ≤ s.tm.now → r.new < 10 →
      ∃ t, exec (.remapHandover c) s = .next t ∧ (chan t c).slice = some r.new ∧ (chan t c).remap = some { r with done := true }
        ∧ (∀ tr, (loopSt t c).trans = some tr → tr.sent = none) ∧ OnlyChannel s t c ∧ t = { s with ana := t.ana })
    ∧ (∀ ta tb temp mv, ∃ t l, exec (.housekeepingReading b ta tb temp mv) s = .next t ∧ (bankSt t b).temp = some temp
        ∧ (bankSt t b).supplyMv = some mv
        ∧ ((bankSt s b).failA = false → (bankSt t b).failA = !goodReading ta)
        ∧ ((bankSt s b).failA = true → ((bankSt t b).failA = false ↔ goodReading ta = true ∧ 9 ≤ (bankSt s b).goodA))
        ∧ Logs s t l ∧ (∀ x ∈ l, x = 0x020A ∨ x = 0x020B)
        ∧ ((bankSt s b).failA = false → goodReading ta = false → 0x020A ∈ l)
        ∧ t = { s with ana := { s.ana with banks := t.ana.banks }, rcd := t.rcd })
    ∧ (s.pw.valid = true →
      (∀ ohms, let r := if ohms < 1000 then 1 else if 100000 < ohms then 0 else 2
        let confirmed := r = (bankSt s b).strapNew ∧ 2 ≤ (bankSt s b).strapRun
        ∃ t, exec (.nselRead b ohms) s = .next t ∧ (bankSt t b).strap = (if confirmed then r else (bankSt s b).strap)
          ∧ (confirmed → r ≠ (bankSt s b).strap → Logs s t [0x0213]) ∧ t = { s with ana := t.ana, rcd := t.rcd })
      ∧ (∀ last, (bankSt s b).lastFrame = some last → bankHold s b ≠ 0 → last + bankHold s b * 1000 ≤ s.tm.now →
        ∃ t, exec (.holdExpired b) s = .next t ∧ (bankSt t b).expired = true
          ∧ (∀ c, c / 8 = b → isOutputMode (chanCfg s c).mode = true → (chan s c).retired = 0 → (loopSt s c).forced = none →
              driven t c = if (chanCfg s c).safe = 1 then failureUa s c else if (chanCfg s c).safe = 2 then 0 else driven s c)
          ∧ t = { s with ana := { s.ana with banks := t.ana.banks, loops := t.ana.loops } }))
    ∧ (∀ fr, frameOk fr = false → exec (.setpointRefresh b fr) s = .next s)
    ∧ (∀ fr, refreshing s = true → frameOk fr = true →
      ∃ t, exec (.setpointRefresh b fr) s = .next t ∧ (bankSt t b).expired = false ∧ (bankSt t b).lastFrame = some s.tm.now
        ∧ (∀ c, c / 8 = b → isOutputMode (chanCfg s c).mode = true → (loopSt t c).latched = (loopSt s c).setpoint)
        ∧ (∀ c, c / 8 ≠ b → loopSt t c = loopSt s c) ∧ Logs s t (if (bankSt s b).expired then [0x0214] else [])
        ∧ t = { s with ana := { s.ana with banks := t.ana.banks, loops := t.ana.loops }, rcd := t.rcd })

/-- R347 to R351: a reading steps the loop's supply, up to its target unless the bank's allowance refuses it, down by one
step at most each 100 ms; compliance and the thermal limit are judged from it, and 200 ms of either raise LOOP_FAULT,
which 1 s without them ends. No other channel changes. -/
def Obligations.LoopsAreTrackedAndJudged : Prop :=
  ∀ (s : State) (ch : Nat), Units s → s.pw.valid = true → ch < 32 → isLoopMode (chanCfg s ch).mode = true →
    let l := loopSt s ch
    let k := chanCfg s ch
    let frame (t : State) : Prop := OnlyChannel s t ch ∧ chan t ch = chan s ch ∧ t = { s with ana := { s.ana with loops := t.ana.loops } }
    (∀ r : LoopReading, r.channel = ch → (chan s ch).retired = 0 →
      let read (t : State) : Prop := (loopSt t ch).current = r.currentUa ∧ (loopSt t ch).vt = r.vtMv ∧ (loopSt t ch).temp = r.tempDeci
      let target := supplyTarget k (if k.mode = 7 then k.termV * 10 else r.vtMv) r.currentUa.natAbs
      (∃ t, exec (.loopSupplyTrack (ch / 8) [r]) s = .next t ∧ read t ∧ frame t
        ∧ (supplied k.mode = false → (loopSt t ch).supply = l.supply)
        ∧ (supplied k.mode = true →
          (l.supply < target → (loopSt t ch).refused = overAllowance (s.readLoop r) ch target
            ∧ (loopSt t ch).supply = if overAllowance (s.readLoop r) ch target then l.supply else target)
          ∧ (target + 2 ≤ l.supply → l.lastFall + 100000 ≤ s.tm.now → (loopSt t ch).supply = l.supply - 1)
          ∧ (target ≤ l.supply → l.supply < target + 2 → (loopSt t ch).supply = l.supply)))
      ∧ (let short : Prop := r.currentUa + 100 < (driven s ch : Int)
        let limited : Prop := l.supply = 112 ∨ l.refused = true
        ∃ t, exec (.loopComplianceCheck (ch / 8) [r]) s = .next t ∧ read t ∧ frame t
        ∧ ((loopSt t ch).compliance = true ↔ k.mode = 9 ∧ short ∧ limited ∨ k.mode = 10 ∧ short ∧ r.fullyOn = true
            ∨ k.mode = 7 ∧ r.vtMv + 500 < k.termV * 10 ∧ limited)
        ∧ ((loopSt t ch).badSince.isSome = true ↔ (loopSt t ch).compliance = true ∨ l.thermal = true))
      ∧ (∃ t, exec (.driverThermalLimit r) s = .next t ∧ read t ∧ frame t
        ∧ (l.thermal = false → 1250 ≤ r.tempDeci → (loopSt t ch).thermal = true)
        ∧ (l.thermal = true → 1150 < r.tempDeci → (loopSt t ch).thermal = true)
        ∧ ((loopSt t ch).badSince.isSome = true ↔ (loopSt t ch).thermal = true ∨ l.compliance = true)))
    ∧ (s.core = .running →
      (∀ since, l.fault = false → l.badSince = some since → since + 200000 ≤ s.tm.now →
        ∃ t, exec (.loopFault ch) s = .next t ∧ (loopSt t ch).fault = true ∧ Logs s t [0x020C] ∧ Publishes s t ∧ OnlyChannel s t ch
          ∧ t = { s with ana := t.ana, rcd := t.rcd, repl := t.repl })
      ∧ (∀ since, l.fault = true → l.goodSince = some since → since + 1000000 ≤ s.tm.now →
        ∃ t, exec (.loopFault ch) s = .next t ∧ (loopSt t ch).fault = false ∧ Logs s t [0x020D] ∧ Publishes s t ∧ OnlyChannel s t ch
          ∧ t = { s with ana := t.ana, rcd := t.rcd, repl := t.repl }))

/-- R360 to R362, R364, R369: the modem runs one transaction at a time on a loop: the identity of an instrument not
found, a poll of the next one found, a host's; it is sent after 50 ms without carrier; a response to it ends it, and
after three attempts without one it is given up, a host's with INSTRUMENT_SILENT. -/
def Obligations.HartTransactionsRun : Prop :=
  ∀ (s : State) (ch : Nat), Units s → ch < 32 → fskUp s ch = true →
    let l := loopSt s ch
    let frame (t : State) : Prop := OnlyChannel s t ch ∧ t = { s with ana := { s.ana with loops := t.ana.loops } }
    (∀ slot, l.trans = none → (∃ i ∈ l.insts, i.slot = slot) → (instAt s ch slot).found = false → (instAt s ch slot).nextRead ≤ s.tm.now →
      ∃ t, exec (.instrumentRead ch slot) s = .next t ∧ frame t ∧ loopSt t ch = { l with trans := some { kind := 0, slot, command := 0 } })
    ∧ (∀ i, l.trans = none → (l.insts.drop l.pollTurn ++ l.insts.take l.pollTurn).find? (·.found) = some i →
      ∃ t tr, exec (.hartPoll ch) s = .next t ∧ frame t ∧ loopSt t ch = { l with trans := some tr, pollTurn := (loopSt t ch).pollTurn }
        ∧ tr.kind = 1 ∧ tr.slot = i.slot ∧ tr.command = 9 ∧ tr.sent = none)
    ∧ (∀ tr, l.trans = some tr →
      (tr.sent = none → (chan s ch).slice.isSome = true → (chan s ch).inWindow = false → l.carrierEnd + 50000 ≤ s.tm.now → (chanCfg s ch).wire = false →
        ∃ t, exec (.carrierFreeWait ch) s = .next t ∧ frame t
          ∧ loopSt t ch = { l with trans := some { tr with sent := some (s.tm.now + charsUs (requestChars tr)) } })
      ∧ (∀ e, tr.sent = some e → e + 350000 ≤ s.tm.now →
        (tr.attempts + 1 < 3 → ∃ t, exec (.hartResponseTimeout ch) s = .next t ∧ frame t
          ∧ loopSt t ch = { l with failed := sat16 (l.failed + 1), trans := some { tr with attempts := tr.attempts + 1, sent := none } })
        ∧ (∀ c : Cmd, 3 ≤ tr.attempts + 1 → tr.kind = 2 → tr.cmd = some c → c.port < 8 →
          ∃ t, exec (.hartResponseTimeout ch) s = .next t ∧ Answers s t c 0x0640 Status.instrumentSilent 1 []
            ∧ loopSt t ch = { l with failed := sat16 (l.failed + 1), trans := none } ∧ OnlyChannel s t ch
            ∧ t = { s with ports := t.ports, ana := { s.ana with loops := t.ana.loops } }))
      ∧ (∀ (bytes : Bytes) (f : HartFrame), tr.sent.isSome = true → (chan s ch).inWindow = false → HartFrame.parse bytes = some f → f.burst = false
          → f.ack = true → f.primary = true → f.isFrom (instAt s ch tr.slot) tr.kind = true → 2 ≤ f.body.length → (u8 f.body 0).testBit 7 = false →
        (tr.kind = 0 → (instAt s ch tr.slot).known = false →
          ∃ t, exec (.hartResponseReceived ch bytes true) s = .next t ∧ (loopSt t ch).trans = none
            ∧ (loopSt t ch).done = sat16 (l.done + 1) ∧ (∀ i ∈ (loopSt t ch).insts, i.slot = tr.slot → i.found = true ∧ i.known = true)
            ∧ Logs s t [0x0211] ∧ OnlyChannel s t ch ∧ t = { s with rcd := t.rcd, ana := { s.ana with loops := t.ana.loops } })
        ∧ (∀ c : Cmd, tr.kind = 2 → tr.cmd = some c → c.port < 8 →
          ∃ t data, exec (.hartResponseReceived ch bytes true) s = .next t ∧ Answers s t c 0x0640 Status.ok 1 data
            ∧ (loopSt t ch).trans = none ∧ (loopSt t ch).done = sat16 (l.done + 1) ∧ OnlyChannel s t ch
            ∧ t = { s with ports := t.ports, ana := { s.ana with loops := t.ana.loops } })))
    ∧ (∀ (bytes : Bytes) (f : HartFrame) (ok : Bool), (chan s ch).inWindow = false → HartFrame.parse bytes = some f → f.burst = true →
      ∃ t, exec (.hartResponseReceived ch bytes ok) s = .next t ∧ frame t
        ∧ loopSt t ch = { l with carrierEnd := s.tm.now, bursts := l.bursts + 1 })


/-- R376 to R378, R382, R383, R385 to R387, R397: a sample counts a cell's filter, whose ends are its states; a good frame
latches the core's command and the end of the hold time the safe state; a field supply changes its state, switches its
outputs off and gives them their turns again; DIO.RESTORE and a cell's reset clear a retirement. -/
def Obligations.DigitalCellsFollow : Prop :=
  ∀ s : State, Units s → s.core = .running →
    let frame (t : State) : Prop := (∃ l, Logs s t l) ∧ Publishes s t ∧ t = { s with dio := t.dio, rcd := t.rcd, repl := t.repl }
    (∀ n, isDio n = true →
      let k := dioCfg s n
      let c := cell s n
      (∀ high, k.mode ≠ 0 → blanked s n = false →
        let count := filterStep high k.n c.count
        let state := if count = k.n then true else if count = 0 then false else c.state
        ∃ t, exec (.dioFilterCount n high) s = .next t ∧ (cell t n).count = count ∧ (cell t n).state = state ∧ (cell t n).sample = high
          ∧ (cell t n).edges = (if state = c.state then c.edges else sat16 (c.edges + 1)) ∧ (cell t n).latch = c.latch
          ∧ OnlyCell s t n ∧ t.rcd = s.rcd ∧ frame t)
      ∧ (∀ fr, frameOk fr = false → exec (.couplerRefresh n fr) s = .next s)
      ∧ (∀ fr, k.mode = 2 → refreshing s = true → frameOk fr = true →
        ∃ t, exec (.couplerRefresh n fr) s = .next t ∧ (cell t n).latch = c.command ∧ (cell t n).framed = true
          ∧ (cell t n).lastFrame = some s.tm.now ∧ (cell t n).expired = false ∧ (cell t n).forced = c.forced ∧ OnlyCell s t n ∧ frame t)
      ∧ (∀ last, k.mode = 2 → k.hold ≠ 0 → c.expired = false → c.lastFrame = some last → last + k.hold * 1000 ≤ s.tm.now →
        ∃ t, exec (.dioHoldExpired n) s = .next t ∧ (cell t n).latch = k.safe ∧ (cell t n).expired = true
          ∧ (cell t n).forced = c.forced ∧ OnlyCell s t n ∧ frame t)
      ∧ (∀ cm : Cmd, Admitted s cm → cm.payload.length = 4 → allZero cm.payload 1 3 = true → u8 cm.payload 0 = n →
        (c.retired = false → ∃ t, exec (.dioRestore cm) s = .next t ∧ Answers s t cm 0x0741 Status.ok 0 [] ∧ t = { s with ports := t.ports })
        ∧ (c.retired = true → ∃ t, exec (.dioRestore cm) s = .next t ∧ Answers s t cm 0x0741 Status.ok 0 [] ∧ (cell t n).retired = false
            ∧ (cell t n).attempts = 0 ∧ Logs s t [0x0225] ∧ Publishes s t ∧ OnlyCell s t n
            ∧ t = { s with ports := t.ports, dio := t.dio, rcd := t.rcd, repl := t.repl }))
      ∧ (k.mode ≠ 0 → ∃ t, exec (.cellReset n) s = .next t ∧ (cell t n).latch = false ∧ (cell t n).framed = false ∧ (cell t n).count = 0
          ∧ (cell t n).state = false ∧ (cell t n).retired = false ∧ faultValue (cell t n) = 0
          ∧ Logs s t (if c.retired then [0x0225] else []) ∧ OnlyCell s t n ∧ frame t)
      ∧ (∀ at_, c.turnAt = some at_ → at_ ≤ s.tm.now → (fsOf s n).state ≠ 3 →
        ∃ t, exec (.fsChannelResume n) s = .next t ∧ cell t n = { c with turnAt := none, edgeAt := s.tm.now } ∧ OnlyCell s t n
          ∧ t = { s with dio := t.dio }))
    ∧ (∀ i mv, i < 2 →
      let f : FieldSupply := nth s.dio.fs i
      let other (t : State) : Prop := nth t.dio.fs (1 - i) = nth s.dio.fs (1 - i)
      let cells (t : State) : Prop := ∀ n, isDio n = true → cell t n = { cell s n with quality := (cell t n).quality }
      (mv ≤ 36000 → f.state ≠ 3 → fsBand mv ≠ 3 →
        ∃ t, exec (.fsState (i + 1) mv) s = .next t ∧ (nth t.dio.fs i).state = fsBand mv ∧ (nth t.dio.fs i).mv = mv ∧ other t ∧ cells t
          ∧ Logs s t (if f.state = fsBand mv then [] else [0x0221]) ∧ frame t)
      ∧ (mv < 12000 → f.state ≠ 3 →
        ∃ t, exec (.fsOff (i + 1) mv) s = .next t ∧ (nth t.dio.fs i).state = 3 ∧ (nth t.dio.fs i).offAt = s.tm.now ∧ other t ∧ cells t
          ∧ (∀ n, isDio n = true → fsIndex n = i → driverOn t n = false) ∧ Logs s t [0x0221] ∧ frame t)
      ∧ (17000 < mv → mv ≤ 36000 → f.state = 3 →
        ∃ t, exec (.fsRestore (i + 1) mv) s = .next t ∧ (nth t.dio.fs i).state = fsBand mv ∧ (nth t.dio.fs i).restoredAt = some s.tm.now
          ∧ other t ∧ (∀ n, isDio n = true → fsIndex n = i → (dioCfg s n).mode = 2 →
              (cell t n).turnAt = some (s.tm.now + 2000 * ((n - 1) % 24)) ∧ (cell t n).latch = (cell s n).latch)
          ∧ (∀ n, isDio n = true → fsIndex n ≠ i → cell t n = cell s n) ∧ Logs s t [0x0221] ∧ frame t))

/-- R390 to R393, R556: an overload is retried and the failed third retry retires the output; a stuck-off output,
backfeed, an open load and a failed off-pulse are faults until they end, with the events of both; a terminal or supply
beyond its absolute maximum rating stops the model, because the specification decides nothing there. -/
def Obligations.OutputFaultsAreHandled : Prop :=
  ∀ s : State, Units s →
    (s.core = .running → ∀ n, isDio n = true →
      let c := cell s n
      let frame (t : State) : Prop := OnlyCell s t n ∧ Publishes s t ∧ t = { s with dio := t.dio, rcd := t.rcd, repl := t.repl }
      (∀ ma th, driverOn s n = true →
        (c.attempts < 3 → ∃ t, exec (.outputOverload n ma th) s = .next t ∧ (cell t n).overload = true
          ∧ (cell t n).attempts = c.attempts + 1 ∧ (cell t n).retryAt = some (s.tm.now + 1000000) ∧ (cell t n).retired = c.retired
          ∧ Logs s t [0x0222] ∧ frame t)
        ∧ (3 ≤ c.attempts → ∃ t l, exec (.outputOverload n ma th) s = .next t ∧ (cell t n).retired = true ∧ driverOn t n = false
          ∧ Logs s t (0x0222 :: 0x0224 :: l) ∧ frame t))
      ∧ (c.overload = true → commanded s n = true → c.turnAt = none → (fsOf s n).state ≠ 3 →
        (∀ at_, c.retryAt = some at_ → at_ ≤ s.tm.now →
          ∃ t, exec (.overloadRetry n) s = .next t ∧ cell t n = { c with retryAt := none, lastTry := s.tm.now } ∧ Logs s t [] ∧ frame t)
        ∧ (c.retryAt = none → c.lastTry + 1000000 ≤ s.tm.now →
          ∃ t, exec (.overloadRetry n) s = .next t ∧ (cell t n).overload = false ∧ (cell t n).attempts = 0 ∧ Logs s t [0x0223] ∧ frame t))
      ∧ (∀ ma, (faultTimers s n 5000 = true → driverOn s n = true → c.stuck = false →
            ∃ t, exec (.stuckOff n ma true) s = .next t ∧ (cell t n).stuck = true ∧ (cell t n).ma = ma ∧ Logs s t [0x022A] ∧ frame t)
          ∧ (faultTimers s n 0 = true → c.stuck = true →
            ∃ t, exec (.stuckOff n ma false) s = .next t ∧ (cell t n).stuck = false ∧ Logs s t [0x022B] ∧ frame t))
      ∧ (∀ mv, mv ≤ 36000 →
          (faultTimers s n 5000 = true → commanded s n = false → c.backfeed = false →
            ∃ t, exec (.backfeed n mv true) s = .next t ∧ (cell t n).backfeed = true ∧ Logs s t [0x0226] ∧ frame t)
          ∧ (faultTimers s n 0 = true → c.backfeed = true →
            ∃ t, exec (.backfeed n mv false) s = .next t ∧ (cell t n).backfeed = false ∧ Logs s t [0x0227] ∧ frame t)
          ∧ (pulseRuns s n = true → pulsePhase s n ≤ 100 → 5000 ≤ mv → ∃ t, exec (.offPulse n mv) s = .next t ∧ (cell t n).cross = true
              ∧ (cell t n).pulsesBad = sat16 (c.pulsesBad + 1) ∧ Logs s t [0x0228] ∧ frame t)
          ∧ (pulseRuns s n = true → pulsePhase s n ≤ 100 → mv < 5000 → ∃ t, exec (.offPulse n mv) s = .next t ∧ (cell t n).pulsesGood = sat16 (c.pulsesGood + 1)
              ∧ (cell t n).cross = (c.cross && decide (c.passes < 2))
              ∧ Logs s t (if c.cross ∧ 2 ≤ c.passes then [0x0229] else []) ∧ frame t))
      ∧ (∀ ma, (dioCfg s n).openCheck = true → driverOn s n = true → faultTimers s n 1000000 = true →
          (ma < 5 → c.openLoad = false →
            ∃ t, exec (.openLoad n ma true) s = .next t ∧ (cell t n).openLoad = true ∧ Logs s t [0x022C] ∧ frame t)
          ∧ (10 ≤ ma → c.openLoad = true →
            ∃ t, exec (.openLoad n ma false) s = .next t ∧ (cell t n).openLoad = false ∧ Logs s t [0x022D] ∧ frame t)))
    ∧ (∀ (x mv : Nat) (p : Bool), 36000 < mv → exec (.fsState x mv) s = .fault .absoluteMaximum
        ∧ exec (.fsRestore x mv) s = .fault .absoluteMaximum ∧ exec (.backfeed x mv p) s = .fault .absoluteMaximum
        ∧ exec (.offPulse x mv) s = .fault .absoluteMaximum)
    ∧ (∀ (x held : Nat) (mv : Int), (40000 < mv ∨ mv < -36000) → exec (.supplyEvent x mv held) s = .fault .absoluteMaximum)

/-- R450 to R452, R454 to R460, R465: 100 ms at or above 18.0 V begin the start sequence, which counts both oscillators, BOSC
in four attempts, and starts on XO, after 40 ms on BOSC, else holds without a clock. A finding of the monitor within its limits
trips nothing; one charged to the reference in use forces a switch in the order XO, fabric, BOSC, hold, and one charged to a
BOSC not in use stops it; XO and BOSC come back on their retries once their counts and comparisons pass; a WOSC out of its band
is tripped until ten good measurements. -/
def Obligations.ClocksStartFallBackAndReturn : Prop :=
  ∀ s : State, Units s →
    (s.pw.valid = false → ∀ mv heldMs, 18000 ≤ mv → 100 ≤ heldMs →
      ∃ t, exec (.supplyValid mv heldMs) s = .next t ∧ t.pw.mvOr = mv ∧ t.core = .held ∧ t.op = .start ∧ t.pw.valid = true ∧ t.pw.step = 2 ∧ t.pw.upCause = 1
        ∧ t.clk.xoRunning = true ∧ t.clk.boscRunning = true ∧ t.clk.xoStable = false ∧ t.clk.boscStable = false ∧ t.clk.boscAttempt = 1
        ∧ t.clk.wosc = true ∧ t.clk.seqStart = s.tm.now ∧ t.clk.ref = none
        ∧ t = { s with core := t.core, op := t.op, pw := t.pw, clk := t.clk, tm := { s.tm with cycleStart := t.tm.cycleStart } })
    ∧ (s.pw.valid = true → s.core = .held → s.pw.step = 2 →
      let hold (t : State) : Prop := t.core = .clockless ∧ t.clk.ref = none ∧ t.clk.pllLocked = false ∧ t.clk.holdEntry.1 = 0xFFFE0001
        ∧ t.clk.holdEntry.2.1 = 1 ∧ t.repl.relays.all (!·.on) = true ∧ t.tm.op = s.tm.op
      let starts (r : Ref) (ratio : Nat) (t : State) : Prop := t.clk.ref = some r ∧ t.clk.ratio = ratio ∧ t.clk.pllLocked = true
        ∧ t.pw.step = 4 ∧ t = { s with clk := t.clk, pw := t.pw }
      (s.tm.now ≤ s.clk.seqStart + 40000 →
        (∀ runs, stableCount true runs = true → s.clk.boscRunning = true → s.clk.boscAttempt ≤ 4 → s.clk.boscTripped = false →
          exec (.oscillatorStable true runs) s = .next { s with clk := { s.clk with boscStable := true } })
        ∧ (∀ runs, stableCount false runs = true → s.clk.xoRunning = true → s.clk.xoTripped = false →
          exec (.oscillatorStable false runs) s = .next { s with clk := { s.clk with xoStable := true } })
        ∧ (∀ bosc runs, stableCount bosc runs = false → exec (.oscillatorStable bosc runs) s = .next s))
      ∧ (s.clk.boscRunning = true → s.clk.boscStable = false → s.clk.seqStart + 10000 * s.clk.boscAttempt ≤ s.tm.now →
        (1 ≤ s.clk.boscAttempt → s.clk.boscAttempt < 4 →
          exec .boscAttemptTimer s = .next { s with clk := { s.clk with boscAttempt := s.clk.boscAttempt + 1 } })
        ∧ (s.clk.boscAttempt = 4 → ∃ t, exec .boscAttemptTimer s = .next t ∧ t.clk.boscRunning = false
            ∧ t.clk.boscRetryAt = s.tm.now + 60000000 ∧ t.clk.xoStable = s.clk.xoStable ∧ t = { s with clk := t.clk }))
      ∧ (s.clk.xoStable = true → s.clk.xoTripped = false → ∃ t, exec .clockStartDecision s = .next t ∧ starts .xo 40 t)
      ∧ (s.clk.xoStable = false → s.clk.seqStart + 40000 ≤ s.tm.now →
        (s.clk.boscStable = true → s.clk.boscTripped = false → ∃ t, exec .clockStartDecision s = .next t ∧ starts .bosc 39 t)
        ∧ (s.clk.boscStable = false → ∃ t, exec .clockStartDecision s = .next t ∧ hold t)))
    ∧ (s.pw.valid = true → s.core = .running →
      (∀ (f : ClockFinding) (ns : Nat), tripOf s f = none → exec (.clockMonitorTrip f ns) s = .next (s.noteOffset f))
      ∧ (∀ (f : ClockFinding) (ns : Nat) (charged : Charged) (detail : Nat) (measured : Int), s.clk.ref = some .xo →
          tripOf s f = some (charged, detail, measured) →
        let switched (t : State) : Prop := t.clk.trips = sat32 (s.clk.trips + 1) ∧ t.clk.forced = sat32 (s.clk.forced + 1)
          ∧ t.clk.xoStable = false ∧ t.clk.xoTripped = true
        ((charged = .xo ∧ s.clk.xoStable = true ∨ charged = .inUse) →
          (∀ p, fabricRef s none = some p → ∃ t, exec (.clockMonitorTrip f ns) s = .next t ∧ switched t
            ∧ t.clk.ref = some (.fabric p) ∧ t.clk.ratio = 40 ∧ t.lanes.trigger = true ∧ t.op = s.op ∧ Logs s t [0x0320]
            ∧ t = { s with clk := t.clk, lanes := { s.lanes with trigger := true }, rcd := t.rcd
                           fab := { s.fab with syncSince := t.fab.syncSince } })
          ∧ (fabricRef s none = none →
            (s.clk.boscStable = true → s.clk.boscTripped = false → inReplica s = true →
              ∃ t, exec (.clockMonitorTrip f ns) s = .next t ∧ switched t ∧ t.clk.ref = some .bosc ∧ t.clk.ratio = 39
                ∧ t.op = .island ∧ t.repl.member = false ∧ t.lanes.trigger = true ∧ ∀ p, p < 4 → isUp t p = false)
            ∧ (s.clk.boscStable = false →
              ∃ t, exec (.clockMonitorTrip f ns) s = .next t ∧ t.core = .clockless ∧ t.clk.ref = none
                ∧ t.clk.holdEntry.1 = 0xFFFE0001 ∧ t.clk.holdEntry.2.1 = 2)))
        ∧ (charged = .bosc → s.clk.boscStable = true →
          ∃ t, exec (.clockMonitorTrip f ns) s = .next t ∧ t.clk.boscStable = false
            ∧ t.clk.boscTripped = true ∧ t.clk.boscRunning = false ∧ t.clk.boscRetryAt = s.tm.now + 60000000 ∧ t.clk.ref = some .xo
            ∧ t.clk.trips = sat32 (s.clk.trips + 1) ∧ Logs s t [0x0320] ∧ t = { s with clk := t.clk, rcd := t.rcd }))
      ∧ (∀ (runs windows : List (Nat × Nat)) (offsets : List (Nat × Int)), s.clk.ref.isSome = true → s.clk.ref ≠ some .xo
          → s.clk.xoRetryAt ≤ s.tm.now →
        (∀ p, s.clk.ref = some (.fabric p) → xoUsable s runs windows offsets = true →
          ∃ t, exec (.xoRetry runs windows offsets) s = .next t ∧ t.clk.ref = some .xo ∧ t.clk.xoStable = true
            ∧ t.clk.xoTripped = false ∧ t.clk.orderly = sat32 (s.clk.orderly + 1)
            ∧ Logs s t [0x0320] ∧ t = { s with clk := t.clk, rcd := t.rcd })
        ∧ (xoUsable s runs windows offsets = false →
          exec (.xoRetry runs windows offsets) s = .next { s with clk := { s.clk with xoRetryAt := s.tm.now + 1000000 } })
        ∧ (s.clk.ref = some .bosc → s.op = .island → xoUsable s runs windows offsets = true →
          ∃ t, exec (.xoRetry runs windows offsets) s = .next t ∧ t.clk.ref = some .xo ∧ t.clk.ratio = 40 ∧ t.op = .start ∧ t.repl.member = false
            ∧ t.lanes.trigger = true))
      ∧ (s.clk.ref.isSome = true → s.clk.boscRunning = false → s.clk.boscRetryAt ≤ s.tm.now →
        (∀ runs, stableCount true runs = true → ∃ t, exec (.boscRetry runs) s = .next t ∧ t.clk.boscRunning = true ∧ t.clk.boscStable = true ∧ t.clk.boscTripped = false
          ∧ t.clk.ref = s.clk.ref ∧ Logs s t [0x0320] ∧ t = { s with clk := t.clk, rcd := t.rcd })
        ∧ (∀ runs, stableCount true runs = false → exec (.boscRetry runs) s = .next { s with clk := { s.clk with boscRetryAt := s.tm.now + 60000000 } }))
      ∧ (∀ khz, s.clk.ref.isSome = true → s.clk.ref ≠ some .bosc →
        let good := 500 ≤ khz ∧ khz ≤ 1500
        let frame (t : State) : Prop := t.clk.woscKhz = sat16 khz ∧ t.clk.ref = s.clk.ref ∧ t = { s with clk := t.clk, rcd := t.rcd }
        (good → s.clk.woscTripped = false → ∃ t, exec (.woscCheck khz) s = .next t ∧ t.clk.woscTripped = false ∧ Logs s t [] ∧ frame t)
        ∧ (¬good → ∃ t, exec (.woscCheck khz) s = .next t ∧ t.clk.woscTripped = true ∧ t.clk.woscGood = 0
            ∧ Logs s t (if s.clk.woscTripped then [] else [0x0320]) ∧ frame t)
        ∧ (good → s.clk.woscTripped = true → ∃ t, exec (.woscCheck khz) s = .next t
            ∧ (t.clk.woscTripped = true ↔ s.clk.woscGood + 1 < 10) ∧ (s.clk.woscGood + 1 < 10 → t.clk.woscGood = s.clk.woscGood + 1)
            ∧ Logs s t (if s.clk.woscGood + 1 < 10 then [] else [0x0320]) ∧ frame t)))

/-- R18 to R20, R76, R77, R410, R464, R465, R470, R471, R475, R481, R482: supply states and the warning take 10 ms, or 100 ms
toward normal, and are kept and reported; a supply loss, by level or by a fall of more than 1.0 V in 0.5 ms, ends in the core
held in reset, from which the node starts again from step 4, or from the beginning once hold-up is spent; a core restart drops
what the core held and keeps the field, the fuses, the flash and the clocks; a DRAM error restarts the core or re-seeds by what
stands at its address; a start opens the recorder as a new power cycle and goes as far as its tests and its image let it; the
service key is closed at 100 ohms or less held for 20 ms, and opening it ends injections. -/
def Obligations.SuppliesAndRestartsAreFollowed : Prop :=
  ∀ s : State, Units s →
    (s.core = .running →
      (∀ (input heldMs : Nat) (mv : Int), (input = 1 ∨ input = 2) → -36000 ≤ mv → mv ≤ 40000 →
        let range := if 18000 ≤ mv ∧ mv ≤ 32000 then 0 else if 32000 < mv then 3 else if 10000 ≤ mv then 1 else 2
        let old := if input = 1 then s.pw.sup1 else s.pw.sup2
        let new := if (if range = 0 then 100 else 10) ≤ heldMs then range else old
        ∃ t, exec (.supplyEvent input mv heldMs) s = .next t ∧ (if input = 1 then t.pw.sup1 else t.pw.sup2) = new
          ∧ (if input = 1 then t.pw.mv1 else t.pw.mv2) = mv ∧ (if input = 1 then t.pw.sup2 = s.pw.sup2 else t.pw.sup1 = s.pw.sup1)
          ∧ Logs s t (if new = old then [] else [0x0003]) ∧ Publishes s t ∧ t = { s with pw := t.pw, rcd := t.rcd, repl := t.repl })
      ∧ (∀ mv, s.pw.failing = false →
        (∀ heldMs, s.pw.warning = false → 16000 ≤ mv → mv < 18000 → 10 ≤ heldMs → ∃ t, exec (.supplyWarning mv heldMs) s = .next t ∧ Logs s t [0x0003]
          ∧ t = { s with pw := { s.pw with warning := true, mvOr := mv }, rcd := t.rcd })
        ∧ (∀ heldMs, s.pw.warning = true → 18000 ≤ mv → 100 ≤ heldMs → ∃ t, exec (.supplyWarning mv heldMs) s = .next t ∧ Logs s t [0x0003]
          ∧ t = { s with pw := { s.pw with warning := false, mvOr := mv }, rcd := t.rcd })
        ∧ (∀ fallMv, s.pw.valid = true → s.rcd.isOpen = true → (mv < 16000 ∨ 1000 < fallMv) →
          ∃ t, exec (.supplyLoss mv fallMv) s = .next t ∧ t.core = .held ∧ t.op = .start ∧ t.pw.failing = true ∧ t.pw.valid = true
            ∧ t.rcd.isOpen = false ∧ t.rcd.queue = [] ∧ t.repl.relays.all (!·.on) = true ∧ t.tm.op = s.tm.op
            ∧ (t.tm.copyA = some (s.tm.op, s.tm.persistSeq + 1, s.tm.powerCount)
              ∨ t.tm.copyB = some (s.tm.op, s.tm.persistSeq + 1, s.tm.powerCount))))
      ∧ (s.pw.failing = false →
        let restarts (cause : Nat) (t : State) : Prop := t.core = .held ∧ t.op = .start ∧ t.pw.step = 4 ∧ t.pw.upCause = 3
          ∧ t.pw.restartCause = cause ∧ t.rcd.isOpen = false ∧ t.cfg.sessions = [] ∧ t.cfg.flash = s.cfg.flash ∧ t.sec = s.sec
          ∧ t.clk = { s.clk with orderly := 0 } ∧ (∀ p, isUp t p = isUp s p) ∧ t.fab.offset = s.fab.offset
          ∧ (∀ n, isDio n = true → commanded t n = commanded s n) ∧ (∀ c, c < 32 →
              ((loopSt s c).forced = none ∨ (bankSt s (c / 8)).expired = false ∧ (loopSt s c).failing = false) → driven t c = driven s c)
          ∧ t.pw.restarts = recentRestarts s ++ [s.tm.op]
        (∃ t, exec .watchdogTimeout s = .next t ∧ restarts 1 t ∧ t.rcd.dies = s.rcd.dies)
        ∧ (∃ t, exec .uncontainedInternalFault s = .next t ∧ restarts 3 t ∧ t.rcd.dies = s.rcd.dies)
        ∧ (∀ (a : Word) (b : DramBlock), dramBlock a.toNat = some b → dramLocation b = 3 →
          ∃ t, exec (.dramUncorrectable a) s = .next t ∧ restarts 2 t ∧ t.pw.dramUncorrected = s.pw.dramUncorrected + 1)
        ∧ (∀ a : Word, 0x20000000 ≤ a.toNat → exec (.dramUncorrectable a) s = .next s)
        ∧ (∀ (a : Word) (b : DramBlock), dramBlock a.toNat = some b → dramLocation b ≠ 3 → s.repl.member = true → inReplica s = true →
          ∃ t, exec (.dramUncorrectable a) s = .next t ∧ t.core = .running ∧ t.repl.reseed = some 4 ∧ t.lanes.trigger = true
            ∧ t.pw.dramUncorrected = s.pw.dramUncorrected + 1))
      ∧ (∀ n, exec (.dramScrub n) s = .next { s with pw := { s.pw with dramCorrected := sat32 (s.pw.dramCorrected + n) } })
      ∧ (∀ ohms heldUs, heldUs < 20000 → exec (.svcKeyChange ohms heldUs) s = .next s)
      ∧ (∀ ohms heldUs, s.sec.keyClosed = false → ohms ≤ 100 → 20000 ≤ heldUs → ∃ t, exec (.svcKeyChange ohms heldUs) s = .next t ∧ Logs s t [0x0525]
        ∧ t = { s with sec := { s.sec with keyClosed := true }, rcd := t.rcd })
      ∧ (∀ ohms heldUs, s.sec.keyClosed = true → 100 < ohms → 20000 ≤ heldUs → ∃ t, exec (.svcKeyChange ohms heldUs) s = .next t ∧ t.sec = { s.sec with keyClosed := false }
        ∧ (∀ i, i < 8 → nth t.inj i = none)
        ∧ ((∀ i, i < 8 → nth s.inj i = none) → Logs s t [0x0525] ∧ t = { s with sec := { s.sec with keyClosed := false }, rcd := t.rcd }))
      ∧ (s.op = .start → s.pw.step = 7 → s.repl.member = false → hasImage s = true → s.pw.startFailedWritten = false
          → s.pw.stepTime + 60000000 ≤ s.tm.now →
        ∃ t, exec .startMembershipTimeout s = .next t ∧ Logs s t [0x0005]
          ∧ t = { s with pw := { s.pw with startFailedWritten := true }, rcd := t.rcd }))
    ∧ (s.core = .clockless → s.pw.valid = true → s.pw.failing = false → ∀ mv, mv < 16000 →
      ∃ t, exec (.supplyLoss mv 0) s = .next t ∧ t.pw.valid = false ∧ t.core = .clockless ∧ t.clk.wosc = false
        ∧ t = { s with pw := t.pw, clk := t.clk })
    ∧ (∀ mv heldMs, s.core = .held → s.pw.failing = true → 18000 ≤ mv → 100 ≤ heldMs →
      ∃ t, exec (.supplyRestart mv heldMs) s = .next t ∧ t.pw.failing = false ∧ t.pw.step = 4 ∧ t.pw.upCause = 2
        ∧ t.core = .held ∧ t.clk = s.clk ∧ t = { s with op := .start, pw := t.pw, tm := { s.tm with cycleStart := s.tm.now } })
    ∧ (s.core = .held ∧ s.pw.failing = true ∨ s.pw.valid = false ∧ s.pw.holdupSpent = false →
      ∃ t, exec .holdUpSpent s = .next t ∧ t.pw.valid = false ∧ t.pw.failing = false ∧ t.pw.holdupSpent = true ∧ t.clk.ref = none
        ∧ t.clk.xoRunning = false ∧ t.clk.boscRunning = false ∧ (∀ c, c < 32 → (loopSt t c).setpoint = 0 ∧ (loopSt t c).latched = 0)
        ∧ (∀ b, b < 4 → bankSt t b = {}) ∧ t.rcd = s.rcd ∧ t.cfg = s.cfg ∧ t.sec = s.sec)
    ∧ (∀ r : StartReport, s.core = .held → s.pw.step = 4 → s.clk.pllLocked = true → s.pw.failing = false →
      let fail := (7 - r.lanesPass.toNat) &&& laneMask s
      ∃ t, exec (.coreStartUp r) s = .next t ∧ t.core = .running ∧ t.tm.powerCount = (s.tm.powerCount + 1) % 0x100000000
        ∧ (restartHeld s = true → t.pw.heldStart = true ∧ t.cfg.loaded = false ∧ t.op = .start)
        ∧ (restartHeld s = false → fail = laneMask s → laneMask t = 0 ∧ t.cfg.loaded = false ∧ t.op = .start)
        ∧ (restartHeld s = false → fail ≠ laneMask s → s.pw.upCause ≠ 3 → r.dramPass = false → t.cfg.loaded = false ∧ t.op = .start ∧ t.pw.step = 4)
        ∧ (restartHeld s = false → fail ≠ laneMask s → (s.pw.upCause = 3 ∨ r.dramPass = true) →
            t.cfg.loaded = true ∧ t.pw.step = (if hasImage t then 7 else 5)
            ∧ t.op = (if hasImage t = true ∧ s.clk.ref = some .bosc then .island else .start)))
end

