-- ==== Sys2Proof/Laws/Frames.lean ====
section
/-! SUPPORT. The bytes of a frame: what is formed is received with a good check. -/

namespace Sys2Proof.Machine
/-- Four bytes written are four bytes read. -/
theorem leNat_le4 (x : Nat) (h : x < 2 ^ 32) : leNat (le 4 x) = x := by
  simp [le, leNat, BitVec.toNat_ofNat]; omega
theorem crcBit_lt (c : Nat) (h : c < 2 ^ 32) : crcBit 0x82F63B78 c < 2 ^ 32 := by
  unfold crcBit; split
  · exact Nat.xor_lt_two_pow (by omega) (by decide)
  · omega
theorem crcByte_lt (c : Nat) (b : Byte) (h : c < 2 ^ 32) : crcByte 0x82F63B78 c b < 2 ^ 32 := by
  simp only [crcByte]
  iterate 8 refine crcBit_lt _ ?_
  exact Nat.xor_lt_two_pow h (by have := b.isLt; omega)
theorem crcFold_lt (bs : Bytes) : ∀ c, c < 2 ^ 32 → bs.foldl (crcByte 0x82F63B78) c < 2 ^ 32 := by
  induction bs with
  | nil => exact fun c h => h
  | cons b bs ih => exact fun c h => ih _ (crcByte_lt c b h)
/-- A CRC-32C is four bytes wide. -/
theorem crc32c_lt (bs : Bytes) : crc32c bs < 2 ^ 32 :=
  Nat.xor_lt_two_pow (crcFold_lt bs _ (by decide)) (by decide)
/-- A frame whose trailer is the check of its bytes with the TTL taken as 0 passes, when its length field is right (R216). -/
theorem crcOk_list (a b c : Byte) (r : Bytes) (h : u16 (a :: b :: c :: r ++ le 4 (crc32c (a :: b :: 0 :: r))) 16 + 17 = r.length) :
    crcOk (a :: b :: c :: r ++ le 4 (crc32c (a :: b :: 0 :: r))) = true := by
  have hn := leNat_le4 _ (crc32c_lt (a :: b :: 0 :: r))
  have hl : (a :: b :: c :: r ++ le 4 (crc32c (a :: b :: 0 :: r))).length - 4 = (a :: b :: c :: r).length := by simp [le]
  unfold crcOk
  simp only [hl, List.take_left', u32, sub, List.drop_left', upd, Bool.and_eq_true, beq_iff_eq]
  refine ⟨?_, ?_⟩
  · have h2 : (a :: b :: c :: r ++ le 4 (crc32c (a :: b :: 0 :: r))).length = r.length + 7 := by simp [le]
    omega
  · simpa [le, zeros] using hn.symm

/-- Every frame the node forms carries a good CRC-32C and its own length (R216). -/
theorem crcOk_bytes (f : Frame) (h : f.body.length < 2 ^ 16) : crcOk f.bytes = true := by
  refine crcOk_list _ _ _ _ ?_
  simp [le, zeros, u16, sub, leNat]; omega

/-- The body of a frame is received as it was formed. -/
theorem hdrFrame_bytes_body (f : Frame) (h : f.body.length < 2 ^ 16) : (hdrFrame f.bytes).body = f.body := by
  have hn : u16 f.bytes 16 = f.body.length := by
    simp [Frame.bytes, le, zeros, u16, sub, leNat]; omega
  simp only [hdrFrame, hn]
  simp [Frame.bytes, le, zeros]

end Sys2Proof.Machine
end

