-- ==== Sys2Proof/Laws/Lists.lean ====
section
/-! SUPPORT. Laws of the list and byte operations of `Machine/Bytes.lean`. -/

namespace Sys2Proof.Machine

variable {α : Type}

@[simp] theorem length_upd (l : List α) (i : Nat) (f : α → α) : (upd l i f).length = l.length := by
  induction l generalizing i with
  | nil => rfl
  | cons a l ih => cases i with
    | zero => rfl
    | succ i => simp [upd, ih]

/-- Beyond the end nothing is replaced. -/
theorem upd_of_length_le (l : List α) (i : Nat) (f : α → α) (h : l.length ≤ i) : upd l i f = l := by
  induction l generalizing i with
  | nil => rfl
  | cons a l ih => cases i with
    | zero => simp at h
    | succ i => simp only [List.length_cons, Nat.add_le_add_iff_right] at h; simp [upd, ih i h]

theorem getElem?_upd_self (l : List α) (i : Nat) (f : α → α) : (upd l i f)[i]? = l[i]?.map f := by
  induction l generalizing i with
  | nil => simp [upd]
  | cons a l ih => cases i with
    | zero => simp [upd]
    | succ i => simp [upd, ih]

theorem getElem?_upd_ne (l : List α) {i j : Nat} (f : α → α) (h : j ≠ i) : (upd l i f)[j]? = l[j]? := by
  induction l generalizing i j with
  | nil => simp [upd]
  | cons a l ih => cases i with
    | zero => cases j with
      | zero => exact absurd rfl h
      | succ j => simp [upd]
    | succ i => cases j with
      | zero => simp [upd]
      | succ j => simp only [upd, List.getElem?_cons_succ]; exact ih (fun e => h (by rw [e]))

/-- The element replaced. -/
theorem nth_upd_self [Inhabited α] (l : List α) (i : Nat) (f : α → α) (h : i < l.length) :
    nth (upd l i f) i = f (nth l i) := by
  simp [nth, List.getD_eq_getElem?_getD, getElem?_upd_self, List.getElem?_eq_getElem h]

/-- Every other element stays. -/
theorem nth_upd_ne [Inhabited α] (l : List α) {i j : Nat} (f : α → α) (h : j ≠ i) : nth (upd l i f) j = nth l j := by
  simp [nth, List.getD_eq_getElem?_getD, getElem?_upd_ne l f h]

/-- Both in one: an element after an update. -/
theorem nth_upd [Inhabited α] (l : List α) (i j : Nat) (f : α → α) :
    nth (upd l i f) j = if j = i ∧ i < l.length then f (nth l i) else nth l j := by
  by_cases h : j = i
  · subst h
    by_cases hl : j < l.length
    · simp [hl, nth_upd_self l j f hl]
    · simp [hl, upd_of_length_le l j f (Nat.le_of_not_lt hl)]
  · simp [h, nth_upd_ne l f h]

@[simp] theorem length_le (n x : Nat) : (le n x).length = n := by
  induction n generalizing x with
  | zero => rfl
  | succ n ih => simp [le, ih]

@[simp] theorem length_leInt (n : Nat) (x : Int) : (leInt n x).length = n := by simp [leInt]

@[simp] theorem length_zeros (n : Nat) : (zeros n).length = n := by simp [zeros]

@[simp] theorem length_sub (b : Bytes) (off n : Nat) : (sub b off n).length = n := by
  simp [sub, List.length_take, List.length_drop]

@[simp] theorem length_padTo (n : Nat) (b : Bytes) : (padTo n b).length = n := by simp [padTo]

/-- A field of `n` bytes spells its number modulo 256ⁿ. -/
theorem leNat_le (n x : Nat) : leNat (le n x) = x % 256 ^ n := by
  induction n generalizing x with
  | zero => simp [le, leNat, Nat.mod_one]
  | succ n ih =>
    have h : 256 ^ (n + 1) = 256 * 256 ^ n := by rw [Nat.pow_succ, Nat.mul_comm]
    simp only [le, leNat, ih, h, Nat.mod_mul, BitVec.toNat_ofNat]

/-- A stretch that lies within the first of two parts. -/
theorem sub_append_left (a b : Bytes) (off n : Nat) (h : off + n ≤ a.length) : sub (a ++ b) off n = sub a off n := by
  have h1 : (a ++ b).drop off = a.drop off ++ b := by rw [List.drop_append_of_le_length (by omega)]
  have h2 : (a.drop off ++ b).take n = (a.drop off).take n := by
    rw [List.take_append_of_le_length (by simp; omega)]
  simp only [sub, h1, h2]

/-- A stretch that lies within the second of two parts. -/
theorem sub_append_right (a b : Bytes) (off n : Nat) (h : a.length ≤ off) : sub (a ++ b) off n = sub b (off - a.length) n := by
  have h1 : (a ++ b).drop off = b.drop (off - a.length) := by
    rw [List.drop_append, List.drop_eq_nil_of_le h, List.nil_append]
  simp only [sub, h1]

/-- A stretch that is the whole. -/
theorem sub_zero_self (a : Bytes) : sub a 0 a.length = a := by simp [sub, zeros]

end Sys2Proof.Machine
end

