-- ==== Sys2Proof/Laws/Memory.lean ====
section
/-! SUPPORT. Laws of `Memory`: reads after writes, and that every operation keeps the canonical form. -/

namespace Sys2Proof.Machine

/-- Every listed address lies above a bound. -/
def Memory.above (m : Memory) (a : Nat) : Prop := ∀ c ∈ m, a < c.1

theorem Memory.wf_cons (a : Nat) (b : Byte) (m : Memory) :
    Memory.wf ((a, b) :: m) = true ↔ b ≠ 0 ∧ m.above a ∧ m.wf = true := by
  induction m generalizing a b with
  | nil => simp [Memory.wf, Memory.above]
  | cons c m ih =>
    obtain ⟨a', b'⟩ := c
    have ih' := ih a' b'
    simp only [Memory.wf, Bool.and_eq_true, decide_eq_true_eq, Memory.above, List.mem_cons, forall_eq_or_imp] at ih' ⊢
    constructor
    · rintro ⟨⟨h1, h2⟩, h3⟩
      exact ⟨h1, ⟨h2, fun c hc => Nat.lt_trans h2 ((ih'.mp h3).2.1 c hc)⟩, h3⟩
    · rintro ⟨h1, ⟨h2, _⟩, h3⟩
      exact ⟨⟨h1, h2⟩, h3⟩

@[simp] theorem Memory.wf_nil : Memory.wf [] = true := rfl

theorem Memory.mem_write {m : Memory} {a : Nat} {v : Byte} {c : Host.Cell} (h : c ∈ m.write a v) : c.1 = a ∨ c ∈ m := by
  induction m with
  | nil => simp only [Memory.write] at h; split at h <;> simp_all
  | cons d m ih =>
    obtain ⟨k, b⟩ := d
    simp only [Memory.write] at h
    split at h
    · split at h
      · exact .inr h
      · rcases List.mem_cons.mp h with rfl | h
        · exact .inl rfl
        · exact .inr h
    · split at h
      · split at h
        · exact .inr (List.mem_cons_of_mem _ h)
        · rcases List.mem_cons.mp h with rfl | h
          · exact .inl rfl
          · exact .inr (List.mem_cons_of_mem _ h)
      · rcases List.mem_cons.mp h with rfl | h
        · exact .inr (List.mem_cons_self ..)
        · exact (ih h).imp id (List.mem_cons_of_mem _)

/-- Writing a byte keeps the canonical form. -/
theorem Memory.wf_write (m : Memory) (a : Nat) (v : Byte) (h : m.wf = true) : (m.write a v).wf = true := by
  induction m with
  | nil => simp only [Memory.write]; split <;> simp_all [Memory.wf]
  | cons d m ih =>
    obtain ⟨k, b⟩ := d
    obtain ⟨hb, hab, hm⟩ := (Memory.wf_cons k b m).mp h
    simp only [Memory.write]
    split
    · next hlt =>
      split
      · exact h
      · next hv =>
        refine (Memory.wf_cons a v _).mpr ⟨hv, ?_, h⟩
        intro c hc
        rcases List.mem_cons.mp hc with rfl | hc
        · exact hlt
        · exact Nat.lt_trans hlt (hab c hc)
    · next hlt =>
      split
      · next heq =>
        subst heq
        split
        · exact hm
        · next hv => exact (Memory.wf_cons a v m).mpr ⟨hv, hab, hm⟩
      · next hne =>
        refine (Memory.wf_cons k b _).mpr ⟨hb, ?_, ih hm⟩
        intro c hc
        rcases Memory.mem_write hc with e | hc
        · rw [e]; omega
        · exact hab c hc

theorem Memory.wf_writeBytes (m : Memory) (a : Nat) (bs : Bytes) (h : m.wf = true) : (m.writeBytes a bs).wf = true := by
  induction bs generalizing m a with
  | nil => exact h
  | cons b bs ih => exact ih _ _ (Memory.wf_write m a b h)

/-- Listing fewer bytes keeps the canonical form. -/
theorem Memory.wf_filter (m : Memory) (p : Host.Cell → Bool) (h : m.wf = true) : Memory.wf (m.filter p) = true := by
  induction m with
  | nil => rfl
  | cons d m ih =>
    obtain ⟨k, b⟩ := d
    obtain ⟨hb, hab, hm⟩ := (Memory.wf_cons k b m).mp h
    rw [List.filter_cons]
    split
    · exact (Memory.wf_cons k b _).mpr ⟨hb, fun c hc => hab c (List.mem_filter.mp hc).1, ih hm⟩
    · exact ih hm

theorem Memory.wf_clear (m : Memory) (a n : Nat) (h : m.wf = true) : (m.clear a n).wf = true := Memory.wf_filter m _ h

/-- Moving every listed byte down by the same distance keeps the canonical form. -/
theorem Memory.wf_shift (m : Memory) (a : Nat) (h : m.wf = true) (ha : ∀ c ∈ m, a ≤ c.1) :
    Memory.wf (m.map fun c => (c.1 - a, c.2)) = true := by
  induction m with
  | nil => rfl
  | cons d m ih =>
    obtain ⟨k, b⟩ := d
    obtain ⟨hb, hab, hm⟩ := (Memory.wf_cons k b m).mp h
    refine (Memory.wf_cons _ b _).mpr ⟨hb, ?_, ih hm fun c hc => ha c (List.mem_cons_of_mem _ hc)⟩
    intro c hc
    obtain ⟨e, he, rfl⟩ := List.mem_map.mp hc
    have h1 := hab e he
    have h2 := ha (k, b) (List.mem_cons_self ..)
    simp only at h1 h2 ⊢
    omega

theorem Memory.wf_window (m : Memory) (a n : Nat) (h : m.wf = true) : (m.window a n).wf = true := by
  refine Memory.wf_shift _ a (Memory.wf_filter m _ h) fun c hc => ?_
  have := (List.mem_filter.mp hc).2
  simp only [decide_eq_true_eq] at this
  exact this.1

theorem Memory.wf_place (m : Memory) (a : Nat) (src : Memory) (h : m.wf = true) : (m.place a src).wf = true := by
  unfold Memory.place
  induction src generalizing m with
  | nil => exact h
  | cons c src ih => exact ih _ (Memory.wf_write m _ _ h)

theorem Memory.read_of_above (m : Memory) (a : Nat) (h : m.above a) : m.read a = 0 := by
  induction m with
  | nil => rfl
  | cons d m ih =>
    obtain ⟨k, b⟩ := d
    have hk : a < k := h (k, b) (List.mem_cons_self ..)
    simp only [Memory.read, Nat.ne_of_gt hk, if_false]
    exact ih fun c hc => h c (List.mem_cons_of_mem _ hc)

/-- A byte written is read back. -/
theorem Memory.read_write_self (m : Memory) (a : Nat) (v : Byte) (h : m.wf = true) : (m.write a v).read a = v := by
  induction m with
  | nil => simp only [Memory.write]; split <;> simp_all [Memory.read]
  | cons d m ih =>
    obtain ⟨k, b⟩ := d
    obtain ⟨hb, hab, hm⟩ := (Memory.wf_cons k b m).mp h
    simp only [Memory.write]
    split
    · next hlt =>
      split
      · next hv =>
        rw [hv]
        refine Memory.read_of_above _ a fun c hc => ?_
        rcases List.mem_cons.mp hc with rfl | hc
        · exact hlt
        · exact Nat.lt_trans hlt (hab c hc)
      · simp [Memory.read]
    · split
      · next heq =>
        subst heq
        split
        · next hv => rw [hv]; exact Memory.read_of_above m a hab
        · simp [Memory.read]
      · next hne => simp only [Memory.read, if_neg (fun e => hne (Eq.symm e))]; exact ih hm

/-- Every other byte reads as before. -/
theorem Memory.read_write_other (m : Memory) {a x : Nat} (v : Byte) (hne : x ≠ a) : (m.write a v).read x = m.read x := by
  induction m with
  | nil => simp only [Memory.write]; split <;> simp [Memory.read, Ne.symm hne]
  | cons d m ih =>
    obtain ⟨k, b⟩ := d
    simp only [Memory.write]
    split
    · split
      · rfl
      · simp [Memory.read, Ne.symm hne]
    · split
      · next heq =>
        subst heq
        split <;> simp [Memory.read, Ne.symm hne]
      · simp only [Memory.read]
        split
        · rfl
        · exact ih

/-- Bytes outside a stretch written read as before. -/
theorem Memory.read_writeBytes_other (m : Memory) (a : Nat) (bs : Bytes) {x : Nat} (h : x < a ∨ a + bs.length ≤ x) :
    (m.writeBytes a bs).read x = m.read x := by
  induction bs generalizing m a with
  | nil => rfl
  | cons b bs ih =>
    rw [List.length_cons] at h
    have hx : x ≠ a := by omega
    have h' : x < a + 1 ∨ a + 1 + bs.length ≤ x := by omega
    rw [Memory.writeBytes, ih _ _ h', Memory.read_write_other m b hx]

end Sys2Proof.Machine
end

