-- ==== Sys2Proof/Laws/State.lean ====
section
/-! SUPPORT. One lemma per field for each shared update of the state, so that no proof unfolds a record update. -/

namespace Sys2Proof.Machine

/-! ### `State.setSlice` -/

@[simp] theorem State.setSlice_pending (s : State) (b k : Nat) (f : Slice → Slice) : (s.setSlice b k f).pending = s.pending := rfl
@[simp] theorem State.setSlice_core (s : State) (b k : Nat) (f : Slice → Slice) : (s.setSlice b k f).core = s.core := rfl
@[simp] theorem State.setSlice_op (s : State) (b k : Nat) (f : Slice → Slice) : (s.setSlice b k f).op = s.op := rfl
@[simp] theorem State.setSlice_node (s : State) (b k : Nat) (f : Slice → Slice) : (s.setSlice b k f).node = s.node := rfl
@[simp] theorem State.setSlice_ports (s : State) (b k : Nat) (f : Slice → Slice) : (s.setSlice b k f).ports = s.ports := rfl
@[simp] theorem State.setSlice_sec (s : State) (b k : Nat) (f : Slice → Slice) : (s.setSlice b k f).sec = s.sec := rfl
@[simp] theorem State.setSlice_tm (s : State) (b k : Nat) (f : Slice → Slice) : (s.setSlice b k f).tm = s.tm := rfl
@[simp] theorem State.setSlice_clk (s : State) (b k : Nat) (f : Slice → Slice) : (s.setSlice b k f).clk = s.clk := rfl
@[simp] theorem State.setSlice_pw (s : State) (b k : Nat) (f : Slice → Slice) : (s.setSlice b k f).pw = s.pw := rfl
@[simp] theorem State.setSlice_rcd (s : State) (b k : Nat) (f : Slice → Slice) : (s.setSlice b k f).rcd = s.rcd := rfl
@[simp] theorem State.setSlice_fab (s : State) (b k : Nat) (f : Slice → Slice) : (s.setSlice b k f).fab = s.fab := rfl
@[simp] theorem State.setSlice_repl (s : State) (b k : Nat) (f : Slice → Slice) : (s.setSlice b k f).repl = s.repl := rfl
@[simp] theorem State.setSlice_lanes (s : State) (b k : Nat) (f : Slice → Slice) : (s.setSlice b k f).lanes = s.lanes := rfl
@[simp] theorem State.setSlice_cfg (s : State) (b k : Nat) (f : Slice → Slice) : (s.setSlice b k f).cfg = s.cfg := rfl
@[simp] theorem State.setSlice_inj (s : State) (b k : Nat) (f : Slice → Slice) : (s.setSlice b k f).inj = s.inj := rfl
@[simp] theorem State.setSlice_dio (s : State) (b k : Nat) (f : Slice → Slice) : (s.setSlice b k f).dio = s.dio := rfl
@[simp] theorem State.setSlice_disp (s : State) (b k : Nat) (f : Slice → Slice) : (s.setSlice b k f).disp = s.disp := rfl
@[simp] theorem State.setSlice_age (s : State) (b k : Nat) (f : Slice → Slice) : (s.setSlice b k f).age = s.age := rfl
@[simp] theorem State.setSlice_fresh (s : State) (b k : Nat) (f : Slice → Slice) : (s.setSlice b k f).fresh = s.fresh := rfl

/-! ### `State.setChan` -/

@[simp] theorem State.setChan_pending (s : State) (c : Nat) (f : Chan → Chan) : (s.setChan c f).pending = s.pending := rfl
@[simp] theorem State.setChan_core (s : State) (c : Nat) (f : Chan → Chan) : (s.setChan c f).core = s.core := rfl
@[simp] theorem State.setChan_op (s : State) (c : Nat) (f : Chan → Chan) : (s.setChan c f).op = s.op := rfl
@[simp] theorem State.setChan_node (s : State) (c : Nat) (f : Chan → Chan) : (s.setChan c f).node = s.node := rfl
@[simp] theorem State.setChan_ports (s : State) (c : Nat) (f : Chan → Chan) : (s.setChan c f).ports = s.ports := rfl
@[simp] theorem State.setChan_sec (s : State) (c : Nat) (f : Chan → Chan) : (s.setChan c f).sec = s.sec := rfl
@[simp] theorem State.setChan_tm (s : State) (c : Nat) (f : Chan → Chan) : (s.setChan c f).tm = s.tm := rfl
@[simp] theorem State.setChan_clk (s : State) (c : Nat) (f : Chan → Chan) : (s.setChan c f).clk = s.clk := rfl
@[simp] theorem State.setChan_pw (s : State) (c : Nat) (f : Chan → Chan) : (s.setChan c f).pw = s.pw := rfl
@[simp] theorem State.setChan_rcd (s : State) (c : Nat) (f : Chan → Chan) : (s.setChan c f).rcd = s.rcd := rfl
@[simp] theorem State.setChan_fab (s : State) (c : Nat) (f : Chan → Chan) : (s.setChan c f).fab = s.fab := rfl
@[simp] theorem State.setChan_repl (s : State) (c : Nat) (f : Chan → Chan) : (s.setChan c f).repl = s.repl := rfl
@[simp] theorem State.setChan_lanes (s : State) (c : Nat) (f : Chan → Chan) : (s.setChan c f).lanes = s.lanes := rfl
@[simp] theorem State.setChan_cfg (s : State) (c : Nat) (f : Chan → Chan) : (s.setChan c f).cfg = s.cfg := rfl
@[simp] theorem State.setChan_inj (s : State) (c : Nat) (f : Chan → Chan) : (s.setChan c f).inj = s.inj := rfl
@[simp] theorem State.setChan_dio (s : State) (c : Nat) (f : Chan → Chan) : (s.setChan c f).dio = s.dio := rfl
@[simp] theorem State.setChan_disp (s : State) (c : Nat) (f : Chan → Chan) : (s.setChan c f).disp = s.disp := rfl
@[simp] theorem State.setChan_age (s : State) (c : Nat) (f : Chan → Chan) : (s.setChan c f).age = s.age := rfl
@[simp] theorem State.setChan_fresh (s : State) (c : Nat) (f : Chan → Chan) : (s.setChan c f).fresh = s.fresh := rfl

/-! ### `State.setBank` -/

@[simp] theorem State.setBank_pending (s : State) (b : Nat) (f : BankState → BankState) : (s.setBank b f).pending = s.pending := rfl
@[simp] theorem State.setBank_core (s : State) (b : Nat) (f : BankState → BankState) : (s.setBank b f).core = s.core := rfl
@[simp] theorem State.setBank_op (s : State) (b : Nat) (f : BankState → BankState) : (s.setBank b f).op = s.op := rfl
@[simp] theorem State.setBank_node (s : State) (b : Nat) (f : BankState → BankState) : (s.setBank b f).node = s.node := rfl
@[simp] theorem State.setBank_ports (s : State) (b : Nat) (f : BankState → BankState) : (s.setBank b f).ports = s.ports := rfl
@[simp] theorem State.setBank_sec (s : State) (b : Nat) (f : BankState → BankState) : (s.setBank b f).sec = s.sec := rfl
@[simp] theorem State.setBank_tm (s : State) (b : Nat) (f : BankState → BankState) : (s.setBank b f).tm = s.tm := rfl
@[simp] theorem State.setBank_clk (s : State) (b : Nat) (f : BankState → BankState) : (s.setBank b f).clk = s.clk := rfl
@[simp] theorem State.setBank_pw (s : State) (b : Nat) (f : BankState → BankState) : (s.setBank b f).pw = s.pw := rfl
@[simp] theorem State.setBank_rcd (s : State) (b : Nat) (f : BankState → BankState) : (s.setBank b f).rcd = s.rcd := rfl
@[simp] theorem State.setBank_fab (s : State) (b : Nat) (f : BankState → BankState) : (s.setBank b f).fab = s.fab := rfl
@[simp] theorem State.setBank_repl (s : State) (b : Nat) (f : BankState → BankState) : (s.setBank b f).repl = s.repl := rfl
@[simp] theorem State.setBank_lanes (s : State) (b : Nat) (f : BankState → BankState) : (s.setBank b f).lanes = s.lanes := rfl
@[simp] theorem State.setBank_cfg (s : State) (b : Nat) (f : BankState → BankState) : (s.setBank b f).cfg = s.cfg := rfl
@[simp] theorem State.setBank_inj (s : State) (b : Nat) (f : BankState → BankState) : (s.setBank b f).inj = s.inj := rfl
@[simp] theorem State.setBank_dio (s : State) (b : Nat) (f : BankState → BankState) : (s.setBank b f).dio = s.dio := rfl
@[simp] theorem State.setBank_disp (s : State) (b : Nat) (f : BankState → BankState) : (s.setBank b f).disp = s.disp := rfl
@[simp] theorem State.setBank_age (s : State) (b : Nat) (f : BankState → BankState) : (s.setBank b f).age = s.age := rfl
@[simp] theorem State.setBank_fresh (s : State) (b : Nat) (f : BankState → BankState) : (s.setBank b f).fresh = s.fresh := rfl

/-! ### `State.setLoop` -/

@[simp] theorem State.setLoop_pending (s : State) (c : Nat) (f : Loop → Loop) : (s.setLoop c f).pending = s.pending := rfl
@[simp] theorem State.setLoop_core (s : State) (c : Nat) (f : Loop → Loop) : (s.setLoop c f).core = s.core := rfl
@[simp] theorem State.setLoop_op (s : State) (c : Nat) (f : Loop → Loop) : (s.setLoop c f).op = s.op := rfl
@[simp] theorem State.setLoop_node (s : State) (c : Nat) (f : Loop → Loop) : (s.setLoop c f).node = s.node := rfl
@[simp] theorem State.setLoop_ports (s : State) (c : Nat) (f : Loop → Loop) : (s.setLoop c f).ports = s.ports := rfl
@[simp] theorem State.setLoop_sec (s : State) (c : Nat) (f : Loop → Loop) : (s.setLoop c f).sec = s.sec := rfl
@[simp] theorem State.setLoop_tm (s : State) (c : Nat) (f : Loop → Loop) : (s.setLoop c f).tm = s.tm := rfl
@[simp] theorem State.setLoop_clk (s : State) (c : Nat) (f : Loop → Loop) : (s.setLoop c f).clk = s.clk := rfl
@[simp] theorem State.setLoop_pw (s : State) (c : Nat) (f : Loop → Loop) : (s.setLoop c f).pw = s.pw := rfl
@[simp] theorem State.setLoop_rcd (s : State) (c : Nat) (f : Loop → Loop) : (s.setLoop c f).rcd = s.rcd := rfl
@[simp] theorem State.setLoop_fab (s : State) (c : Nat) (f : Loop → Loop) : (s.setLoop c f).fab = s.fab := rfl
@[simp] theorem State.setLoop_repl (s : State) (c : Nat) (f : Loop → Loop) : (s.setLoop c f).repl = s.repl := rfl
@[simp] theorem State.setLoop_lanes (s : State) (c : Nat) (f : Loop → Loop) : (s.setLoop c f).lanes = s.lanes := rfl
@[simp] theorem State.setLoop_cfg (s : State) (c : Nat) (f : Loop → Loop) : (s.setLoop c f).cfg = s.cfg := rfl
@[simp] theorem State.setLoop_inj (s : State) (c : Nat) (f : Loop → Loop) : (s.setLoop c f).inj = s.inj := rfl
@[simp] theorem State.setLoop_dio (s : State) (c : Nat) (f : Loop → Loop) : (s.setLoop c f).dio = s.dio := rfl
@[simp] theorem State.setLoop_disp (s : State) (c : Nat) (f : Loop → Loop) : (s.setLoop c f).disp = s.disp := rfl
@[simp] theorem State.setLoop_age (s : State) (c : Nat) (f : Loop → Loop) : (s.setLoop c f).age = s.age := rfl
@[simp] theorem State.setLoop_fresh (s : State) (c : Nat) (f : Loop → Loop) : (s.setLoop c f).fresh = s.fresh := rfl

/-! ### `State.setCell` -/

@[simp] theorem State.setCell_pending (s : State) (n : Nat) (f : Cell → Cell) : (s.setCell n f).pending = s.pending := rfl
@[simp] theorem State.setCell_core (s : State) (n : Nat) (f : Cell → Cell) : (s.setCell n f).core = s.core := rfl
@[simp] theorem State.setCell_op (s : State) (n : Nat) (f : Cell → Cell) : (s.setCell n f).op = s.op := rfl
@[simp] theorem State.setCell_node (s : State) (n : Nat) (f : Cell → Cell) : (s.setCell n f).node = s.node := rfl
@[simp] theorem State.setCell_ports (s : State) (n : Nat) (f : Cell → Cell) : (s.setCell n f).ports = s.ports := rfl
@[simp] theorem State.setCell_sec (s : State) (n : Nat) (f : Cell → Cell) : (s.setCell n f).sec = s.sec := rfl
@[simp] theorem State.setCell_tm (s : State) (n : Nat) (f : Cell → Cell) : (s.setCell n f).tm = s.tm := rfl
@[simp] theorem State.setCell_clk (s : State) (n : Nat) (f : Cell → Cell) : (s.setCell n f).clk = s.clk := rfl
@[simp] theorem State.setCell_pw (s : State) (n : Nat) (f : Cell → Cell) : (s.setCell n f).pw = s.pw := rfl
@[simp] theorem State.setCell_rcd (s : State) (n : Nat) (f : Cell → Cell) : (s.setCell n f).rcd = s.rcd := rfl
@[simp] theorem State.setCell_fab (s : State) (n : Nat) (f : Cell → Cell) : (s.setCell n f).fab = s.fab := rfl
@[simp] theorem State.setCell_repl (s : State) (n : Nat) (f : Cell → Cell) : (s.setCell n f).repl = s.repl := rfl
@[simp] theorem State.setCell_lanes (s : State) (n : Nat) (f : Cell → Cell) : (s.setCell n f).lanes = s.lanes := rfl
@[simp] theorem State.setCell_cfg (s : State) (n : Nat) (f : Cell → Cell) : (s.setCell n f).cfg = s.cfg := rfl
@[simp] theorem State.setCell_inj (s : State) (n : Nat) (f : Cell → Cell) : (s.setCell n f).inj = s.inj := rfl
@[simp] theorem State.setCell_ana (s : State) (n : Nat) (f : Cell → Cell) : (s.setCell n f).ana = s.ana := rfl
@[simp] theorem State.setCell_disp (s : State) (n : Nat) (f : Cell → Cell) : (s.setCell n f).disp = s.disp := rfl
@[simp] theorem State.setCell_age (s : State) (n : Nat) (f : Cell → Cell) : (s.setCell n f).age = s.age := rfl
@[simp] theorem State.setCell_fresh (s : State) (n : Nat) (f : Cell → Cell) : (s.setCell n f).fresh = s.fresh := rfl

/-! ### `State.setPanel` -/

@[simp] theorem State.setPanel_pending (s : State) (p : Nat) (f : Panel → Panel) : (s.setPanel p f).pending = s.pending := rfl
@[simp] theorem State.setPanel_core (s : State) (p : Nat) (f : Panel → Panel) : (s.setPanel p f).core = s.core := rfl
@[simp] theorem State.setPanel_op (s : State) (p : Nat) (f : Panel → Panel) : (s.setPanel p f).op = s.op := rfl
@[simp] theorem State.setPanel_node (s : State) (p : Nat) (f : Panel → Panel) : (s.setPanel p f).node = s.node := rfl
@[simp] theorem State.setPanel_ports (s : State) (p : Nat) (f : Panel → Panel) : (s.setPanel p f).ports = s.ports := rfl
@[simp] theorem State.setPanel_sec (s : State) (p : Nat) (f : Panel → Panel) : (s.setPanel p f).sec = s.sec := rfl
@[simp] theorem State.setPanel_tm (s : State) (p : Nat) (f : Panel → Panel) : (s.setPanel p f).tm = s.tm := rfl
@[simp] theorem State.setPanel_clk (s : State) (p : Nat) (f : Panel → Panel) : (s.setPanel p f).clk = s.clk := rfl
@[simp] theorem State.setPanel_pw (s : State) (p : Nat) (f : Panel → Panel) : (s.setPanel p f).pw = s.pw := rfl
@[simp] theorem State.setPanel_rcd (s : State) (p : Nat) (f : Panel → Panel) : (s.setPanel p f).rcd = s.rcd := rfl
@[simp] theorem State.setPanel_fab (s : State) (p : Nat) (f : Panel → Panel) : (s.setPanel p f).fab = s.fab := rfl
@[simp] theorem State.setPanel_repl (s : State) (p : Nat) (f : Panel → Panel) : (s.setPanel p f).repl = s.repl := rfl
@[simp] theorem State.setPanel_lanes (s : State) (p : Nat) (f : Panel → Panel) : (s.setPanel p f).lanes = s.lanes := rfl
@[simp] theorem State.setPanel_cfg (s : State) (p : Nat) (f : Panel → Panel) : (s.setPanel p f).cfg = s.cfg := rfl
@[simp] theorem State.setPanel_inj (s : State) (p : Nat) (f : Panel → Panel) : (s.setPanel p f).inj = s.inj := rfl
@[simp] theorem State.setPanel_ana (s : State) (p : Nat) (f : Panel → Panel) : (s.setPanel p f).ana = s.ana := rfl
@[simp] theorem State.setPanel_dio (s : State) (p : Nat) (f : Panel → Panel) : (s.setPanel p f).dio = s.dio := rfl
@[simp] theorem State.setPanel_age (s : State) (p : Nat) (f : Panel → Panel) : (s.setPanel p f).age = s.age := rfl
@[simp] theorem State.setPanel_fresh (s : State) (p : Nat) (f : Panel → Panel) : (s.setPanel p f).fresh = s.fresh := rfl

/-! ### `State.setPort` -/

@[simp] theorem State.setPort_pending (s : State) (p : Nat) (f : FabPort → FabPort) : (s.setPort p f).pending = s.pending := rfl
@[simp] theorem State.setPort_core (s : State) (p : Nat) (f : FabPort → FabPort) : (s.setPort p f).core = s.core := rfl
@[simp] theorem State.setPort_op (s : State) (p : Nat) (f : FabPort → FabPort) : (s.setPort p f).op = s.op := rfl
@[simp] theorem State.setPort_node (s : State) (p : Nat) (f : FabPort → FabPort) : (s.setPort p f).node = s.node := rfl
@[simp] theorem State.setPort_ports (s : State) (p : Nat) (f : FabPort → FabPort) : (s.setPort p f).ports = s.ports := rfl
@[simp] theorem State.setPort_sec (s : State) (p : Nat) (f : FabPort → FabPort) : (s.setPort p f).sec = s.sec := rfl
@[simp] theorem State.setPort_tm (s : State) (p : Nat) (f : FabPort → FabPort) : (s.setPort p f).tm = s.tm := rfl
@[simp] theorem State.setPort_clk (s : State) (p : Nat) (f : FabPort → FabPort) : (s.setPort p f).clk = s.clk := rfl
@[simp] theorem State.setPort_pw (s : State) (p : Nat) (f : FabPort → FabPort) : (s.setPort p f).pw = s.pw := rfl
@[simp] theorem State.setPort_rcd (s : State) (p : Nat) (f : FabPort → FabPort) : (s.setPort p f).rcd = s.rcd := rfl
@[simp] theorem State.setPort_repl (s : State) (p : Nat) (f : FabPort → FabPort) : (s.setPort p f).repl = s.repl := rfl
@[simp] theorem State.setPort_lanes (s : State) (p : Nat) (f : FabPort → FabPort) : (s.setPort p f).lanes = s.lanes := rfl
@[simp] theorem State.setPort_cfg (s : State) (p : Nat) (f : FabPort → FabPort) : (s.setPort p f).cfg = s.cfg := rfl
@[simp] theorem State.setPort_inj (s : State) (p : Nat) (f : FabPort → FabPort) : (s.setPort p f).inj = s.inj := rfl
@[simp] theorem State.setPort_ana (s : State) (p : Nat) (f : FabPort → FabPort) : (s.setPort p f).ana = s.ana := rfl
@[simp] theorem State.setPort_dio (s : State) (p : Nat) (f : FabPort → FabPort) : (s.setPort p f).dio = s.dio := rfl
@[simp] theorem State.setPort_disp (s : State) (p : Nat) (f : FabPort → FabPort) : (s.setPort p f).disp = s.disp := rfl
@[simp] theorem State.setPort_age (s : State) (p : Nat) (f : FabPort → FabPort) : (s.setPort p f).age = s.age := rfl
@[simp] theorem State.setPort_fresh (s : State) (p : Nat) (f : FabPort → FabPort) : (s.setPort p f).fresh = s.fresh := rfl

/-! ### `State.setEntry` -/

@[simp] theorem State.setEntry_pending (s : State) (m : Nat) (f : LedgerEntry → LedgerEntry) : (s.setEntry m f).pending = s.pending := rfl
@[simp] theorem State.setEntry_core (s : State) (m : Nat) (f : LedgerEntry → LedgerEntry) : (s.setEntry m f).core = s.core := rfl
@[simp] theorem State.setEntry_op (s : State) (m : Nat) (f : LedgerEntry → LedgerEntry) : (s.setEntry m f).op = s.op := rfl
@[simp] theorem State.setEntry_node (s : State) (m : Nat) (f : LedgerEntry → LedgerEntry) : (s.setEntry m f).node = s.node := rfl
@[simp] theorem State.setEntry_ports (s : State) (m : Nat) (f : LedgerEntry → LedgerEntry) : (s.setEntry m f).ports = s.ports := rfl
@[simp] theorem State.setEntry_sec (s : State) (m : Nat) (f : LedgerEntry → LedgerEntry) : (s.setEntry m f).sec = s.sec := rfl
@[simp] theorem State.setEntry_tm (s : State) (m : Nat) (f : LedgerEntry → LedgerEntry) : (s.setEntry m f).tm = s.tm := rfl
@[simp] theorem State.setEntry_clk (s : State) (m : Nat) (f : LedgerEntry → LedgerEntry) : (s.setEntry m f).clk = s.clk := rfl
@[simp] theorem State.setEntry_pw (s : State) (m : Nat) (f : LedgerEntry → LedgerEntry) : (s.setEntry m f).pw = s.pw := rfl
@[simp] theorem State.setEntry_rcd (s : State) (m : Nat) (f : LedgerEntry → LedgerEntry) : (s.setEntry m f).rcd = s.rcd := rfl
@[simp] theorem State.setEntry_fab (s : State) (m : Nat) (f : LedgerEntry → LedgerEntry) : (s.setEntry m f).fab = s.fab := rfl
@[simp] theorem State.setEntry_repl (s : State) (m : Nat) (f : LedgerEntry → LedgerEntry) : (s.setEntry m f).repl = s.repl := rfl
@[simp] theorem State.setEntry_lanes (s : State) (m : Nat) (f : LedgerEntry → LedgerEntry) : (s.setEntry m f).lanes = s.lanes := rfl
@[simp] theorem State.setEntry_cfg (s : State) (m : Nat) (f : LedgerEntry → LedgerEntry) : (s.setEntry m f).cfg = s.cfg := rfl
@[simp] theorem State.setEntry_inj (s : State) (m : Nat) (f : LedgerEntry → LedgerEntry) : (s.setEntry m f).inj = s.inj := rfl
@[simp] theorem State.setEntry_ana (s : State) (m : Nat) (f : LedgerEntry → LedgerEntry) : (s.setEntry m f).ana = s.ana := rfl
@[simp] theorem State.setEntry_dio (s : State) (m : Nat) (f : LedgerEntry → LedgerEntry) : (s.setEntry m f).dio = s.dio := rfl
@[simp] theorem State.setEntry_disp (s : State) (m : Nat) (f : LedgerEntry → LedgerEntry) : (s.setEntry m f).disp = s.disp := rfl
@[simp] theorem State.setEntry_fresh (s : State) (m : Nat) (f : LedgerEntry → LedgerEntry) : (s.setEntry m f).fresh = s.fresh := rfl

/-! ### `State.setDir` -/

@[simp] theorem State.setDir_pending (s : State) (b r : Nat) (f : DirEntry → DirEntry) : (s.setDir b r f).pending = s.pending := rfl
@[simp] theorem State.setDir_core (s : State) (b r : Nat) (f : DirEntry → DirEntry) : (s.setDir b r f).core = s.core := rfl
@[simp] theorem State.setDir_op (s : State) (b r : Nat) (f : DirEntry → DirEntry) : (s.setDir b r f).op = s.op := rfl
@[simp] theorem State.setDir_node (s : State) (b r : Nat) (f : DirEntry → DirEntry) : (s.setDir b r f).node = s.node := rfl
@[simp] theorem State.setDir_ports (s : State) (b r : Nat) (f : DirEntry → DirEntry) : (s.setDir b r f).ports = s.ports := rfl
@[simp] theorem State.setDir_sec (s : State) (b r : Nat) (f : DirEntry → DirEntry) : (s.setDir b r f).sec = s.sec := rfl
@[simp] theorem State.setDir_tm (s : State) (b r : Nat) (f : DirEntry → DirEntry) : (s.setDir b r f).tm = s.tm := rfl
@[simp] theorem State.setDir_clk (s : State) (b r : Nat) (f : DirEntry → DirEntry) : (s.setDir b r f).clk = s.clk := rfl
@[simp] theorem State.setDir_pw (s : State) (b r : Nat) (f : DirEntry → DirEntry) : (s.setDir b r f).pw = s.pw := rfl
@[simp] theorem State.setDir_rcd (s : State) (b r : Nat) (f : DirEntry → DirEntry) : (s.setDir b r f).rcd = s.rcd := rfl
@[simp] theorem State.setDir_fab (s : State) (b r : Nat) (f : DirEntry → DirEntry) : (s.setDir b r f).fab = s.fab := rfl
@[simp] theorem State.setDir_repl (s : State) (b r : Nat) (f : DirEntry → DirEntry) : (s.setDir b r f).repl = s.repl := rfl
@[simp] theorem State.setDir_lanes (s : State) (b r : Nat) (f : DirEntry → DirEntry) : (s.setDir b r f).lanes = s.lanes := rfl
@[simp] theorem State.setDir_inj (s : State) (b r : Nat) (f : DirEntry → DirEntry) : (s.setDir b r f).inj = s.inj := rfl
@[simp] theorem State.setDir_ana (s : State) (b r : Nat) (f : DirEntry → DirEntry) : (s.setDir b r f).ana = s.ana := rfl
@[simp] theorem State.setDir_dio (s : State) (b r : Nat) (f : DirEntry → DirEntry) : (s.setDir b r f).dio = s.dio := rfl
@[simp] theorem State.setDir_disp (s : State) (b r : Nat) (f : DirEntry → DirEntry) : (s.setDir b r f).disp = s.disp := rfl
@[simp] theorem State.setDir_age (s : State) (b r : Nat) (f : DirEntry → DirEntry) : (s.setDir b r f).age = s.age := rfl
@[simp] theorem State.setDir_fresh (s : State) (b r : Nat) (f : DirEntry → DirEntry) : (s.setDir b r f).fresh = s.fresh := rfl

/-! ### `State.ringUsed` -/

@[simp] theorem State.ringUsed_pending (s : State) (q n : Nat) : (s.ringUsed q n).pending = s.pending := rfl
@[simp] theorem State.ringUsed_core (s : State) (q n : Nat) : (s.ringUsed q n).core = s.core := rfl
@[simp] theorem State.ringUsed_op (s : State) (q n : Nat) : (s.ringUsed q n).op = s.op := rfl
@[simp] theorem State.ringUsed_node (s : State) (q n : Nat) : (s.ringUsed q n).node = s.node := rfl
@[simp] theorem State.ringUsed_sec (s : State) (q n : Nat) : (s.ringUsed q n).sec = s.sec := rfl
@[simp] theorem State.ringUsed_tm (s : State) (q n : Nat) : (s.ringUsed q n).tm = s.tm := rfl
@[simp] theorem State.ringUsed_clk (s : State) (q n : Nat) : (s.ringUsed q n).clk = s.clk := rfl
@[simp] theorem State.ringUsed_pw (s : State) (q n : Nat) : (s.ringUsed q n).pw = s.pw := rfl
@[simp] theorem State.ringUsed_rcd (s : State) (q n : Nat) : (s.ringUsed q n).rcd = s.rcd := rfl
@[simp] theorem State.ringUsed_fab (s : State) (q n : Nat) : (s.ringUsed q n).fab = s.fab := rfl
@[simp] theorem State.ringUsed_repl (s : State) (q n : Nat) : (s.ringUsed q n).repl = s.repl := rfl
@[simp] theorem State.ringUsed_lanes (s : State) (q n : Nat) : (s.ringUsed q n).lanes = s.lanes := rfl
@[simp] theorem State.ringUsed_cfg (s : State) (q n : Nat) : (s.ringUsed q n).cfg = s.cfg := rfl
@[simp] theorem State.ringUsed_inj (s : State) (q n : Nat) : (s.ringUsed q n).inj = s.inj := rfl
@[simp] theorem State.ringUsed_ana (s : State) (q n : Nat) : (s.ringUsed q n).ana = s.ana := rfl
@[simp] theorem State.ringUsed_dio (s : State) (q n : Nat) : (s.ringUsed q n).dio = s.dio := rfl
@[simp] theorem State.ringUsed_disp (s : State) (q n : Nat) : (s.ringUsed q n).disp = s.disp := rfl
@[simp] theorem State.ringUsed_age (s : State) (q n : Nat) : (s.ringUsed q n).age = s.age := rfl
@[simp] theorem State.ringUsed_fresh (s : State) (q n : Nat) : (s.ringUsed q n).fresh = s.fresh := rfl

/-! ### `State.ringDrop` -/

@[simp] theorem State.ringDrop_pending (s : State) (q : Nat) : (s.ringDrop q).pending = s.pending := rfl
@[simp] theorem State.ringDrop_core (s : State) (q : Nat) : (s.ringDrop q).core = s.core := rfl
@[simp] theorem State.ringDrop_op (s : State) (q : Nat) : (s.ringDrop q).op = s.op := rfl
@[simp] theorem State.ringDrop_node (s : State) (q : Nat) : (s.ringDrop q).node = s.node := rfl
@[simp] theorem State.ringDrop_sec (s : State) (q : Nat) : (s.ringDrop q).sec = s.sec := rfl
@[simp] theorem State.ringDrop_tm (s : State) (q : Nat) : (s.ringDrop q).tm = s.tm := rfl
@[simp] theorem State.ringDrop_clk (s : State) (q : Nat) : (s.ringDrop q).clk = s.clk := rfl
@[simp] theorem State.ringDrop_pw (s : State) (q : Nat) : (s.ringDrop q).pw = s.pw := rfl
@[simp] theorem State.ringDrop_rcd (s : State) (q : Nat) : (s.ringDrop q).rcd = s.rcd := rfl
@[simp] theorem State.ringDrop_fab (s : State) (q : Nat) : (s.ringDrop q).fab = s.fab := rfl
@[simp] theorem State.ringDrop_repl (s : State) (q : Nat) : (s.ringDrop q).repl = s.repl := rfl
@[simp] theorem State.ringDrop_lanes (s : State) (q : Nat) : (s.ringDrop q).lanes = s.lanes := rfl
@[simp] theorem State.ringDrop_cfg (s : State) (q : Nat) : (s.ringDrop q).cfg = s.cfg := rfl
@[simp] theorem State.ringDrop_inj (s : State) (q : Nat) : (s.ringDrop q).inj = s.inj := rfl
@[simp] theorem State.ringDrop_ana (s : State) (q : Nat) : (s.ringDrop q).ana = s.ana := rfl
@[simp] theorem State.ringDrop_dio (s : State) (q : Nat) : (s.ringDrop q).dio = s.dio := rfl
@[simp] theorem State.ringDrop_disp (s : State) (q : Nat) : (s.ringDrop q).disp = s.disp := rfl
@[simp] theorem State.ringDrop_age (s : State) (q : Nat) : (s.ringDrop q).age = s.age := rfl
@[simp] theorem State.ringDrop_fresh (s : State) (q : Nat) : (s.ringDrop q).fresh = s.fresh := rfl

/-! ### `State.pushOut` -/

@[simp] theorem State.pushOut_pending (s : State) (p : Nat) (o : OutPkt) : (s.pushOut p o).pending = s.pending := rfl
@[simp] theorem State.pushOut_core (s : State) (p : Nat) (o : OutPkt) : (s.pushOut p o).core = s.core := rfl
@[simp] theorem State.pushOut_op (s : State) (p : Nat) (o : OutPkt) : (s.pushOut p o).op = s.op := rfl
@[simp] theorem State.pushOut_node (s : State) (p : Nat) (o : OutPkt) : (s.pushOut p o).node = s.node := rfl
@[simp] theorem State.pushOut_sec (s : State) (p : Nat) (o : OutPkt) : (s.pushOut p o).sec = s.sec := rfl
@[simp] theorem State.pushOut_tm (s : State) (p : Nat) (o : OutPkt) : (s.pushOut p o).tm = s.tm := rfl
@[simp] theorem State.pushOut_clk (s : State) (p : Nat) (o : OutPkt) : (s.pushOut p o).clk = s.clk := rfl
@[simp] theorem State.pushOut_pw (s : State) (p : Nat) (o : OutPkt) : (s.pushOut p o).pw = s.pw := rfl
@[simp] theorem State.pushOut_rcd (s : State) (p : Nat) (o : OutPkt) : (s.pushOut p o).rcd = s.rcd := rfl
@[simp] theorem State.pushOut_fab (s : State) (p : Nat) (o : OutPkt) : (s.pushOut p o).fab = s.fab := rfl
@[simp] theorem State.pushOut_repl (s : State) (p : Nat) (o : OutPkt) : (s.pushOut p o).repl = s.repl := rfl
@[simp] theorem State.pushOut_lanes (s : State) (p : Nat) (o : OutPkt) : (s.pushOut p o).lanes = s.lanes := rfl
@[simp] theorem State.pushOut_cfg (s : State) (p : Nat) (o : OutPkt) : (s.pushOut p o).cfg = s.cfg := rfl
@[simp] theorem State.pushOut_inj (s : State) (p : Nat) (o : OutPkt) : (s.pushOut p o).inj = s.inj := rfl
@[simp] theorem State.pushOut_ana (s : State) (p : Nat) (o : OutPkt) : (s.pushOut p o).ana = s.ana := rfl
@[simp] theorem State.pushOut_dio (s : State) (p : Nat) (o : OutPkt) : (s.pushOut p o).dio = s.dio := rfl
@[simp] theorem State.pushOut_disp (s : State) (p : Nat) (o : OutPkt) : (s.pushOut p o).disp = s.disp := rfl
@[simp] theorem State.pushOut_age (s : State) (p : Nat) (o : OutPkt) : (s.pushOut p o).age = s.age := rfl
@[simp] theorem State.pushOut_fresh (s : State) (p : Nat) (o : OutPkt) : (s.pushOut p o).fresh = s.fresh := rfl

/-! ### `State.storeReply` -/

@[simp] theorem State.storeReply_pending (s : State) (c : Cmd) (p : Bytes) : (s.storeReply c p).pending = s.pending := rfl
@[simp] theorem State.storeReply_core (s : State) (c : Cmd) (p : Bytes) : (s.storeReply c p).core = s.core := rfl
@[simp] theorem State.storeReply_op (s : State) (c : Cmd) (p : Bytes) : (s.storeReply c p).op = s.op := rfl
@[simp] theorem State.storeReply_node (s : State) (c : Cmd) (p : Bytes) : (s.storeReply c p).node = s.node := rfl
@[simp] theorem State.storeReply_sec (s : State) (c : Cmd) (p : Bytes) : (s.storeReply c p).sec = s.sec := rfl
@[simp] theorem State.storeReply_tm (s : State) (c : Cmd) (p : Bytes) : (s.storeReply c p).tm = s.tm := rfl
@[simp] theorem State.storeReply_clk (s : State) (c : Cmd) (p : Bytes) : (s.storeReply c p).clk = s.clk := rfl
@[simp] theorem State.storeReply_pw (s : State) (c : Cmd) (p : Bytes) : (s.storeReply c p).pw = s.pw := rfl
@[simp] theorem State.storeReply_rcd (s : State) (c : Cmd) (p : Bytes) : (s.storeReply c p).rcd = s.rcd := rfl
@[simp] theorem State.storeReply_fab (s : State) (c : Cmd) (p : Bytes) : (s.storeReply c p).fab = s.fab := rfl
@[simp] theorem State.storeReply_repl (s : State) (c : Cmd) (p : Bytes) : (s.storeReply c p).repl = s.repl := rfl
@[simp] theorem State.storeReply_lanes (s : State) (c : Cmd) (p : Bytes) : (s.storeReply c p).lanes = s.lanes := rfl
@[simp] theorem State.storeReply_cfg (s : State) (c : Cmd) (p : Bytes) : (s.storeReply c p).cfg = s.cfg := rfl
@[simp] theorem State.storeReply_inj (s : State) (c : Cmd) (p : Bytes) : (s.storeReply c p).inj = s.inj := rfl
@[simp] theorem State.storeReply_ana (s : State) (c : Cmd) (p : Bytes) : (s.storeReply c p).ana = s.ana := rfl
@[simp] theorem State.storeReply_dio (s : State) (c : Cmd) (p : Bytes) : (s.storeReply c p).dio = s.dio := rfl
@[simp] theorem State.storeReply_disp (s : State) (c : Cmd) (p : Bytes) : (s.storeReply c p).disp = s.disp := rfl
@[simp] theorem State.storeReply_age (s : State) (c : Cmd) (p : Bytes) : (s.storeReply c p).age = s.age := rfl
@[simp] theorem State.storeReply_fresh (s : State) (c : Cmd) (p : Bytes) : (s.storeReply c p).fresh = s.fresh := rfl

/-! ### `State.replyF` -/

@[simp] theorem State.replyF_pending (s : State) (c : Cmd) (o st : Nat) (d : Bytes) (f : Nat) : (s.replyF c o st d f).pending = s.pending := rfl
@[simp] theorem State.replyF_core (s : State) (c : Cmd) (o st : Nat) (d : Bytes) (f : Nat) : (s.replyF c o st d f).core = s.core := rfl
@[simp] theorem State.replyF_op (s : State) (c : Cmd) (o st : Nat) (d : Bytes) (f : Nat) : (s.replyF c o st d f).op = s.op := rfl
@[simp] theorem State.replyF_node (s : State) (c : Cmd) (o st : Nat) (d : Bytes) (f : Nat) : (s.replyF c o st d f).node = s.node := rfl
@[simp] theorem State.replyF_sec (s : State) (c : Cmd) (o st : Nat) (d : Bytes) (f : Nat) : (s.replyF c o st d f).sec = s.sec := rfl
@[simp] theorem State.replyF_tm (s : State) (c : Cmd) (o st : Nat) (d : Bytes) (f : Nat) : (s.replyF c o st d f).tm = s.tm := rfl
@[simp] theorem State.replyF_clk (s : State) (c : Cmd) (o st : Nat) (d : Bytes) (f : Nat) : (s.replyF c o st d f).clk = s.clk := rfl
@[simp] theorem State.replyF_pw (s : State) (c : Cmd) (o st : Nat) (d : Bytes) (f : Nat) : (s.replyF c o st d f).pw = s.pw := rfl
@[simp] theorem State.replyF_rcd (s : State) (c : Cmd) (o st : Nat) (d : Bytes) (f : Nat) : (s.replyF c o st d f).rcd = s.rcd := rfl
@[simp] theorem State.replyF_fab (s : State) (c : Cmd) (o st : Nat) (d : Bytes) (f : Nat) : (s.replyF c o st d f).fab = s.fab := rfl
@[simp] theorem State.replyF_repl (s : State) (c : Cmd) (o st : Nat) (d : Bytes) (f : Nat) : (s.replyF c o st d f).repl = s.repl := rfl
@[simp] theorem State.replyF_lanes (s : State) (c : Cmd) (o st : Nat) (d : Bytes) (f : Nat) : (s.replyF c o st d f).lanes = s.lanes := rfl
@[simp] theorem State.replyF_cfg (s : State) (c : Cmd) (o st : Nat) (d : Bytes) (f : Nat) : (s.replyF c o st d f).cfg = s.cfg := rfl
@[simp] theorem State.replyF_inj (s : State) (c : Cmd) (o st : Nat) (d : Bytes) (f : Nat) : (s.replyF c o st d f).inj = s.inj := rfl
@[simp] theorem State.replyF_ana (s : State) (c : Cmd) (o st : Nat) (d : Bytes) (f : Nat) : (s.replyF c o st d f).ana = s.ana := rfl
@[simp] theorem State.replyF_dio (s : State) (c : Cmd) (o st : Nat) (d : Bytes) (f : Nat) : (s.replyF c o st d f).dio = s.dio := rfl
@[simp] theorem State.replyF_disp (s : State) (c : Cmd) (o st : Nat) (d : Bytes) (f : Nat) : (s.replyF c o st d f).disp = s.disp := rfl
@[simp] theorem State.replyF_age (s : State) (c : Cmd) (o st : Nat) (d : Bytes) (f : Nat) : (s.replyF c o st d f).age = s.age := rfl
@[simp] theorem State.replyF_fresh (s : State) (c : Cmd) (o st : Nat) (d : Bytes) (f : Nat) : (s.replyF c o st d f).fresh = s.fresh := rfl

/-! ### `State.enqueue` -/

@[simp] theorem State.enqueue_pending (s : State) (i : QItem) : (s.enqueue i).pending = s.pending := by unfold State.enqueue; split <;> rfl
@[simp] theorem State.enqueue_core (s : State) (i : QItem) : (s.enqueue i).core = s.core := by unfold State.enqueue; split <;> rfl
@[simp] theorem State.enqueue_op (s : State) (i : QItem) : (s.enqueue i).op = s.op := by unfold State.enqueue; split <;> rfl
@[simp] theorem State.enqueue_node (s : State) (i : QItem) : (s.enqueue i).node = s.node := by unfold State.enqueue; split <;> rfl
@[simp] theorem State.enqueue_ports (s : State) (i : QItem) : (s.enqueue i).ports = s.ports := by unfold State.enqueue; split <;> rfl
@[simp] theorem State.enqueue_sec (s : State) (i : QItem) : (s.enqueue i).sec = s.sec := by unfold State.enqueue; split <;> rfl
@[simp] theorem State.enqueue_tm (s : State) (i : QItem) : (s.enqueue i).tm = s.tm := by unfold State.enqueue; split <;> rfl
@[simp] theorem State.enqueue_clk (s : State) (i : QItem) : (s.enqueue i).clk = s.clk := by unfold State.enqueue; split <;> rfl
@[simp] theorem State.enqueue_pw (s : State) (i : QItem) : (s.enqueue i).pw = s.pw := by unfold State.enqueue; split <;> rfl
@[simp] theorem State.enqueue_fab (s : State) (i : QItem) : (s.enqueue i).fab = s.fab := by unfold State.enqueue; split <;> rfl
@[simp] theorem State.enqueue_repl (s : State) (i : QItem) : (s.enqueue i).repl = s.repl := by unfold State.enqueue; split <;> rfl
@[simp] theorem State.enqueue_lanes (s : State) (i : QItem) : (s.enqueue i).lanes = s.lanes := by unfold State.enqueue; split <;> rfl
@[simp] theorem State.enqueue_cfg (s : State) (i : QItem) : (s.enqueue i).cfg = s.cfg := by unfold State.enqueue; split <;> rfl
@[simp] theorem State.enqueue_inj (s : State) (i : QItem) : (s.enqueue i).inj = s.inj := by unfold State.enqueue; split <;> rfl
@[simp] theorem State.enqueue_ana (s : State) (i : QItem) : (s.enqueue i).ana = s.ana := by unfold State.enqueue; split <;> rfl
@[simp] theorem State.enqueue_dio (s : State) (i : QItem) : (s.enqueue i).dio = s.dio := by unfold State.enqueue; split <;> rfl
@[simp] theorem State.enqueue_disp (s : State) (i : QItem) : (s.enqueue i).disp = s.disp := by unfold State.enqueue; split <;> rfl
@[simp] theorem State.enqueue_age (s : State) (i : QItem) : (s.enqueue i).age = s.age := by unfold State.enqueue; split <;> rfl
@[simp] theorem State.enqueue_fresh (s : State) (i : QItem) : (s.enqueue i).fresh = s.fresh := by unfold State.enqueue; split <;> rfl

/-! ### `State.pushNotif` -/

@[simp] theorem State.pushNotif_pending (s : State) (n : Notif) : (s.pushNotif n).pending = s.pending := by unfold State.pushNotif; dsimp only; split <;> rfl
@[simp] theorem State.pushNotif_core (s : State) (n : Notif) : (s.pushNotif n).core = s.core := by unfold State.pushNotif; dsimp only; split <;> rfl
@[simp] theorem State.pushNotif_op (s : State) (n : Notif) : (s.pushNotif n).op = s.op := by unfold State.pushNotif; dsimp only; split <;> rfl
@[simp] theorem State.pushNotif_node (s : State) (n : Notif) : (s.pushNotif n).node = s.node := by unfold State.pushNotif; dsimp only; split <;> rfl
@[simp] theorem State.pushNotif_sec (s : State) (n : Notif) : (s.pushNotif n).sec = s.sec := by unfold State.pushNotif; dsimp only; split <;> rfl
@[simp] theorem State.pushNotif_tm (s : State) (n : Notif) : (s.pushNotif n).tm = s.tm := by unfold State.pushNotif; dsimp only; split <;> rfl
@[simp] theorem State.pushNotif_clk (s : State) (n : Notif) : (s.pushNotif n).clk = s.clk := by unfold State.pushNotif; dsimp only; split <;> rfl
@[simp] theorem State.pushNotif_pw (s : State) (n : Notif) : (s.pushNotif n).pw = s.pw := by unfold State.pushNotif; dsimp only; split <;> rfl
@[simp] theorem State.pushNotif_rcd (s : State) (n : Notif) : (s.pushNotif n).rcd = s.rcd := by unfold State.pushNotif; dsimp only; split <;> rfl
@[simp] theorem State.pushNotif_fab (s : State) (n : Notif) : (s.pushNotif n).fab = s.fab := by unfold State.pushNotif; dsimp only; split <;> rfl
@[simp] theorem State.pushNotif_repl (s : State) (n : Notif) : (s.pushNotif n).repl = s.repl := by unfold State.pushNotif; dsimp only; split <;> rfl
@[simp] theorem State.pushNotif_lanes (s : State) (n : Notif) : (s.pushNotif n).lanes = s.lanes := by unfold State.pushNotif; dsimp only; split <;> rfl
@[simp] theorem State.pushNotif_cfg (s : State) (n : Notif) : (s.pushNotif n).cfg = s.cfg := by unfold State.pushNotif; dsimp only; split <;> rfl
@[simp] theorem State.pushNotif_inj (s : State) (n : Notif) : (s.pushNotif n).inj = s.inj := by unfold State.pushNotif; dsimp only; split <;> rfl
@[simp] theorem State.pushNotif_ana (s : State) (n : Notif) : (s.pushNotif n).ana = s.ana := by unfold State.pushNotif; dsimp only; split <;> rfl
@[simp] theorem State.pushNotif_dio (s : State) (n : Notif) : (s.pushNotif n).dio = s.dio := by unfold State.pushNotif; dsimp only; split <;> rfl
@[simp] theorem State.pushNotif_disp (s : State) (n : Notif) : (s.pushNotif n).disp = s.disp := by unfold State.pushNotif; dsimp only; split <;> rfl
@[simp] theorem State.pushNotif_age (s : State) (n : Notif) : (s.pushNotif n).age = s.age := by unfold State.pushNotif; dsimp only; split <;> rfl
@[simp] theorem State.pushNotif_fresh (s : State) (n : Notif) : (s.pushNotif n).fresh = s.fresh := by unfold State.pushNotif; dsimp only; split <;> rfl

/-! ### `State.placeNotif` -/

@[simp] theorem State.placeNotif_pending (s : State) (n : Notif) : (s.placeNotif n).pending = s.pending := by unfold State.placeNotif; split <;> simp
@[simp] theorem State.placeNotif_core (s : State) (n : Notif) : (s.placeNotif n).core = s.core := by unfold State.placeNotif; split <;> simp
@[simp] theorem State.placeNotif_op (s : State) (n : Notif) : (s.placeNotif n).op = s.op := by unfold State.placeNotif; split <;> simp
@[simp] theorem State.placeNotif_node (s : State) (n : Notif) : (s.placeNotif n).node = s.node := by unfold State.placeNotif; split <;> simp
@[simp] theorem State.placeNotif_sec (s : State) (n : Notif) : (s.placeNotif n).sec = s.sec := by unfold State.placeNotif; split <;> simp
@[simp] theorem State.placeNotif_tm (s : State) (n : Notif) : (s.placeNotif n).tm = s.tm := by unfold State.placeNotif; split <;> simp
@[simp] theorem State.placeNotif_clk (s : State) (n : Notif) : (s.placeNotif n).clk = s.clk := by unfold State.placeNotif; split <;> simp
@[simp] theorem State.placeNotif_pw (s : State) (n : Notif) : (s.placeNotif n).pw = s.pw := by unfold State.placeNotif; split <;> simp
@[simp] theorem State.placeNotif_rcd (s : State) (n : Notif) : (s.placeNotif n).rcd = s.rcd := by unfold State.placeNotif; split <;> simp
@[simp] theorem State.placeNotif_fab (s : State) (n : Notif) : (s.placeNotif n).fab = s.fab := by unfold State.placeNotif; split <;> simp
@[simp] theorem State.placeNotif_repl (s : State) (n : Notif) : (s.placeNotif n).repl = s.repl := by unfold State.placeNotif; split <;> simp
@[simp] theorem State.placeNotif_lanes (s : State) (n : Notif) : (s.placeNotif n).lanes = s.lanes := by unfold State.placeNotif; split <;> simp
@[simp] theorem State.placeNotif_cfg (s : State) (n : Notif) : (s.placeNotif n).cfg = s.cfg := by unfold State.placeNotif; split <;> simp
@[simp] theorem State.placeNotif_inj (s : State) (n : Notif) : (s.placeNotif n).inj = s.inj := by unfold State.placeNotif; split <;> simp
@[simp] theorem State.placeNotif_ana (s : State) (n : Notif) : (s.placeNotif n).ana = s.ana := by unfold State.placeNotif; split <;> simp
@[simp] theorem State.placeNotif_dio (s : State) (n : Notif) : (s.placeNotif n).dio = s.dio := by unfold State.placeNotif; split <;> simp
@[simp] theorem State.placeNotif_disp (s : State) (n : Notif) : (s.placeNotif n).disp = s.disp := by unfold State.placeNotif; split <;> simp
@[simp] theorem State.placeNotif_age (s : State) (n : Notif) : (s.placeNotif n).age = s.age := by unfold State.placeNotif; split <;> simp
@[simp] theorem State.placeNotif_fresh (s : State) (n : Notif) : (s.placeNotif n).fresh = s.fresh := by unfold State.placeNotif; split <;> simp

/-! ### `State.notify` -/

@[simp] theorem State.notify_pending (s : State) (o : Nat) (b : Bytes) : (s.notify o b).pending = s.pending := by unfold State.notify; split <;> simp
@[simp] theorem State.notify_core (s : State) (o : Nat) (b : Bytes) : (s.notify o b).core = s.core := by unfold State.notify; split <;> simp
@[simp] theorem State.notify_op (s : State) (o : Nat) (b : Bytes) : (s.notify o b).op = s.op := by unfold State.notify; split <;> simp
@[simp] theorem State.notify_node (s : State) (o : Nat) (b : Bytes) : (s.notify o b).node = s.node := by unfold State.notify; split <;> simp
@[simp] theorem State.notify_sec (s : State) (o : Nat) (b : Bytes) : (s.notify o b).sec = s.sec := by unfold State.notify; split <;> simp
@[simp] theorem State.notify_tm (s : State) (o : Nat) (b : Bytes) : (s.notify o b).tm = s.tm := by unfold State.notify; split <;> simp
@[simp] theorem State.notify_clk (s : State) (o : Nat) (b : Bytes) : (s.notify o b).clk = s.clk := by unfold State.notify; split <;> simp
@[simp] theorem State.notify_pw (s : State) (o : Nat) (b : Bytes) : (s.notify o b).pw = s.pw := by unfold State.notify; split <;> simp
@[simp] theorem State.notify_rcd (s : State) (o : Nat) (b : Bytes) : (s.notify o b).rcd = s.rcd := by unfold State.notify; split <;> simp
@[simp] theorem State.notify_fab (s : State) (o : Nat) (b : Bytes) : (s.notify o b).fab = s.fab := by unfold State.notify; split <;> simp
@[simp] theorem State.notify_repl (s : State) (o : Nat) (b : Bytes) : (s.notify o b).repl = s.repl := by unfold State.notify; split <;> simp
@[simp] theorem State.notify_lanes (s : State) (o : Nat) (b : Bytes) : (s.notify o b).lanes = s.lanes := by unfold State.notify; split <;> simp
@[simp] theorem State.notify_cfg (s : State) (o : Nat) (b : Bytes) : (s.notify o b).cfg = s.cfg := by unfold State.notify; split <;> simp
@[simp] theorem State.notify_inj (s : State) (o : Nat) (b : Bytes) : (s.notify o b).inj = s.inj := by unfold State.notify; split <;> simp
@[simp] theorem State.notify_ana (s : State) (o : Nat) (b : Bytes) : (s.notify o b).ana = s.ana := by unfold State.notify; split <;> simp
@[simp] theorem State.notify_dio (s : State) (o : Nat) (b : Bytes) : (s.notify o b).dio = s.dio := by unfold State.notify; split <;> simp
@[simp] theorem State.notify_disp (s : State) (o : Nat) (b : Bytes) : (s.notify o b).disp = s.disp := by unfold State.notify; split <;> simp
@[simp] theorem State.notify_age (s : State) (o : Nat) (b : Bytes) : (s.notify o b).age = s.age := by unfold State.notify; split <;> simp
@[simp] theorem State.notify_fresh (s : State) (o : Nat) (b : Bytes) : (s.notify o b).fresh = s.fresh := by unfold State.notify; split <;> simp

/-! ### `State.setOp` -/

@[simp] theorem State.setOp_pending (s : State) (o : OpState) : (s.setOp o).pending = s.pending := by unfold State.setOp; dsimp only; split <;> simp
@[simp] theorem State.setOp_core (s : State) (o : OpState) : (s.setOp o).core = s.core := by unfold State.setOp; dsimp only; split <;> simp
@[simp] theorem State.setOp_node (s : State) (o : OpState) : (s.setOp o).node = s.node := by unfold State.setOp; dsimp only; split <;> simp
@[simp] theorem State.setOp_sec (s : State) (o : OpState) : (s.setOp o).sec = s.sec := by unfold State.setOp; dsimp only; split <;> simp
@[simp] theorem State.setOp_tm (s : State) (o : OpState) : (s.setOp o).tm = s.tm := by unfold State.setOp; dsimp only; split <;> simp
@[simp] theorem State.setOp_clk (s : State) (o : OpState) : (s.setOp o).clk = s.clk := by unfold State.setOp; dsimp only; split <;> simp
@[simp] theorem State.setOp_pw (s : State) (o : OpState) : (s.setOp o).pw = s.pw := by unfold State.setOp; dsimp only; split <;> simp
@[simp] theorem State.setOp_rcd (s : State) (o : OpState) : (s.setOp o).rcd = s.rcd := by unfold State.setOp; dsimp only; split <;> simp
@[simp] theorem State.setOp_fab (s : State) (o : OpState) : (s.setOp o).fab = s.fab := by unfold State.setOp; dsimp only; split <;> simp
@[simp] theorem State.setOp_repl (s : State) (o : OpState) : (s.setOp o).repl = s.repl := by unfold State.setOp; dsimp only; split <;> simp
@[simp] theorem State.setOp_lanes (s : State) (o : OpState) : (s.setOp o).lanes = s.lanes := by unfold State.setOp; dsimp only; split <;> simp
@[simp] theorem State.setOp_cfg (s : State) (o : OpState) : (s.setOp o).cfg = s.cfg := by unfold State.setOp; dsimp only; split <;> simp
@[simp] theorem State.setOp_inj (s : State) (o : OpState) : (s.setOp o).inj = s.inj := by unfold State.setOp; dsimp only; split <;> simp
@[simp] theorem State.setOp_ana (s : State) (o : OpState) : (s.setOp o).ana = s.ana := by unfold State.setOp; dsimp only; split <;> simp
@[simp] theorem State.setOp_dio (s : State) (o : OpState) : (s.setOp o).dio = s.dio := by unfold State.setOp; dsimp only; split <;> simp
@[simp] theorem State.setOp_disp (s : State) (o : OpState) : (s.setOp o).disp = s.disp := by unfold State.setOp; dsimp only; split <;> simp
@[simp] theorem State.setOp_age (s : State) (o : OpState) : (s.setOp o).age = s.age := by unfold State.setOp; dsimp only; split <;> simp
@[simp] theorem State.setOp_fresh (s : State) (o : OpState) : (s.setOp o).fresh = s.fresh := by unfold State.setOp; dsimp only; split <;> simp

/-! ### `State.pushFrame` -/

@[simp] theorem State.pushFrame_pending (s : State) (c : Nat) (t : TxFrame) : (s.pushFrame c t).pending = s.pending := rfl
@[simp] theorem State.pushFrame_core (s : State) (c : Nat) (t : TxFrame) : (s.pushFrame c t).core = s.core := rfl
@[simp] theorem State.pushFrame_op (s : State) (c : Nat) (t : TxFrame) : (s.pushFrame c t).op = s.op := rfl
@[simp] theorem State.pushFrame_node (s : State) (c : Nat) (t : TxFrame) : (s.pushFrame c t).node = s.node := rfl
@[simp] theorem State.pushFrame_sec (s : State) (c : Nat) (t : TxFrame) : (s.pushFrame c t).sec = s.sec := rfl
@[simp] theorem State.pushFrame_tm (s : State) (c : Nat) (t : TxFrame) : (s.pushFrame c t).tm = s.tm := rfl
@[simp] theorem State.pushFrame_clk (s : State) (c : Nat) (t : TxFrame) : (s.pushFrame c t).clk = s.clk := rfl
@[simp] theorem State.pushFrame_pw (s : State) (c : Nat) (t : TxFrame) : (s.pushFrame c t).pw = s.pw := rfl
@[simp] theorem State.pushFrame_rcd (s : State) (c : Nat) (t : TxFrame) : (s.pushFrame c t).rcd = s.rcd := rfl
@[simp] theorem State.pushFrame_repl (s : State) (c : Nat) (t : TxFrame) : (s.pushFrame c t).repl = s.repl := rfl
@[simp] theorem State.pushFrame_lanes (s : State) (c : Nat) (t : TxFrame) : (s.pushFrame c t).lanes = s.lanes := rfl
@[simp] theorem State.pushFrame_cfg (s : State) (c : Nat) (t : TxFrame) : (s.pushFrame c t).cfg = s.cfg := rfl
@[simp] theorem State.pushFrame_inj (s : State) (c : Nat) (t : TxFrame) : (s.pushFrame c t).inj = s.inj := rfl
@[simp] theorem State.pushFrame_ana (s : State) (c : Nat) (t : TxFrame) : (s.pushFrame c t).ana = s.ana := rfl
@[simp] theorem State.pushFrame_dio (s : State) (c : Nat) (t : TxFrame) : (s.pushFrame c t).dio = s.dio := rfl
@[simp] theorem State.pushFrame_disp (s : State) (c : Nat) (t : TxFrame) : (s.pushFrame c t).disp = s.disp := rfl
@[simp] theorem State.pushFrame_age (s : State) (c : Nat) (t : TxFrame) : (s.pushFrame c t).age = s.age := rfl
@[simp] theorem State.pushFrame_fresh (s : State) (c : Nat) (t : TxFrame) : (s.pushFrame c t).fresh = s.fresh := rfl

/-! ### `State.originate` -/

@[simp] theorem State.originate_pending (s : State) (ty d : Nat) (b : Bytes) (tr : Bool) : (s.originate ty d b tr).pending = s.pending := by unfold State.originate; dsimp only; split <;> rfl
@[simp] theorem State.originate_core (s : State) (ty d : Nat) (b : Bytes) (tr : Bool) : (s.originate ty d b tr).core = s.core := by unfold State.originate; dsimp only; split <;> rfl
@[simp] theorem State.originate_op (s : State) (ty d : Nat) (b : Bytes) (tr : Bool) : (s.originate ty d b tr).op = s.op := by unfold State.originate; dsimp only; split <;> rfl
@[simp] theorem State.originate_node (s : State) (ty d : Nat) (b : Bytes) (tr : Bool) : (s.originate ty d b tr).node = s.node := by unfold State.originate; dsimp only; split <;> rfl
@[simp] theorem State.originate_sec (s : State) (ty d : Nat) (b : Bytes) (tr : Bool) : (s.originate ty d b tr).sec = s.sec := by unfold State.originate; dsimp only; split <;> rfl
@[simp] theorem State.originate_tm (s : State) (ty d : Nat) (b : Bytes) (tr : Bool) : (s.originate ty d b tr).tm = s.tm := by unfold State.originate; dsimp only; split <;> rfl
@[simp] theorem State.originate_clk (s : State) (ty d : Nat) (b : Bytes) (tr : Bool) : (s.originate ty d b tr).clk = s.clk := by unfold State.originate; dsimp only; split <;> rfl
@[simp] theorem State.originate_pw (s : State) (ty d : Nat) (b : Bytes) (tr : Bool) : (s.originate ty d b tr).pw = s.pw := by unfold State.originate; dsimp only; split <;> rfl
@[simp] theorem State.originate_rcd (s : State) (ty d : Nat) (b : Bytes) (tr : Bool) : (s.originate ty d b tr).rcd = s.rcd := by unfold State.originate; dsimp only; split <;> rfl
@[simp] theorem State.originate_repl (s : State) (ty d : Nat) (b : Bytes) (tr : Bool) : (s.originate ty d b tr).repl = s.repl := by unfold State.originate; dsimp only; split <;> rfl
@[simp] theorem State.originate_lanes (s : State) (ty d : Nat) (b : Bytes) (tr : Bool) : (s.originate ty d b tr).lanes = s.lanes := by unfold State.originate; dsimp only; split <;> rfl
@[simp] theorem State.originate_cfg (s : State) (ty d : Nat) (b : Bytes) (tr : Bool) : (s.originate ty d b tr).cfg = s.cfg := by unfold State.originate; dsimp only; split <;> rfl
@[simp] theorem State.originate_inj (s : State) (ty d : Nat) (b : Bytes) (tr : Bool) : (s.originate ty d b tr).inj = s.inj := by unfold State.originate; dsimp only; split <;> rfl
@[simp] theorem State.originate_ana (s : State) (ty d : Nat) (b : Bytes) (tr : Bool) : (s.originate ty d b tr).ana = s.ana := by unfold State.originate; dsimp only; split <;> rfl
@[simp] theorem State.originate_dio (s : State) (ty d : Nat) (b : Bytes) (tr : Bool) : (s.originate ty d b tr).dio = s.dio := by unfold State.originate; dsimp only; split <;> rfl
@[simp] theorem State.originate_disp (s : State) (ty d : Nat) (b : Bytes) (tr : Bool) : (s.originate ty d b tr).disp = s.disp := by unfold State.originate; dsimp only; split <;> rfl
@[simp] theorem State.originate_age (s : State) (ty d : Nat) (b : Bytes) (tr : Bool) : (s.originate ty d b tr).age = s.age := by unfold State.originate; dsimp only; split <;> rfl
@[simp] theorem State.originate_fresh (s : State) (ty d : Nat) (b : Bytes) (tr : Bool) : (s.originate ty d b tr).fresh = s.fresh := by unfold State.originate; dsimp only; split <;> rfl

/-! ### `State.originateTrunk` -/

@[simp] theorem State.originateTrunk_pending (s : State) (ty : Nat) (b : Bytes) : (s.originateTrunk ty b).pending = s.pending := rfl
@[simp] theorem State.originateTrunk_core (s : State) (ty : Nat) (b : Bytes) : (s.originateTrunk ty b).core = s.core := rfl
@[simp] theorem State.originateTrunk_op (s : State) (ty : Nat) (b : Bytes) : (s.originateTrunk ty b).op = s.op := rfl
@[simp] theorem State.originateTrunk_node (s : State) (ty : Nat) (b : Bytes) : (s.originateTrunk ty b).node = s.node := rfl
@[simp] theorem State.originateTrunk_sec (s : State) (ty : Nat) (b : Bytes) : (s.originateTrunk ty b).sec = s.sec := rfl
@[simp] theorem State.originateTrunk_tm (s : State) (ty : Nat) (b : Bytes) : (s.originateTrunk ty b).tm = s.tm := rfl
@[simp] theorem State.originateTrunk_clk (s : State) (ty : Nat) (b : Bytes) : (s.originateTrunk ty b).clk = s.clk := rfl
@[simp] theorem State.originateTrunk_pw (s : State) (ty : Nat) (b : Bytes) : (s.originateTrunk ty b).pw = s.pw := rfl
@[simp] theorem State.originateTrunk_rcd (s : State) (ty : Nat) (b : Bytes) : (s.originateTrunk ty b).rcd = s.rcd := rfl
@[simp] theorem State.originateTrunk_repl (s : State) (ty : Nat) (b : Bytes) : (s.originateTrunk ty b).repl = s.repl := rfl
@[simp] theorem State.originateTrunk_lanes (s : State) (ty : Nat) (b : Bytes) : (s.originateTrunk ty b).lanes = s.lanes := rfl
@[simp] theorem State.originateTrunk_cfg (s : State) (ty : Nat) (b : Bytes) : (s.originateTrunk ty b).cfg = s.cfg := rfl
@[simp] theorem State.originateTrunk_inj (s : State) (ty : Nat) (b : Bytes) : (s.originateTrunk ty b).inj = s.inj := rfl
@[simp] theorem State.originateTrunk_ana (s : State) (ty : Nat) (b : Bytes) : (s.originateTrunk ty b).ana = s.ana := rfl
@[simp] theorem State.originateTrunk_dio (s : State) (ty : Nat) (b : Bytes) : (s.originateTrunk ty b).dio = s.dio := rfl
@[simp] theorem State.originateTrunk_disp (s : State) (ty : Nat) (b : Bytes) : (s.originateTrunk ty b).disp = s.disp := rfl
@[simp] theorem State.originateTrunk_age (s : State) (ty : Nat) (b : Bytes) : (s.originateTrunk ty b).age = s.age := rfl
@[simp] theorem State.originateTrunk_fresh (s : State) (ty : Nat) (b : Bytes) : (s.originateTrunk ty b).fresh = s.fresh := rfl

/-! ### `State.sendLocal` -/

@[simp] theorem State.sendLocal_pending (s : State) (ty p : Nat) (b : Bytes) : (s.sendLocal ty p b).pending = s.pending := by unfold State.sendLocal; dsimp only; split <;> rfl
@[simp] theorem State.sendLocal_core (s : State) (ty p : Nat) (b : Bytes) : (s.sendLocal ty p b).core = s.core := by unfold State.sendLocal; dsimp only; split <;> rfl
@[simp] theorem State.sendLocal_op (s : State) (ty p : Nat) (b : Bytes) : (s.sendLocal ty p b).op = s.op := by unfold State.sendLocal; dsimp only; split <;> rfl
@[simp] theorem State.sendLocal_node (s : State) (ty p : Nat) (b : Bytes) : (s.sendLocal ty p b).node = s.node := by unfold State.sendLocal; dsimp only; split <;> rfl
@[simp] theorem State.sendLocal_sec (s : State) (ty p : Nat) (b : Bytes) : (s.sendLocal ty p b).sec = s.sec := by unfold State.sendLocal; dsimp only; split <;> rfl
@[simp] theorem State.sendLocal_tm (s : State) (ty p : Nat) (b : Bytes) : (s.sendLocal ty p b).tm = s.tm := by unfold State.sendLocal; dsimp only; split <;> rfl
@[simp] theorem State.sendLocal_clk (s : State) (ty p : Nat) (b : Bytes) : (s.sendLocal ty p b).clk = s.clk := by unfold State.sendLocal; dsimp only; split <;> rfl
@[simp] theorem State.sendLocal_pw (s : State) (ty p : Nat) (b : Bytes) : (s.sendLocal ty p b).pw = s.pw := by unfold State.sendLocal; dsimp only; split <;> rfl
@[simp] theorem State.sendLocal_rcd (s : State) (ty p : Nat) (b : Bytes) : (s.sendLocal ty p b).rcd = s.rcd := by unfold State.sendLocal; dsimp only; split <;> rfl
@[simp] theorem State.sendLocal_repl (s : State) (ty p : Nat) (b : Bytes) : (s.sendLocal ty p b).repl = s.repl := by unfold State.sendLocal; dsimp only; split <;> rfl
@[simp] theorem State.sendLocal_lanes (s : State) (ty p : Nat) (b : Bytes) : (s.sendLocal ty p b).lanes = s.lanes := by unfold State.sendLocal; dsimp only; split <;> rfl
@[simp] theorem State.sendLocal_cfg (s : State) (ty p : Nat) (b : Bytes) : (s.sendLocal ty p b).cfg = s.cfg := by unfold State.sendLocal; dsimp only; split <;> rfl
@[simp] theorem State.sendLocal_inj (s : State) (ty p : Nat) (b : Bytes) : (s.sendLocal ty p b).inj = s.inj := by unfold State.sendLocal; dsimp only; split <;> rfl
@[simp] theorem State.sendLocal_ana (s : State) (ty p : Nat) (b : Bytes) : (s.sendLocal ty p b).ana = s.ana := by unfold State.sendLocal; dsimp only; split <;> rfl
@[simp] theorem State.sendLocal_dio (s : State) (ty p : Nat) (b : Bytes) : (s.sendLocal ty p b).dio = s.dio := by unfold State.sendLocal; dsimp only; split <;> rfl
@[simp] theorem State.sendLocal_disp (s : State) (ty p : Nat) (b : Bytes) : (s.sendLocal ty p b).disp = s.disp := by unfold State.sendLocal; dsimp only; split <;> rfl
@[simp] theorem State.sendLocal_age (s : State) (ty p : Nat) (b : Bytes) : (s.sendLocal ty p b).age = s.age := by unfold State.sendLocal; dsimp only; split <;> rfl
@[simp] theorem State.sendLocal_fresh (s : State) (ty p : Nat) (b : Bytes) : (s.sendLocal ty p b).fresh = s.fresh := by unfold State.sendLocal; dsimp only; split <;> rfl

/-! ### `State.pushOut` at the ports -/

@[simp] theorem State.pushOut_ports_inRings (s : State) (p : Nat) (o : OutPkt) : (s.pushOut p o).ports.inRings = s.ports.inRings := rfl
@[simp] theorem State.pushOut_ports_reserve (s : State) (p : Nat) (o : OutPkt) : (s.pushOut p o).ports.reserve = s.ports.reserve := rfl
@[simp] theorem State.pushOut_ports_notifs (s : State) (p : Nat) (o : OutPkt) : (s.pushOut p o).ports.notifs = s.ports.notifs := rfl
@[simp] theorem State.pushOut_ports_subs (s : State) (p : Nat) (o : OutPkt) : (s.pushOut p o).ports.subs = s.ports.subs := rfl
@[simp] theorem State.pushOut_ports_turn (s : State) (p : Nat) (o : OutPkt) : (s.pushOut p o).ports.turn = s.ports.turn := rfl
@[simp] theorem State.pushOut_ports_relayTag (s : State) (p : Nat) (o : OutPkt) : (s.pushOut p o).ports.relayTag = s.ports.relayTag := rfl
@[simp] theorem State.pushOut_ports_relays (s : State) (p : Nat) (o : OutPkt) : (s.pushOut p o).ports.relays = s.ports.relays := rfl
@[simp] theorem State.pushOut_ports_asms (s : State) (p : Nat) (o : OutPkt) : (s.pushOut p o).ports.asms = s.ports.asms := rfl
@[simp] theorem State.pushOut_ports_asmDrops (s : State) (p : Nat) (o : OutPkt) : (s.pushOut p o).ports.asmDrops = s.ports.asmDrops := rfl
@[simp] theorem State.pushOut_ports_badMarker (s : State) (p : Nat) (o : OutPkt) : (s.pushOut p o).ports.badMarker = s.ports.badMarker := rfl
@[simp] theorem State.pushOut_ports_dgDrops (s : State) (p : Nat) (o : OutPkt) : (s.pushOut p o).ports.dgDrops = s.ports.dgDrops := rfl
@[simp] theorem State.pushOut_ports_svcTimeouts (s : State) (p : Nat) (o : OutPkt) : (s.pushOut p o).ports.svcTimeouts = s.ports.svcTimeouts := rfl
@[simp] theorem State.pushOut_ports_usb (s : State) (p : Nat) (o : OutPkt) : (s.pushOut p o).ports.usb = s.ports.usb := rfl
@[simp] theorem State.pushOut_ports_svcBuf (s : State) (p : Nat) (o : OutPkt) : (s.pushOut p o).ports.svcBuf = s.ports.svcBuf := rfl
@[simp] theorem State.pushOut_ports_svcLast (s : State) (p : Nat) (o : OutPkt) : (s.pushOut p o).ports.svcLast = s.ports.svcLast := rfl
@[simp] theorem State.pushOut_ports_links (s : State) (p : Nat) (o : OutPkt) : (s.pushOut p o).ports.links = s.ports.links := rfl
@[simp] theorem State.pushOut_ports_echo (s : State) (p : Nat) (o : OutPkt) : (s.pushOut p o).ports.echo = s.ports.echo := rfl
@[simp] theorem State.pushOut_ports_arpSent (s : State) (p : Nat) (o : OutPkt) : (s.pushOut p o).ports.arpSent = s.ports.arpSent := rfl
@[simp] theorem State.pushOut_ports_echoSent (s : State) (p : Nat) (o : OutPkt) : (s.pushOut p o).ports.echoSent = s.ports.echoSent := rfl
@[simp] theorem State.pushOut_ports_hop (s : State) (p : Nat) (o : OutPkt) : (s.pushOut p o).ports.hop = s.ports.hop := rfl
@[simp] theorem State.pushOut_ports_refusedPort (s : State) (p : Nat) (o : OutPkt) : (s.pushOut p o).ports.refusedPort = s.ports.refusedPort := rfl
@[simp] theorem State.pushOut_ports_refusedKey (s : State) (p : Nat) (o : OutPkt) : (s.pushOut p o).ports.refusedKey = s.ports.refusedKey := rfl
@[simp] theorem State.pushOut_ports_drops (s : State) (p : Nat) (o : OutPkt) : (s.pushOut p o).ports.drops = s.ports.drops := rfl

/-! ### `State.storeReply` at the ports -/

@[simp] theorem State.storeReply_ports_inRings (s : State) (c : Cmd) (p : Bytes) : (s.storeReply c p).ports.inRings = s.ports.inRings := rfl
@[simp] theorem State.storeReply_ports_reserve (s : State) (c : Cmd) (p : Bytes) : (s.storeReply c p).ports.reserve = s.ports.reserve := rfl
@[simp] theorem State.storeReply_ports_notifs (s : State) (c : Cmd) (p : Bytes) : (s.storeReply c p).ports.notifs = s.ports.notifs := rfl
@[simp] theorem State.storeReply_ports_subs (s : State) (c : Cmd) (p : Bytes) : (s.storeReply c p).ports.subs = s.ports.subs := rfl
@[simp] theorem State.storeReply_ports_turn (s : State) (c : Cmd) (p : Bytes) : (s.storeReply c p).ports.turn = s.ports.turn := rfl
@[simp] theorem State.storeReply_ports_relayTag (s : State) (c : Cmd) (p : Bytes) : (s.storeReply c p).ports.relayTag = s.ports.relayTag := rfl
@[simp] theorem State.storeReply_ports_relays (s : State) (c : Cmd) (p : Bytes) : (s.storeReply c p).ports.relays = s.ports.relays := rfl
@[simp] theorem State.storeReply_ports_asms (s : State) (c : Cmd) (p : Bytes) : (s.storeReply c p).ports.asms = s.ports.asms := rfl
@[simp] theorem State.storeReply_ports_asmDrops (s : State) (c : Cmd) (p : Bytes) : (s.storeReply c p).ports.asmDrops = s.ports.asmDrops := rfl
@[simp] theorem State.storeReply_ports_badMarker (s : State) (c : Cmd) (p : Bytes) : (s.storeReply c p).ports.badMarker = s.ports.badMarker := rfl
@[simp] theorem State.storeReply_ports_dgDrops (s : State) (c : Cmd) (p : Bytes) : (s.storeReply c p).ports.dgDrops = s.ports.dgDrops := rfl
@[simp] theorem State.storeReply_ports_svcTimeouts (s : State) (c : Cmd) (p : Bytes) : (s.storeReply c p).ports.svcTimeouts = s.ports.svcTimeouts := rfl
@[simp] theorem State.storeReply_ports_usb (s : State) (c : Cmd) (p : Bytes) : (s.storeReply c p).ports.usb = s.ports.usb := rfl
@[simp] theorem State.storeReply_ports_svcBuf (s : State) (c : Cmd) (p : Bytes) : (s.storeReply c p).ports.svcBuf = s.ports.svcBuf := rfl
@[simp] theorem State.storeReply_ports_svcLast (s : State) (c : Cmd) (p : Bytes) : (s.storeReply c p).ports.svcLast = s.ports.svcLast := rfl
@[simp] theorem State.storeReply_ports_links (s : State) (c : Cmd) (p : Bytes) : (s.storeReply c p).ports.links = s.ports.links := rfl
@[simp] theorem State.storeReply_ports_echo (s : State) (c : Cmd) (p : Bytes) : (s.storeReply c p).ports.echo = s.ports.echo := rfl
@[simp] theorem State.storeReply_ports_arpSent (s : State) (c : Cmd) (p : Bytes) : (s.storeReply c p).ports.arpSent = s.ports.arpSent := rfl
@[simp] theorem State.storeReply_ports_echoSent (s : State) (c : Cmd) (p : Bytes) : (s.storeReply c p).ports.echoSent = s.ports.echoSent := rfl
@[simp] theorem State.storeReply_ports_hop (s : State) (c : Cmd) (p : Bytes) : (s.storeReply c p).ports.hop = s.ports.hop := rfl
@[simp] theorem State.storeReply_ports_refusedPort (s : State) (c : Cmd) (p : Bytes) : (s.storeReply c p).ports.refusedPort = s.ports.refusedPort := rfl
@[simp] theorem State.storeReply_ports_refusedKey (s : State) (c : Cmd) (p : Bytes) : (s.storeReply c p).ports.refusedKey = s.ports.refusedKey := rfl
@[simp] theorem State.storeReply_ports_drops (s : State) (c : Cmd) (p : Bytes) : (s.storeReply c p).ports.drops = s.ports.drops := rfl

/-! ### `State.replyF` at the ports -/

@[simp] theorem State.replyF_ports_inRings (s : State) (c : Cmd) (o st : Nat) (d : Bytes) (f : Nat) : (s.replyF c o st d f).ports.inRings = s.ports.inRings := rfl
@[simp] theorem State.replyF_ports_reserve (s : State) (c : Cmd) (o st : Nat) (d : Bytes) (f : Nat) : (s.replyF c o st d f).ports.reserve = s.ports.reserve := rfl
@[simp] theorem State.replyF_ports_notifs (s : State) (c : Cmd) (o st : Nat) (d : Bytes) (f : Nat) : (s.replyF c o st d f).ports.notifs = s.ports.notifs := rfl
@[simp] theorem State.replyF_ports_subs (s : State) (c : Cmd) (o st : Nat) (d : Bytes) (f : Nat) : (s.replyF c o st d f).ports.subs = s.ports.subs := rfl
@[simp] theorem State.replyF_ports_turn (s : State) (c : Cmd) (o st : Nat) (d : Bytes) (f : Nat) : (s.replyF c o st d f).ports.turn = s.ports.turn := rfl
@[simp] theorem State.replyF_ports_relayTag (s : State) (c : Cmd) (o st : Nat) (d : Bytes) (f : Nat) : (s.replyF c o st d f).ports.relayTag = s.ports.relayTag := rfl
@[simp] theorem State.replyF_ports_relays (s : State) (c : Cmd) (o st : Nat) (d : Bytes) (f : Nat) : (s.replyF c o st d f).ports.relays = s.ports.relays := rfl
@[simp] theorem State.replyF_ports_asms (s : State) (c : Cmd) (o st : Nat) (d : Bytes) (f : Nat) : (s.replyF c o st d f).ports.asms = s.ports.asms := rfl
@[simp] theorem State.replyF_ports_asmDrops (s : State) (c : Cmd) (o st : Nat) (d : Bytes) (f : Nat) : (s.replyF c o st d f).ports.asmDrops = s.ports.asmDrops := rfl
@[simp] theorem State.replyF_ports_badMarker (s : State) (c : Cmd) (o st : Nat) (d : Bytes) (f : Nat) : (s.replyF c o st d f).ports.badMarker = s.ports.badMarker := rfl
@[simp] theorem State.replyF_ports_dgDrops (s : State) (c : Cmd) (o st : Nat) (d : Bytes) (f : Nat) : (s.replyF c o st d f).ports.dgDrops = s.ports.dgDrops := rfl
@[simp] theorem State.replyF_ports_svcTimeouts (s : State) (c : Cmd) (o st : Nat) (d : Bytes) (f : Nat) : (s.replyF c o st d f).ports.svcTimeouts = s.ports.svcTimeouts := rfl
@[simp] theorem State.replyF_ports_usb (s : State) (c : Cmd) (o st : Nat) (d : Bytes) (f : Nat) : (s.replyF c o st d f).ports.usb = s.ports.usb := rfl
@[simp] theorem State.replyF_ports_svcBuf (s : State) (c : Cmd) (o st : Nat) (d : Bytes) (f : Nat) : (s.replyF c o st d f).ports.svcBuf = s.ports.svcBuf := rfl
@[simp] theorem State.replyF_ports_svcLast (s : State) (c : Cmd) (o st : Nat) (d : Bytes) (f : Nat) : (s.replyF c o st d f).ports.svcLast = s.ports.svcLast := rfl
@[simp] theorem State.replyF_ports_links (s : State) (c : Cmd) (o st : Nat) (d : Bytes) (f : Nat) : (s.replyF c o st d f).ports.links = s.ports.links := rfl
@[simp] theorem State.replyF_ports_echo (s : State) (c : Cmd) (o st : Nat) (d : Bytes) (f : Nat) : (s.replyF c o st d f).ports.echo = s.ports.echo := rfl
@[simp] theorem State.replyF_ports_arpSent (s : State) (c : Cmd) (o st : Nat) (d : Bytes) (f : Nat) : (s.replyF c o st d f).ports.arpSent = s.ports.arpSent := rfl
@[simp] theorem State.replyF_ports_echoSent (s : State) (c : Cmd) (o st : Nat) (d : Bytes) (f : Nat) : (s.replyF c o st d f).ports.echoSent = s.ports.echoSent := rfl
@[simp] theorem State.replyF_ports_hop (s : State) (c : Cmd) (o st : Nat) (d : Bytes) (f : Nat) : (s.replyF c o st d f).ports.hop = s.ports.hop := rfl
@[simp] theorem State.replyF_ports_refusedPort (s : State) (c : Cmd) (o st : Nat) (d : Bytes) (f : Nat) : (s.replyF c o st d f).ports.refusedPort = s.ports.refusedPort := rfl
@[simp] theorem State.replyF_ports_refusedKey (s : State) (c : Cmd) (o st : Nat) (d : Bytes) (f : Nat) : (s.replyF c o st d f).ports.refusedKey = s.ports.refusedKey := rfl
@[simp] theorem State.replyF_ports_drops (s : State) (c : Cmd) (o st : Nat) (d : Bytes) (f : Nat) : (s.replyF c o st d f).ports.drops = s.ports.drops := rfl

@[simp] theorem State.ringUsed_outRings (s : State) (q n : Nat) : (s.ringUsed q n).ports.outRings = s.ports.outRings := rfl
@[simp] theorem State.ringUsed_windows (s : State) (q n : Nat) : (s.ringUsed q n).ports.windows = s.ports.windows := rfl
@[simp] theorem State.ringUsed_drops (s : State) (q n : Nat) : (s.ringUsed q n).ports.drops = s.ports.drops := rfl
@[simp] theorem State.ringUsed_high (s : State) (q n : Nat) : (s.ringUsed q n).ports.high = upd s.ports.high q (max n) := rfl
@[simp] theorem State.pushOut_outRings (s : State) (p : Nat) (o : OutPkt) :
    (s.pushOut p o).ports.outRings = upd s.ports.outRings p (· ++ [o]) := rfl
@[simp] theorem State.storeReply_outRings (s : State) (c : Cmd) (p : Bytes) :
    (s.storeReply c p).ports.outRings = s.ports.outRings := rfl

/-! ### Names for others -/

@[simp] theorem State.reply_eq (s : State) (c : Cmd) (o st : Nat) (d : Bytes) : s.reply c o st d = s.replyF c o st d 0 := rfl
@[simp] theorem State.complete_eq (s : State) (c : Cmd) (o st : Nat) (d : Bytes) : s.complete c o st d = s.replyF c o st d 1 := rfl
@[simp] theorem State.log_eq (s : State) (t : Nat) (b : Bytes) : s.log t b = s.enqueue (.own (mkRec s t b)) := rfl
@[simp] theorem State.logNotifyAt_eq (s : State) (t : Nat) (b : Bytes) (o e : Nat) (n : Bytes) :
    s.logNotifyAt t b o e n = s.enqueue (.own (mkRec s t b (some (o, e, n)))) := rfl
@[simp] theorem State.logNotify_eq (s : State) (t : Nat) (b : Bytes) (o : Nat) (n : Bytes) :
    s.logNotify t b o n = s.enqueue (.own (mkRec s t b (some (o, epochField s, n)))) := rfl
@[simp] theorem State.logEvent_eq (s : State) (t o : Nat) (b : Bytes) :
    s.logEvent t o b = s.enqueue (.own (mkRec s t (le 4 (epochField s) ++ b) (some (o, epochField s, b)))) := rfl

/-! ### What was set -/

@[simp] theorem State.setSlice_slices (s : State) (b k : Nat) (f : Slice → Slice) :
    (s.setSlice b k f).ana = { s.ana with slices := upd s.ana.slices (10 * b + k) f } := rfl
@[simp] theorem State.setChan_chans (s : State) (c : Nat) (f : Chan → Chan) :
    (s.setChan c f).ana = { s.ana with chans := upd s.ana.chans c f } := rfl
@[simp] theorem State.setBank_banks (s : State) (b : Nat) (f : BankState → BankState) :
    (s.setBank b f).ana = { s.ana with banks := upd s.ana.banks b f } := rfl
@[simp] theorem State.setLoop_loops (s : State) (c : Nat) (f : Loop → Loop) :
    (s.setLoop c f).ana = { s.ana with loops := upd s.ana.loops c f } := rfl
@[simp] theorem State.setPanel_panels (s : State) (p : Nat) (f : Panel → Panel) :
    (s.setPanel p f).disp = { s.disp with panels := upd s.disp.panels p f } := rfl
@[simp] theorem State.setPort_fab (s : State) (p : Nat) (f : FabPort → FabPort) :
    (s.setPort p f).fab = { s.fab with ports := upd s.fab.ports p f } := rfl
@[simp] theorem State.enqueue_queue (s : State) (i : QItem) (h : s.core = .running) :
    (s.enqueue i).rcd = { s.rcd with queue := s.rcd.queue ++ [i] } := by simp [State.enqueue, h]
theorem State.enqueue_held (s : State) (i : QItem) (h : s.core ≠ .running) : s.enqueue i = s := by simp [State.enqueue, h]
@[simp] theorem State.takeFree_snd (s : State) : s.takeFree.2 = { s with fresh := s.fresh + 1 } := rfl
@[simp] theorem State.takeFree_fst (s : State) : s.takeFree.1 = Config.freeWord s.fresh := rfl

end Sys2Proof.Machine
end

