-- ==== Sys2Proof/Laws/Ops.lean ====
section
/-! SUPPORT. What each shared operation of `Machine/Ops.lean` can do, said once. -/

namespace Sys2Proof.Machine

/-! ## Replies -/

/-- A reply is answered at the state it is sent from, and nothing but the ports changes. -/
theorem State.replyF_answers (s : State) (c : Cmd) (op st : Nat) (d : Bytes) (fl : Nat)
    (h : c.port < s.ports.outRings.length) :
    Answers s (s.replyF c op st d fl) c op st fl d ∧ s.replyF c op st d fl = { s with ports := (s.replyF c op st d fl).ports } := by
  refine ⟨⟨⟨?_, ?_⟩, rfl⟩, rfl⟩
  · show nth (upd s.ports.outRings c.port _) c.port = _
    rw [nth_upd_self _ _ _ h]; rfl
  · intro p hp
    show nth (upd s.ports.outRings c.port _) p = _
    rw [nth_upd_ne _ _ hp]

/-- A reply sent after work that left the node's number and the ports alone is the reply to the state before. -/
theorem State.replyF_answers_of (s u : State) (c : Cmd) (op st : Nat) (d : Bytes) (fl : Nat)
    (h : c.port < s.ports.outRings.length) (hp : u.ports = s.ports) (hn : u.node = s.node) :
    Answers s (u.replyF c op st d fl) c op st fl d := by
  have a := (State.replyF_answers u c op st d fl (hp ▸ h)).1
  simp only [Answers, Replies, hp, hn] at a ⊢
  exact a

/-- An opcode run on an admitted packet answers what its work says. -/
theorem runOpcode_admitted {s : State} {c : Cmd} (ha : Admitted s c) (op : Nat) (f : State → Answer) :
    runOpcode op c s f = .next ((f s).st.replyF c op (f s).status (f s).data (f s).flags) := by
  simp [runOpcode, ha.running, ha.slot]

/-- The same where the work places its reply itself. -/
theorem runSilent_admitted {s : State} {c : Cmd} (ha : Admitted s c) (op : Nat) (f : State → State) :
    runSilent op c s f = .next (f s) := by
  simp [runSilent, ha.running, ha.slot]

/-- No opcode stops the machine. -/
theorem runOpcode_next (op : Nat) (c : Cmd) (s : State) (f : State → Answer) : ∃ t, runOpcode op c s f = .next t := by
  unfold runOpcode; split
  · split <;> exact ⟨_, rfl⟩
  · exact ⟨_, rfl⟩

theorem runSilent_next (op : Nat) (c : Cmd) (s : State) (f : State → State) : ∃ t, runSilent op c s f = .next t := by
  unfold runSilent; split
  · split <;> exact ⟨_, rfl⟩
  · exact ⟨_, rfl⟩

/-- A published acting command: the first check that fails is answered, else the action is published (R120). -/
theorem runAction_cases {s : State} {c : Cmd} (ha : Admitted s c) (op : Nat) (fmt : Bytes → Bool) (chk : State → Option Nat) :
    (fmt c.payload = false ∧ runAction op c s fmt chk = .next (s.reply c op Status.paramRange))
      ∨ (fmt c.payload = true ∧ mayPublish s = false ∧ runAction op c s fmt chk = .next (s.reply c op Status.notInReplica))
      ∨ (fmt c.payload = true ∧ mayPublish s = true ∧ ∃ st, chk s = some st ∧ runAction op c s fmt chk = .next (s.reply c op st))
      ∨ (fmt c.payload = true ∧ mayPublish s = true ∧ chk s = none ∧ runAction op c s fmt chk = .next (s.publishAction c op)) := by
  unfold runAction
  rw [runSilent_admitted ha]
  cases hf : fmt c.payload <;> cases hm : mayPublish s <;> cases hc : chk s <;> simp

/-! ## Records, notifications and frames -/

/-- A record is put behind the recorder while the core runs, and lost otherwise. -/
theorem State.log_logs (s : State) (t : Nat) (b : Bytes) (h : s.core = .running) : Logs s (s.log t b) [t] := by
  refine ⟨[.own (mkRec s t b)], ?_, rfl⟩
  simp [State.log, State.enqueue, h]

theorem State.logNotifyAt_logs (s : State) (t : Nat) (b : Bytes) (o e : Nat) (n : Bytes) (h : s.core = .running) :
    Logs s (s.logNotifyAt t b o e n) [t] := by
  refine ⟨[.own (mkRec s t b (some (o, e, n)))], ?_, rfl⟩
  simp [State.logNotifyAt, State.enqueue, h]

/-- Records of one part after those of another. -/
theorem Logs.trans {s t u : State} {a b : List Nat} (h : Logs s t a) (k : Logs t u b) : Logs s u (a ++ b) := by
  obtain ⟨l, hl, ha⟩ := h
  obtain ⟨m, hm, hb⟩ := k
  refine ⟨l ++ m, ?_, ?_⟩
  · rw [hm, hl]; simp [List.append_assoc]
  · simp [ha, hb]

theorem Logs.nil_of_eq {s t : State} (h : t.rcd = s.rcd) : Logs s t [] := ⟨[], by simp [h], rfl⟩

/-- A notification put on its ring leaves everything but the ports. -/
theorem State.pushNotif_frame (s : State) (n : Notif) : s.pushNotif n = { s with ports := (s.pushNotif n).ports } := by
  unfold State.pushNotif; dsimp only; split <;> rfl

/-- Without a subscription to its ring a notification is not placed (R51). -/
theorem State.placeNotif_unsubscribed (s : State) (n : Notif) (h : ∀ u ∈ s.ports.subs, u.has (ringSlot (notifRing n.opcode)) = false) :
    s.placeNotif n = s := by
  unfold State.placeNotif
  rw [if_neg]
  simpa using h

/-- A notification leaves everything but the ports. -/
theorem State.notify_frame (s : State) (o : Nat) (b : Bytes) : s.notify o b = { s with ports := (s.notify o b).ports } := by
  unfold State.notify; split
  · unfold State.placeNotif; split
    · exact State.pushNotif_frame _ _
    · rfl
  · rfl

/-- A frame originated joins its class's ring and takes the next frame sequence (R220). -/
theorem State.originate_frame (s : State) (ty d : Nat) (b : Bytes) (tr : Bool) :
    s.originate ty d b tr = { s with fab := (s.originate ty d b tr).fab, ports := (s.originate ty d b tr).ports }
      ∧ (s.originate ty d b tr).fab.frameSeq = (s.fab.frameSeq + 1) % 0x100000000 := by
  unfold State.originate; dsimp only; split <;> exact ⟨rfl, rfl⟩

end Sys2Proof.Machine
end

