-- ==== Sys2Proof/Tests/Slice0.lean ====
section
/-! SUPPORT. Tests: terms the well-formedness checks refuse, words and frames written out from the manual, and for every
statement with hypotheses a state and operands that meet them. -/

set_option Elab.async false
set_option maxRecDepth 20000

namespace Sys2Proof.Tests

open Sys2Proof Sys2Proof.Machine

/-! ## A state to test with -/

/-- Bytes from a region's offset upward, zero bytes left out. -/
def bytesAt (region off : Nat) (l : List Nat) : Memory :=
  (l.zipIdx.filter fun p => p.1 ≠ 0).map fun p => (regionBase region + off + p.2, BitVec.ofNat 8 p.1)

/-- A channel entry (Table 10-1): mode, rate, pulsed and interval, lead, POS and NEG, wire flag, open threshold. -/
def chanBytes (mode pulsed wire safe fsk : Nat) : List Nat :=
  [mode, 1, 3, 0, pulsed, 0, 232, 3, 0, 0, 0, 0, 100, 0, 1, 2, 0, 0, 0, wire, 10, 0, 10, 0]
    ++ List.replicate 169 0 ++ [safe, fsk, fsk] ++ List.replicate 28 0 ++ (if fsk = 1 then [1, 0] else [])

/-- An image: L = 10 ms, nodes 0 and 1 on one ring, tag 0 of node 0, channels 0 (continuous, wire check), 1 (pulsed), 2
(an output with an instrument at slot 1), 3 (an input loop), digital outputs 1 and 2, panel 0. -/
def image : Memory :=
  bytesAt 0 0 [16, 39] ++ bytesAt 0 16 [1, 0, 1, 0, 1, 0, 255, 255, 0, 0, 0, 0, 10, 0, 0, 0, 1, 0, 0, 10]
    ++ bytesAt 0 80 [1, 0, 1, 0, 0, 0, 255, 255, 0, 0, 0, 0, 10]
    ++ bytesAt 2 0 ([0, 0, 0, 0, 1, 1] ++ List.replicate 48 0 ++ [5])
    ++ bytesAt 82 0 [232, 3] ++ bytesAt 82 32 (chanBytes 1 0 1 0 0) ++ bytesAt 82 288 (chanBytes 1 1 0 0 0)
    ++ bytesAt 82 544 (chanBytes 9 0 0 1 1) ++ bytesAt 82 800 (chanBytes 7 0 0 0 0)
    ++ bytesAt 86 16 [2, 7, 5, 0, 0, 1, 100, 0, 4, 0, 0, 0, 0, 0, 0, 0, 2] ++ bytesAt 86 48 [2, 0, 5, 0, 0, 0, 100, 0, 1]
    ++ bytesAt 87 16 [1, 0, 100]
    ++ bytesAt 1 0 [16, 39, 0, 0, 1] ++ bytesAt 1 48 [1, 0, 0, 3] ++ bytesAt 1 304 [0, 0, 0]

/-- A running node 0 in SERVICE with that image, on XO, as a member with a past. -/
def w : State :=
  { State.reset with
    core := .running, op := .service
    cfg := { State.reset.cfg with flash := [image, []], dir := [List.replicate 89 { state := 2 }, List.replicate 89 {}], loaded := true }
    tm := { State.reset.tm with now := 100000000, fab := some 50000005000, op := 1000 }
    pw := { State.reset.pw with valid := true, step := 7 }
    clk := { State.reset.clk with ref := some .xo, ratio := 40, pllLocked := true, xoStable := true, xoRunning := true }
    rcd := { State.reset.rcd with isOpen := true }
    repl := { State.reset.repl with member := true, cur := 5000, lastEval := some 4998, rep := { members := [0, 1] } } }

/-- A command of host 10.0.0.2 on P0. -/
def cmd (l : List Nat) (port : Nat := 0) (slot : Nat := 0) : Cmd :=
  { port, orig := .host 0 0x0A000002 50000, origNode := 0, origPort := port, seq := 7, crc := 0, slot
    payload := l.map (BitVec.ofNat 8) }

/-- The counts of `Units`, to be evaluated. -/
def unitCounts (s : State) : Bool :=
  [s.ports.inRings.length, s.ports.outRings.length, s.ports.high.length, s.ports.drops.length, s.sec.fuses.length
   , s.fab.ports.length, s.fab.out.length, s.fab.inQ.length, s.inj.length, s.ana.slices.length, s.ana.chans.length, s.ana.loops.length
   , s.ana.banks.length, s.dio.cells.length, s.dio.fs.length, s.disp.panels.length, s.repl.relays.length, s.rcd.dies.length
   , s.rcd.lost.length, s.rcd.wit.length, s.age.entries.length, s.cfg.flash.length, s.cfg.selector.length
   , s.ports.reserve.length, s.ports.notifs.length, s.ports.links.length, s.ports.echo.length, s.ports.arpSent.length
   , s.ports.echoSent.length] ++ s.cfg.dir.map List.length
  == [8, 8, 32, 32, 32, 4, 4, 4, 8, 40, 32, 32, 4, 48, 2, 4, 2, 5, 5, 2, 16, 2, 6, 3, 5, 2, 2, 2, 2, 89, 89]

theorem units_of (s : State) (h : unitCounts s = true) : Units s := by
  simp only [unitCounts, beq_iff_eq, List.cons_append, List.nil_append, List.cons.injEq] at h
  obtain ⟨h1, h2, h3, h4, h5, h6, h7, h8, h9, h10, h11, h12, h13, h14, h15, h16, h17, h18, h19, h20, h21, h22, h23, h24, h25, h26
    , h27, h28, h29, h30⟩ := h
  constructor <;> assumption

theorem admits (s : State) (c : Cmd) (h : unitCounts s = true ∧ s.core = .running ∧ c.slot = 0 ∧ c.port < 8) : Admitted s c :=
  ⟨units_of s h.1, h.2.1, h.2.2.1, h.2.2.2⟩

/-! ## Well-formedness refuses -/

theorem test_wf_refuses_port : Instr.wf (.alarmAck (cmd [] 8)) = false := by decide
theorem test_wf_refuses_slot : Instr.wf (.nodeStatus (cmd [] 0 64)) = false := by decide
theorem test_wf_refuses_origin : Instr.wf (.nodeStatus { cmd [] with origNode := 4096 }) = false := by decide
theorem test_wf_refuses_origin_port : Instr.wf (.nodeStatus { cmd [] with origPort := 8 }) = false := by decide
theorem test_wf_refuses_payload : Instr.wf (.cfgWrite { cmd [] with payload := List.replicate 4081 0 }) = false := by decide +kernel
theorem test_wf_refuses_fabric_port : Instr.wf (.sealReceived { (default : RxFrame) with port := 4 }) = false := by decide
theorem test_wf_refuses_host_port : Instr.wf (.arpRequest 2 0) = false := by decide
theorem test_wf_refuses_echo_port : Instr.wf (.icmpEchoRequest 2 0 0) = false := by decide
theorem test_wf_refuses_datagram_port : Instr.wf (.hostDatagramReceived { (default : Datagram) with port := 2 }) = false := by decide
theorem test_wf_refuses_link_speed : Instr.wf (.hostLinkChange 0 3) = false := by decide
theorem test_wf_refuses_sync_port : Instr.wf (.linkSyncAcquired 4) = false := by decide
theorem test_wf_refuses_quiet_ms : Instr.wf (.quietPhaseBoundary 6) = false := by decide
theorem test_wf_refuses_bank : Instr.wf (.conversionResult 4 0 default) = false := by decide
theorem test_wf_refuses_slice : Instr.wf (.leadTimeExpiry 0 10) = false := by decide
theorem test_wf_refuses_channel : Instr.wf (.pulsedRequest 32) = false := by decide
theorem test_wf_refuses_terminal : Instr.wf (.clampConduction 0 0 true) = false ∧ Instr.wf (.clampFlagTimeout 0 41) = false := by decide
theorem test_wf_refuses_reading : Instr.wf (.loopSupplyTrack 0 [{ (default : LoopReading) with channel := 32 }]) = false := by decide
theorem test_wf_refuses_instrument : Instr.wf (.instrumentRead 0 64) = false := by decide
theorem test_wf_refuses_cell : Instr.wf (.dioFilterCount 0 true) = false ∧ Instr.wf (.offPulse 49 0) = false := by decide
theorem test_wf_refuses_supply : Instr.wf (.fsState 3 0) = false ∧ Instr.wf (.supplyEvent 0 0 0) = false := by decide
theorem test_wf_refuses_die : Instr.wf (.recordWrite [5] 0) = false := by decide
theorem test_wf_refuses_panel : Instr.wf (.displayUpdateEnd 4) = false ∧ Instr.wf (.displayUpdateStart 0 6 0) = false := by decide
theorem test_wf_refuses_clock : Instr.wf (.clockMonitorTrip (.stop 3 2) 0) = false ∧ Instr.wf (.clockMonitorTrip (.derived 2) 8001) = false := by decide
theorem test_wf_refuses_dram : Instr.wf (.dramUncorrectable 0x20000000) = false := by decide
theorem test_wf_refuses_entry : Instr.wf (.ageMeasurement 17 0 0) = false := by decide
theorem test_wf_refuses_region : Instr.wf (.flashProgramDone 89) = false := by decide
theorem test_wf_refuses_injector : Instr.wf (.injHoldRelease 8) = false := by decide
theorem test_wf_refuses_relay : Instr.wf (.relayTestEnd 3) = false := by decide
theorem test_wf_refuses_disputes (d : Dispute) :
    Instr.wf (.epochEvaluate { (default : EvalReport) with disputes := List.replicate 262145 d }) = false := by
  show decide ((List.replicate 262145 d).length ≤ 262144) = false
  rw [List.length_replicate]; rfl

/-! ## Values of the manual -/

/-- R33: the check value of CRC-32C. -/
theorem test_crc32c : crc32c ([0x31, 0x32, 0x33, 0x34, 0x35, 0x36, 0x37, 0x38, 0x39] : List (BitVec 8)) = 0xE3069283 := by decide +kernel
/-- R79: in a matrix word the code of class 1 is at bits [1:0], that of class 16 at bits [31:30]. -/
theorem test_code_of_class : codeOf 0x80000001 1 = 1 ∧ codeOf 0x80000001 16 = 2 ∧ codeOf 0x80000001 2 = 0 := by decide +kernel
theorem test_units : Units w := units_of w (by decide +kernel)
theorem test_image_is_canonical : MemoriesCanonical w :=
  ⟨by decide +kernel, by decide +kernel, by decide +kernel⟩
/-- The table gives no bits, so no word spells a command. -/
theorem test_no_word_spells_a_command : decodeTableWord 32 0x0102 = none ∧ w.withFetchWord 32 0x0102 = w := ⟨rfl, rfl⟩

/-! ## What the statements suppose can be met -/

/-- Any step: the microsecond on an empty queue, and a command in front. -/
theorem hyp_step : State.reset.pending = [] ∧ switchRuns State.reset = false ∧ (∃ t, step State.reset = .next t)
    ∧ { State.reset with pending := [.holdUpSpent] }.pending = .holdUpSpent :: [] :=
  ⟨rfl, by decide +kernel, ⟨_, rfl⟩, rfl⟩
theorem hyp_step_from_units : Units State.reset ∧ MemoriesCanonical State.reset :=
  ⟨units_of _ (by decide +kernel), by decide +kernel, by decide +kernel, by decide +kernel⟩
theorem hyp_blown_fuse :
    let s := { State.reset with sec := { State.reset.sec with fuses := 0x80000001 :: List.replicate 31 0 } }
    (fuse s 0).getLsbD 31 = true ∧ ∃ t, step s = .next t := ⟨by decide +kernel, _, rfl⟩

def frame1 : Frame := { type := 1, ttl := 255, origin := 0xFFF, dest := 0xFFFE, inc := 0xFFFF, seq := 0xFFFFFFFF, body := zeros 12 }
theorem hyp_formed_frame : (frameClass frame1.type).isSome ∧ 0 < frame1.ttl ∧ frame1.ttl < 256 ∧ frame1.origin < 0x1000
    ∧ frame1.dest < 0x10000 ∧ ¬ (0x1000 ≤ frame1.dest ∧ frame1.dest ≤ 0xFFFD) ∧ frame1.inc < 0x10000 ∧ frame1.seq < 0x100000000
    ∧ frame1.body.length < 0x10000 := by decide +kernel

theorem hyp_observing : Admitted w (cmd []) ∧ (cmd []).payload = [] := ⟨admits w _ (by decide +kernel), rfl⟩

theorem hyp_range_reads : Admitted w (cmd [])
    ∧ entriesOk (cmd [1, 0, 0, 0, 0xFF, 0xFF, 3, 0]).payload 4 1019 (fun b => decide (0x40000 ≤ u32 b 0)) = true
    ∧ (let p := (cmd [0, 0, 0, 0, 0, 0, 4, 0]).payload; p.length = 8 ∧ u32 p 4 ≠ 0 ∧ u32 p 0 + u32 p 4 ≤ 262144)
    ∧ (let p := (cmd [0xFF, 0xFF, 3, 0, 255, 0, 30, 0]).payload
       p.length = 8 ∧ u16 p 4 ≠ 0 ∧ u16 p 4 ≤ 255 ∧ u8 p 6 ≠ 0 ∧ u8 p 6 % 2 = 0 ∧ u8 p 6 ≤ 31 ∧ u8 p 7 = 0 ∧ u32 p 0 ≤ 262143)
    ∧ (let p := (cmd [0xFF, 0x0F, 1, 0]).payload; p.length = 4 ∧ u16 p 2 ≠ 0 ∧ u16 p 0 + u16 p 2 ≤ 4096)
    ∧ (let p := (cmd [0xFF, 0x0F, 0, 0, 0xFF, 0xFF, 3, 0]).payload; p.length = 8 ∧ u16 p 0 ≤ 4095 ∧ u16 p 2 = 0 ∧ u32 p 4 ≤ 262143)
    ∧ (let p := (cmd [0xFF, 0xFF, 3, 0, 0xFF, 0xFF, 15, 0]).payload; p.length = 8 ∧ u32 p 0 ≤ 262143 ∧ u32 p 4 ≤ 1048575)
    ∧ (let p := (cmd [63, 1, 0, 0]).payload; p.length = 4 ∧ allZero p 2 2 = true ∧ u8 p 1 ≠ 0 ∧ u8 p 1 ≤ 64 ∧ u8 p 0 + u8 p 1 ≤ 64)
    ∧ rangeOk (cmd [31, 1, 0, 0]).payload = true
    ∧ (∀ b ∈ [3, 0xFF], let p := (cmd [b, 0, 0, 0]).payload; p.length = 4 ∧ allZero p 1 3 = true ∧ (u8 p 0 ≤ 3 ∨ u8 p 0 = 0xFF))
    ∧ (let p := (cmd [48, 1, 0, 0]).payload; p.length = 4 ∧ allZero p 2 2 = true ∧ 1 ≤ u8 p 0 ∧ 1 ≤ u8 p 1 ∧ u8 p 0 + u8 p 1 ≤ 49) :=
  ⟨admits w _ (by decide +kernel), by decide +kernel⟩

/-- A bank latched for snapshot 1, of four bytes. -/
def wSnap : State := { w with repl := { w.repl with
  banks := [{ id := 1, target := 4990, bytes := zeros 4 }, {}]
  rep := { w.repl.rep with snap := { nextId := 2, slots := [(1, 4990, 5100), (0, 0, 0)] } } } }
theorem hyp_snap_read : Admitted wSnap (cmd []) ∧ (let p := (cmd [1, 0, 0, 0, 0, 0, 0, 0]).payload
    p.length = 8 ∧ allZero p 2 2 = true ∧ u32 p 4 % 4 = 0 ∧ bankOf wSnap (u16 p 0) = .ok { id := 1, target := 4990, bytes := zeros 4 }
      ∧ u32 p 4 < (zeros 4).length) := ⟨admits wSnap _ (by decide +kernel), rfl, rfl, rfl, rfl, by decide⟩

/-- The own log past a block, its floor at 65,536 and its oldest record at 131,072. -/
def wLog : State := { w with rcd := { w.rcd with own := { w.rcd.own with floor := 65536, oldest := 131072, write := 131200, gens := [3, 3, 3] } } }
theorem hyp_rec_read : Admitted w (cmd []) ∧ Admitted wLog (cmd []) ∧ (let p := (cmd [0, 0, 0, 0, 255, 255, 255, 255, 255, 255, 255, 255]).payload
    p.length = 12 ∧ u8 p 0 ≤ 3 ∧ allZero p 1 3 = true ∧ w.rcd.witnessOnly = false
      ∧ resolveCursor w.rcd (AreaId.ofCode (u8 p 0)) (u32 p 4) (u32 p 8) = some (0, 0, false))
    ∧ resolveCursor wLog.rcd .own 0 0 = some (0, 0, true) ∧ resolveCursor w.rcd .own 0 0xFFFFFFFF = none
    ∧ ({ w.rcd with lost := [true, true, false, false, false] } : Recorder).witnessOnly = true :=
  ⟨admits w _ (by decide +kernel), admits _ _ (by decide +kernel), by decide +kernel⟩

/-- The formats of acting commands, at the ends of their ranges. -/
theorem hyp_acting_formats : entriesOk (cmd [1, 0, 0, 0, 0, 0, 4, 0]).payload 4 1019 maskReserved = true
    ∧ (let p := (cmd [1, 0, 0, 0, 0, 0, 0, 0, 60, 0, 0, 0]).payload
       entriesOk p 8 509 shelveReserved = true ∧ ∀ b ∈ entries p 8, shelveCheck1 w b = none)
    ∧ (let p := (cmd [1, 0, 0, 0, 0, 0, 0, 0]).payload; entriesOk p 4 1019 tagReserved = true ∧ ∀ b ∈ entries p 4, (desc w (u32 b 0)).type ≠ 0)
    ∧ entriesOk (cmd [1, 0, 0, 0, 0xFF, 0x0F, 0, 0]).payload 4 1019 groupReserved = true
    ∧ (∀ a ∈ [1, 2, 3], watchFormat w a (cmd [a, 0, 0, 0, 0, 0, 0, 0]).payload = true) ∧ bound w (cmd []) 0 = true
    ∧ (let p := (cmd [0, 0, 0, 0]).payload; p.length = 4 ∧ u8 p 0 < 64 ∧ allZero p 1 3 = true)
    ∧ (let p := (cmd [0x90, 0x13, 0, 0]).payload; p.length = 4 ∧ snapCheck p w = none) := by decide +kernel
theorem hyp_acting_published : Admitted w (cmd []) ∧ mayPublish w = true ∧ fabUs w = some 50000005 :=
  ⟨admits w _ (by decide +kernel), by decide +kernel⟩
theorem hyp_acting_refused : Admitted { w with op := .start } (cmd []) ∧ mayPublish { w with op := .start } = false :=
  ⟨admits _ _ (by decide +kernel), by decide +kernel⟩
/-- A staged region that may be activated: the second tag region, staged with the CRC given. -/
def wStaged : State := { w with cfg := { w.cfg with staged := [3]
                                                    dir := [List.replicate 89 { state := 2 }, List.replicate 89 { state := 2, crc := 5 }] } }
theorem hyp_activate_format : activateFormat (cmd [1, 0, 0, 0, 3, 0, 0, 0, 5, 0, 0, 0]).payload = true
    ∧ activateCheck (cmd [1, 0, 0, 0, 3, 0, 0, 0, 5, 0, 0, 0]).payload wStaged = none := by decide +kernel

theorem hyp_set_profile : Admitted w (cmd []) ∧ (let p := (cmd [1, 0, 0, 0]).payload; p.length = 4 ∧ Profile.ofCode (u8 p 0) = some .standard
    ∧ allZero p 1 3 = true) ∧ profileAvailable w .standard = true ∧ (∃ p, profileAvailable w p = false)
    ∧ (let s := { w with op := .guard }; s.op = .guard ∧ profileAvailable s .standard = true) :=
  ⟨admits w _ (by decide +kernel), by decide +kernel, by decide +kernel, ⟨.quiet, by decide +kernel⟩, by decide +kernel⟩
theorem hyp_subscribe : Admitted w (cmd [31, 0, 88, 2]) ∧ (let p := (cmd [31, 0, 88, 2]).payload; p.length = 4 ∧ u16 p 0 ≤ 31 ∧ 10 ≤ u16 p 2
    ∧ u16 p 2 ≤ 600) ∧ w.ports.subs.any (fun u => u.isOf 0 (cmd []).orig) = false ∧ w.ports.subs.length < 8 :=
  ⟨admits w _ (by decide +kernel), by decide +kernel⟩
def subscriber (k : Nat) : Subscription := { (default : Subscription) with port := 0, orig := .host 0 (BitVec.ofNat 32 k) 50000 }
theorem hyp_subscribe_full :
    let s := { w with ports := { w.ports with subs := (List.range 8).map subscriber } }
    Admitted s (cmd []) ∧ 8 ≤ s.ports.subs.length ∧ s.ports.subs.any (fun u => u.isOf 0 (cmd []).orig) = false
      ∧ s.ports.subs.any (fun u => u.isOf 0 (.host 0 7 50000)) = true := ⟨admits _ _ (by decide +kernel), by decide +kernel⟩
theorem hyp_relay_test : Admitted w (cmd [2, 0, 0, 0]) ∧ (let p := (cmd [2, 0, 0, 0]).payload; p.length = 4 ∧ u8 p 0 = 2 ∧ allZero p 1 3 = true) :=
  ⟨admits w _ (by decide +kernel), by decide +kernel⟩
theorem hyp_relay_test_end :
    let s := { w with repl := { w.repl with relays := [{ on := true, testEnd := some 5000 }, {}] } }
    Units s ∧ s.core = .running ∧ (nth s.repl.relays 0).testEnd = some 5000 ∧ 5000 ≤ s.repl.cur :=
  ⟨units_of _ (by decide +kernel), by decide +kernel⟩

/-! ### Channels, loops and digital outputs -/

theorem hyp_chan : Admitted w (cmd [0, 0, 0, 0]) ∧ chanNamed w (cmd [0, 0, 0, 0]).payload = true ∧ (chan w 0).retired = 0
    ∧ (chan w 0).check = none ∧ rovers w 0 ≠ [] := ⟨admits w _ (by decide +kernel), by decide +kernel⟩
/-- Channel 0 retired. -/
def wRetired : State := { w with ana := { w.ana with chans := upd w.ana.chans 0 fun _ => { retired := 4 } } }
theorem hyp_chan_retired : Admitted wRetired (cmd [0, 0, 0, 0]) ∧ chanNamed wRetired (cmd [0, 0, 0, 0]).payload = true
    ∧ (chan wRetired 0).retired ≠ 0 ∧ sliceFree wRetired 0 0 = true ∧ wRetired.ana.chans.all (·.check.isNone) = true := ⟨admits _ _ (by decide +kernel), by decide +kernel⟩
theorem hyp_chan_other_slice :
    let s := { wRetired with ana := { wRetired.ana with slices := { phase := .retired } :: List.replicate 39 {} } }
    Admitted s (cmd [0, 0, 0, 0]) ∧ (chan s 0).retired ≠ 0 ∧ sliceFree s 0 0 = false ∧ (freeSlices s 0).head? = some 9 :=
  ⟨admits _ _ (by decide +kernel), by decide +kernel⟩
theorem hyp_chan_no_slice :
    let s := { wRetired with ana := { wRetired.ana with slices := List.replicate 40 { phase := .retired } } }
    Admitted s (cmd [0, 0, 0, 0]) ∧ chanNamed s (cmd [0, 0, 0, 0]).payload = true ∧ (chan s 0).retired ≠ 0
      ∧ (∀ k, k < 10 → sliceFree s 0 k = false) := ⟨admits _ _ (by decide +kernel), by decide +kernel⟩
theorem hyp_loop_transact : Units w ∧ slotChannel w 1 = some (2, { slot := 1, poll := 0 }) ∧ fskUp w 2 = true
    ∧ (let p := (cmd [9, 0, 0, 0] 0 1).payload; p.length = 4 + u8 p 2 ∧ u8 p 2 ≤ (if 253 < u16 p 0 then 251 else 253) ∧ allZero p 3 1 = true)
    ∧ w.ana.q30.length < 256 ∧ 256 ≤ (List.replicate 256 (default : LoopReq)).length
    ∧ (let p := (cmd [9, 0, 254, 0] 0 1).payload; ¬ (p.length = 4 + u8 p 2))
    ∧ (let s := { w with ana := { w.ana with chans := upd w.ana.chans 2 fun x => { x with isOpen := true } } }
       fskUp s 2 = false ∧ slotChannel s 1 = some (2, { slot := 1, poll := 0 })) := ⟨units_of _ (by decide +kernel), by decide +kernel⟩
/-- Loop 2 forced to 24 mA until now, and output 1 forced on until now. -/
def wForced : State := { w with
  ana := { w.ana with loops := upd w.ana.loops 2 fun l => { l with forced := some (24000, 100000000) } }
  dio := { w.dio with cells := upd w.dio.cells 0 fun c => { c with forced := some (true, 100000000, 10), lease := some 100000000 } } }
theorem hyp_loop_force : Admitted w (cmd [2, 0, 10, 0, 0xC0, 0x5D, 0, 0]) ∧ (let p := (cmd [2, 0, 16, 14, 0xC0, 0x5D, 0, 0]).payload
    p.length = 8 ∧ u8 p 0 = 2 ∧ allZero p 1 1 = true ∧ 10 ≤ u16 p 2 ∧ u16 p 2 ≤ 3600 ∧ u32 p 4 ≤ 24000)
    ∧ isOutputMode (chanCfg w 2).mode = true ∧ (chan w 2).retired = 0 ∧ (loopSt w 2).forced = none :=
  ⟨admits w _ (by decide +kernel), by decide +kernel⟩
theorem hyp_loop_release : Admitted wForced (cmd [2, 0, 10, 0, 255, 255, 255, 255])
    ∧ u32 (cmd [2, 0, 10, 0, 255, 255, 255, 255]).payload 4 = 0xFFFFFFFF ∧ (loopSt wForced 2).forced = some (24000, 100000000)
    ∧ isOutputMode (chanCfg wForced 2).mode = true ∧ (chan wForced 2).retired = 0 ∧ 100000000 ≤ wForced.tm.now := ⟨admits _ _ (by decide +kernel), by decide +kernel⟩
theorem hyp_dio_write : Admitted w (cmd [1, 1, 1, 0, 0, 0, 0, 0]) ∧ isDio 1 = true ∧ (dioCfg w 1).mode = 2 ∧ (cell w 1).retired = false
    ∧ (dioCfg w 1).kind = 4 ∧ (cell w 1).forced = none
    ∧ (∀ l ∈ [[1, 1, 1, 0, 0, 0, 0, 0], [1, 2, 0, 0, 16, 14, 0, 0], [1, 3, 0, 0, 0, 0, 0, 0]], let p := (cmd l).payload
        p.length = 8 ∧ u8 p 0 = 1 ∧ u8 p 2 ≤ 1 ∧ allZero p 3 1 = true ∧ allZero p 6 2 = true ∧ (u8 p 1 ≠ 2 → u16 p 4 = 0)
          ∧ (u8 p 1 = 2 → 10 ≤ u16 p 4 ∧ u16 p 4 ≤ 3600)) := ⟨admits w _ (by decide +kernel), by decide +kernel⟩
theorem hyp_dio_ends : Units wForced ∧ (cell wForced 1).forced = some (true, 100000000, 10) ∧ (cell wForced 1).lease = some 100000000
    ∧ 100000000 ≤ wForced.tm.now ∧ (dioCfg wForced 1).kind = 4 ∧ (dioCfg wForced 1).mode = 2 := ⟨units_of _ (by decide +kernel), by decide +kernel⟩

/-! ### Recorder, wall time, display and ageing -/

theorem hyp_recorded_words : w.rcd.dies.length = 5 ∧ w.rcd.lost.length = 5 ∧ (∀ m ∈ w.rcd.dies, m.wf = true) ∧ w.rcd.lost.count true = 0
    ∧ ({ w.rcd with lost := [false, false, true, false, false] } : Recorder).lost.count true ≤ 1 ∧ 0xFFFFFFFF < 0x100000000 := by decide +kernel
def freeze1 : Freeze := { until_ := 100000000, start := 40000000, staged := [], used := 0, lost := 0, lostBytes := 0, lostType := 0, cursor := 0 }
/-- Two dies lost: WITNESS-ONLY. -/
def wLost : State := { w with rcd := { w.rcd with lost := [true, true, false, false, false] } }
def wFrozen : State := { w with rcd := { w.rcd with freeze := some freeze1 } }
theorem hyp_freeze : Admitted w (cmd [60, 0, 0, 0]) ∧ Admitted wFrozen (cmd []) ∧ (let p := (cmd [60, 0, 0, 0]).payload
    p.length = 4 ∧ allZero p 2 2 = true ∧ 1 ≤ u16 p 0 ∧ u16 p 0 ≤ 60) ∧ w.rcd.freeze = none ∧ w.rcd.witnessOnly = false
    ∧ wFrozen.rcd.freeze = some freeze1 ∧ freeze1.until_ ≤ wFrozen.tm.now
    ∧ (∀ n ∈ [[0, 0, 0, 0], [61, 0, 0, 0]], let p := (cmd n).payload; p.length = 4 ∧ allZero p 2 2 = true ∧ (u16 p 0 = 0 ∨ 60 < u16 p 0))
    ∧ wLost.rcd.witnessOnly = true ∧ wLost.rcd.freeze = none :=
  ⟨admits w _ (by decide +kernel), admits _ _ (by decide +kernel), by decide +kernel⟩
theorem hyp_record_write :
    let s := { w with rcd := { w.rcd with queue := [.own (mkRec w 0x0005 []), .pages []] } }
    s.core = .running ∧ s.rcd.isOpen = true ∧ s.rcd.queue = [.own (mkRec w 0x0005 []), .pages []] ∧ s.rcd.freeze = none
      ∧ s.rcd.witnessOnly = false ∧ (∀ d, d < 5 → (recentErrors s d).length < 16) ∧ 26 ≤ (mkRec w 0x0005 []).len ∧ newestBytes s = none := by
  decide +kernel
theorem hyp_clear : Admitted w (cmd [2, 0, 0, 0]) ∧ (let p := (cmd [2, 0, 0, 0]).payload; p.length = 4 ∧ allZero p 1 3 = true ∧ u8 p 0 ≤ 2 ∧ u8 p 0 ≠ 0)
    ∧ w.rcd.freeze = none ∧ w.rcd.witnessOnly = false ∧ w.rcd.wit.length = 2
    ∧ (∀ n ∈ [0, 3], let p := (cmd [n, 0, 0, 0]).payload; p.length = 4 ∧ allZero p 1 3 = true ∧ u8 p 0 = n)
    ∧ unitCounts wLost = true ∧ wLost.rcd.witnessOnly = true ∧ wFrozen.rcd.freeze = some freeze1 := ⟨admits w _ (by decide +kernel), by decide +kernel⟩
theorem hyp_wall_map : Admitted w (cmd [0, 0, 0, 0, 0, 0, 0, 128]) ∧ (cmd [0, 0, 0, 0, 0, 0, 0, 128]).payload.length = 8
    ∧ fabUs w = some 50000005 ∧ fabUs State.reset = none := ⟨admits w _ (by decide +kernel), by decide +kernel⟩

def panelId1 : PanelId := { columns := 100, rows := 0, area := 0, vcom := 0, tempCenti := none, serial := 9 }
/-- Panel 0 known, with a clearing due, its rails as given. -/
def wPanel (rails : Nat) (x : Panel) : State := { w with disp := { w.disp with rails, panels := upd w.disp.panels 0 fun _ => x } }
def panelDue : Panel := { id := some panelId1, clearAsked := true, held := some (0, 0, some 100000000) }
theorem hyp_pages : Admitted (wPanel 0 panelDue) (cmd [0, 0, 0, 0]) ∧ (panelCfg (wPanel 0 panelDue) 0).used = true
    ∧ unavailable (wPanel 0 panelDue) 0 = false ∧ (panel (wPanel 0 panelDue) 0).held = some (0, 0, some 100000000)
    ∧ (let p := (cmd [0, 0, 0, 0, 0, 0, 0, 0, 16, 14, 0, 0]).payload
       p.length = 12 ∧ u8 p 1 ≤ 3 ∧ allZero p 2 2 = true ∧ allZero p 10 2 = true ∧ 10 ≤ u16 p 8 ∧ u16 p 8 ≤ 3600
         ∧ hasPage (wPanel 0 panelDue) (u8 p 1) (u32 p 4) = true) := ⟨admits _ _ (by decide +kernel), by decide +kernel⟩
theorem hyp_panel_start : Units (wPanel 2 panelDue) ∧ mayStart (wPanel 2 panelDue) 0 = true ∧ mayStart (wPanel 0 panelDue) 0 = true
    ∧ (wPanel 2 panelDue).disp.fault = none := ⟨units_of _ (by decide +kernel), by decide +kernel⟩
def update1 : Update := { kind := 2, band := 0, target := 3, page := (0, 0), start := 0, end_ := 100000000 }
theorem hyp_panel_end :
    let s := wPanel 2 { panelDue with update := some update1 }
    Units s ∧ s.core = .running ∧ (panel s 0).update = some update1 ∧ update1.end_ ≤ s.tm.now := ⟨units_of _ (by decide +kernel), by decide +kernel⟩
theorem hyp_rails_off :
    let s := { w with disp := { w.disp with rails := 2, offAt := some 100000000 } }
    Units s ∧ s.core = .running ∧ s.disp.offAt = some 100000000 ∧ 100000000 ≤ s.tm.now := ⟨units_of _ (by decide +kernel), by decide +kernel⟩
theorem hyp_rail_fault :
    let s := { wPanel 0 panelDue with disp := { (wPanel 0 panelDue).disp with fault := some (5, 40000000) } }
    Units s ∧ mayStart s 0 = true ∧ s.disp.fault = some (5, 40000000) ∧ 40000000 + 60000000 ≤ s.tm.now ∧ railsNow s = 0 :=
  ⟨units_of _ (by decide +kernel), by decide +kernel⟩
theorem hyp_measurement : Units w ∧ siteUsed w 1 11 = true ∧ F32.finite 0 = true ∧ siteUsed w 8 2 = true
    ∧ siteUsed w 2 0xFF = true ∧ F32.finite (F32.ofIntDiv w.age.der.coreMv 1000) = true
    ∧ siteUsed w 4 39 = true ∧ F32.finite (gainDrift (nth w.ana.slices 39)) = true
    ∧ siteUsed w 16 0 = true ∧ F32.finite (F32.ofInt (panel w 0).updates) = true
    ∧ (panel (wPanel 0 panelDue) 0).id = some panelId1 ∧ siteUsed (wPanel 0 panelDue) 15 0 = true
    ∧ F32.finite (F32.ofInt (F32.roundScaled 0 1 1 - panelId1.vcom).natAbs) = true
    ∧ (let s := { w with tm := { w.tm with op := 3600000000 } }
       ((s.age.history.getLast?).map (·.1)).getD 0 < opHours s / 100 * 100) := ⟨units_of _ (by decide +kernel), by decide +kernel⟩
theorem hyp_replan : Admitted w (cmd []) ∧ (cmd []).payload = [] ∧ w.rcd.isOpen = true
    ∧ (({ w.age with running := some (2, [cmd []]) } : Ledger).running).isSome :=
  ⟨admits w _ (by decide +kernel), by decide +kernel⟩

/-! ### Configuration, injection, fuses and shutdown -/

/-- Sessions for the regions of the cases, handles 1 (bank region), 2 (firmware), 3 (tag region). -/
def session (handle region length : Nat) : Session := { handle, region, length, crc := 0, version := 1, ident := 0 }
def wSession : State := { w with cfg := { w.cfg with sessions := [session 1 82 2080, session 3 3 524288], nextHandle := 5 } }
def beginBytes (region : Nat) (len : List Nat) (ident : Nat) : List Nat := [region, 0, 0, 0] ++ len ++ List.replicate 8 0 ++ [ident] ++ List.replicate 7 0
theorem hyp_cfg_begin : Admitted w (cmd (beginBytes 0 [16, 0, 4, 0] 9)) ∧ (∀ p ∈ [(0, [16, 0, 4, 0]), (87, [176, 0, 0, 0]), (88, [4, 0, 0, 0])],
      let l := (cmd (beginBytes p.1 p.2 9)).payload
      l.length = 24 ∧ allZero l 1 3 = true ∧ u8 l 0 = p.1 ∧ regionLengthOk p.1 (u32 l 4) = true ∧ BitVec.ofNat 64 (u64 l 16) = 9)
    ∧ fusedIdent { w with sec := { w.sec with sealed := true } } ≠ 9 ∧ reserved (session 1 0 262160) ≤ freePool w
    ∧ freePool { w with cfg := { w.cfg with sessions := [session 1 87 6291456, session 2 66 1048576, session 3 2 4096] } } < reserved (session 4 67 1048576)
    ∧ (∀ y ∈ w.cfg.sessions, y.region ≠ 88) ∧ (∀ k ∈ w.cfg.running, k.session.region ≠ 88)
    ∧ (let s := { w with cfg := { w.cfg with sessions := [session 2 88 4] } }; ∃ y ∈ s.cfg.sessions, y.region = 88)
    ∧ sessionOf w 1 = none ∧ w.sec.sealed = false :=
  ⟨admits w _ (by decide +kernel), by decide +kernel⟩
theorem hyp_cfg_write : Admitted wSession (cmd [1, 0, 0, 0, 28, 8, 0, 0, 1, 2, 3, 4])
    ∧ (let l := (cmd [1, 0, 0, 0, 28, 8, 0, 0, 1, 2, 3, 4]).payload
       12 ≤ l.length ∧ l.length ≤ 4080 ∧ l.length % 4 = 0 ∧ u32 l 4 % 4 = 0 ∧ sessionOf wSession (u32 l 0) = some (session 1 82 2080)
         ∧ u32 l 4 + (l.length - 8) = 2080)
    ∧ (let l := (cmd [1, 0, 0, 0, 32, 8, 0, 0, 1, 2, 3, 4]).payload; 2080 < u32 l 4 + (l.length - 8)) :=
  ⟨admits _ _ (by decide +kernel), by decide +kernel⟩
def commit (x : Session) : Commit := { cmd := cmd [], session := x }
theorem hyp_cfg_abandon :
    let s := { w with cfg := { w.cfg with running := [commit (session 7 82 2080)] } }
    Admitted s (cmd [7, 0, 0, 0]) ∧ sessionOf s 7 = none ∧ (∀ k ∈ s.cfg.pendingC, k.session.handle ≠ 7)
      ∧ (∃ k ∈ s.cfg.running, k.session.handle = 7) ∧ (sessionOf wSession 1).isSome = true :=
  ⟨admits _ _ (by decide +kernel), by decide +kernel, by decide +kernel, ⟨_, List.mem_singleton.mpr rfl, rfl⟩, by decide +kernel⟩
theorem hyp_cfg_abandon_waiting :
    let s := { w with cfg := { w.cfg with pendingC := [commit (session 7 82 2080)] } }
    Admitted s (cmd [7, 0, 0, 0]) ∧ sessionOf s 7 = none ∧ (∃ k ∈ s.cfg.pendingC, k.session.handle = 7)
      ∧ (∀ k ∈ s.cfg.pendingC, k.session.handle ≠ 8) ∧ s.cfg.running = [] ∧ s.cfg.handles = [] :=
  ⟨admits _ _ (by decide +kernel), by decide +kernel, ⟨_, List.mem_singleton.mpr rfl, rfl⟩, by decide +kernel⟩
/-- The state after a commit's first reply. -/
def afterCommit (s : State) (h : Nat) (c : Cmd) : State :=
  ({ s with cfg.sessions := s.cfg.sessions.filter (·.handle != h) } : State).reply c 0x0D42 Status.acceptedPending
theorem hyp_cfg_commit : Admitted wSession (cmd [1, 0, 0, 0, 0, 0, 0, 0]) ∧ (let c := cmd [1, 0, 0, 0, 0, 0, 0, 0]
    sessionOf wSession (u32 c.payload 0) = some (session 1 82 2080) ∧ allZero c.payload 4 4 = true ∧ c.payload.length = 8
      ∧ updateRuns (afterCommit wSession 1 c) 82 = false
      ∧ commitBad (afterCommit wSession 1 c) { cmd := c, session := session 1 82 2080, sig := [] } = some (Status.contentCrc, [])
      ∧ updateRuns (afterCommit { wSession with cfg := { wSession.cfg with running := [commit (session 9 82 2080)] } } 1 c) 82 = true) :=
  ⟨admits _ _ (by decide +kernel), by decide +kernel⟩
theorem hyp_program_done : (∀ r ∈ [0, 81, 82, 88],
    let s := { w with cfg := { w.cfg with running := [commit (session 7 r 2080)] } }
    unitCounts s = true ∧ s.core = .running ∧ s.cfg.running.find? (·.session.region == r) = some (commit (session 7 r 2080))
      ∧ s.pw.failing = false ∧ s.cfg.pendingC = [] ∧ (cmd []).port < 8 ∧ s.op ≠ .start ∧ (session 7 r 2080).content.wf = true
      ∧ (∀ x ∈ (session 7 r 2080).content, x.1 < regionSpace r)) := by decide +kernel

/-- The key closed, supplies NORMAL, not sealed. -/
def wKey : State := { w with sec := { w.sec with keyClosed := true }, pw := { w.pw with mv1 := 24000 } }

def armBytes : List Nat := [3, 1, 1, 1, 1, 0, 0, 0, 0, 0, 255, 255, 88, 2, 0, 0, 0, 0, 0, 0, 255, 255, 255, 255, 255, 255, 255, 255]
def arm1 (h : List (RxFrame × Nat × Nat)) : InjArm :=
  { payload := (cmd armBytes).payload, gen := 0, armedOp := 0, endOp := 1000, held := h }
theorem hyp_inj : Admitted w (cmd armBytes 2) ∧ injPayloadOk (cmd armBytes).payload = true ∧ isCaller w = false
    ∧ isCaller { w with repl := { w.repl with rep := { w.repl.rep with call := { caller := some 0 } } } } = true
    ∧ w.sec.injAllowed = true ∧ w.sec.keyClosed = false ∧ (∀ a, nth w.inj 7 = some a → a.held = []) :=
  ⟨admits w _ (by decide +kernel), by decide +kernel, by decide +kernel, by decide +kernel, by decide +kernel, by decide +kernel
  , fun a h => by simp [nth, w, State.reset] at h⟩
theorem hyp_inj_checks : (cmd armBytes 0).port ≠ 2 ∧ (cmd armBytes 2).port = 2 ∧ wKey.sec.keyClosed = true ∧ wKey.sec.injAllowed = true
    ∧ isCaller wKey = false ∧ injPayloadOk (cmd []).payload = false
    ∧ ({ wKey.sec with injAllowed := false } : Security).injAllowed = false ∧ unitCounts wKey = true ∧ wKey.core = .running
    ∧ isCaller { wKey with repl := { w.repl with rep := { w.repl.rep with call := { caller := some 0 } } } } = true := by decide +kernel
theorem hyp_inj_disarm : Admitted w (cmd [255, 255, 0, 0] 7) ∧ (∀ l ∈ [[3, 1, 0, 0], [255, 255, 0, 0]], let p := (cmd l).payload
    p.length = 4 ∧ allZero p 2 2 = true ∧ (u8 p 0 ≤ 3 ∨ u8 p 0 = 0xFF) ∧ (u8 p 1 ≤ 1 ∨ u8 p 1 = 0xFF))
    ∧ (∀ l ∈ [[4, 0, 0, 0], [0, 2, 0, 0], [0, 0, 0]], let p := (cmd l).payload
        ¬(p.length = 4 ∧ allZero p 2 2 = true ∧ (u8 p 0 ≤ 3 ∨ u8 p 0 = 0xFF) ∧ (u8 p 1 ≤ 1 ∨ u8 p 1 = 0xFF))) :=
  ⟨admits w _ (by decide +kernel), by decide +kernel⟩
theorem hyp_inj_ends :
    let s := { w with inj := [some (arm1 [(default, 1, 5)]), some (arm1 []), some (arm1 []), none, none, none, none, none] }
    Units s ∧ nth s.inj 0 = some (arm1 [(default, 1, 5)]) ∧ nth s.inj 1 = some (arm1 []) ∧ (arm1 []).endOp ≤ s.tm.op ∧ 5 ≤ s.tm.now
      ∧ 999 < (arm1 []).endOp :=
  ⟨units_of _ (by decide +kernel), by decide +kernel⟩
theorem hyp_inj_hold_transmit :
    let s := { w with inj := [none, some (arm1 [(default, 1, 5)]), none, none, none, none, none, none] }
    Units s ∧ nth s.inj 1 = some (arm1 [(default, 1, 5)]) ∧ 5 ≤ s.tm.now := ⟨units_of _ (by decide +kernel), by decide +kernel⟩
theorem no_injection (j : Nat) : nth w.inj j = none := by
  simp only [w, State.reset, nth, List.getD_eq_getElem?_getD, List.getElem?_replicate]
  split <;> rfl

theorem hyp_fuses : Admitted wKey (cmd [17, 0, 0, 0, 1, 0, 0, 128] 2) ∧ wKey.sec.keyClosed = true ∧ fuseConditions wKey = true
    ∧ (let p := (cmd [17, 0, 0, 0, 1, 0, 0, 128]).payload; p.length = 8 ∧ allZero p 1 3 = true ∧ u8 p 0 = 17) ∧ wKey.sec.sealed = false
    ∧ mismatchMask wKey = 0 ∧ identMismatch wKey = false
    ∧ (cmd [1, 2, 3, 4]).payload.length = 4 ∧ crc32c (copyOne wKey) ≠ u32 (cmd [1, 2, 3, 4]).payload 0
    ∧ crc32c (copyOne wKey) = u32 (le 4 (crc32c (copyOne wKey))) 0 ∧ (∀ j a, nth wKey.inj j = some a → a.held = []) :=
  ⟨admits _ _ (by decide +kernel), by decide +kernel, by decide +kernel, by decide +kernel, by decide +kernel, by decide +kernel
  , by decide +kernel, by decide +kernel, by decide +kernel, by decide +kernel, fun j a h => by
    rw [show wKey.inj = w.inj from rfl, no_injection] at h; cases h⟩
theorem hyp_fuse_refusals : (cmd [] 0).port ≠ 2 ∧ w.sec.keyClosed = false ∧ ({ wKey.sec with sealed := true } : Security).sealed = true
    ∧ ¬ ((cmd [8, 0, 0, 0, 0, 0, 0, 0]).payload.length = 8 ∧ (u8 (cmd [8, 0, 0, 0, 0, 0, 0, 0]).payload 0 ≤ 7
        ∨ u8 (cmd [8, 0, 0, 0, 0, 0, 0, 0]).payload 0 = 16 ∨ u8 (cmd [8, 0, 0, 0, 0, 0, 0, 0]).payload 0 = 17))
    ∧ fuseConditions { wKey with pw := { wKey.pw with mv1 := 0 } } = false ∧ (cmd []).payload.length ≠ 4
    ∧ (let s := { wKey with sec := { wKey.sec with fuses := 1 :: List.replicate 31 0 } }; mismatchMask s ≠ 0) := by decide +kernel
/-- A shutdown at a stage. -/
def wOff (e1 : Option Nat) (stage : Nat) (op : OpState) : State := { w with op, pw := { w.pw with prepareOff := some ([cmd []], e1, false, stage) } }
theorem hyp_prepare_off_alone : Admitted { w with op := .start } (cmd []) ∧ w.disp.rails = 0 ∧ (∀ x ∈ w.disp.panels, x.update = none)
    ∧ (cmd [1]).payload ≠ [] := ⟨admits _ _ (by decide +kernel), by decide +kernel⟩
theorem hyp_prepare_off : Admitted w (cmd []) ∧ Admitted (wOff none 3 .stopping) (cmd []) ∧ Admitted (wOff none 1 .service) (cmd [])
    ∧ w.pw.prepareOff = none ∧ w.rcd.freeze = none ∧ epochStart w (4000 + 3) + 1000000 ≤ (fabUs (wOff (some 4000) 1 .service)).getD 0
    ∧ (wOff none 3 .stopping).pw.stopAt ≤ (wOff none 3 .stopping).tm.now ∧ (∀ i, nth w.inj i = none) :=
  ⟨admits _ _ (by decide +kernel), admits _ _ (by decide +kernel), admits _ _ (by decide +kernel), by decide +kernel, by decide +kernel
  , by decide +kernel, by decide +kernel, no_injection⟩

/-! ### Ports and epochs -/

def datagram (payload : List Nat) : Datagram :=
  { (default : Datagram) with port := 0, dstIp := 0x0A000001, dstUdp := 47250, ipLen := 100, payload := payload.map (BitVec.ofNat 8) }
theorem hyp_datagram : Units w ∧ w.pw.heldStart = false ∧ hasImage w = true ∧ hostAddress w 0 = 0x0A000001 ∧ 100 ≤ mtuOf w w.node 0
    ∧ (let d := datagram ([0xD7, 0x4E] ++ List.replicate 14 0)
       d.dstIp.toNat = hostAddress w d.port ∧ d.fragment = false ∧ d.ipOptions = false ∧ d.checksumBad = false ∧ d.tagged = false
         ∧ 16 ≤ d.payload.length ∧ sub d.payload 0 2 = [0xD7, 0x4E])
    ∧ (nth w.ports.inRings 0).length < 256 ∧ (nth w.ports.reserve 0).length < 8 ∧ 256 ≤ (List.replicate 256 (default : InPkt)).length :=
  ⟨units_of _ (by decide +kernel), by decide +kernel⟩
/-- R33: a packet on `SVC` with its CRC, NODE.STATUS with no payload. -/
def svcBytes : Bytes :=
  let p : Bytes := [0xD7, 0x4E, 2, 1, 0, 0, 7, 0, 0, 0, 0, 0, 0, 0, 0, 0]
  p ++ le 4 (crc32c p)
theorem hyp_datagram_not_mine : hostAddress State.reset 0 = 0 ∧ (datagram []).fragment = false
    ∧ 8 ≤ ({ w with ports := { w.ports with reserve := [List.replicate 8 default, [], []] } } : State).ports.reserve.head!.length
    ∧ hostAddress w 0 = 0x0A000001 ∧ (1501 : Nat) > 1500
    ∧ (let s := { w with ports := { w.ports with echo := [(100, 99000001), (0, 0)] } }
       ¬ (nth s.ports.echo 0).2 + 1000000 ≤ s.tm.now ∧ (nth s.ports.echo 0).1 = 100) := by decide +kernel
theorem hyp_svc :
    let s := { w with ports := { w.ports with usb := true } }
    Units s ∧ s.ports.usb = true ∧ s.ports.svcBuf = [] ∧ sub svcBytes 0 2 = [0xD7, 0x4E] ∧ u16 svcBytes 4 ≤ 4080
      ∧ svcBytes.length = 20 + u16 svcBytes 4 ∧ crc32c (svcBytes.take (16 + u16 svcBytes 4)) = pktCrc svcBytes
      ∧ (nth s.ports.inRings 2).length < 256 := ⟨units_of _ (by decide +kernel), by decide +kernel⟩
theorem hyp_svc_timeout :
    let s := { w with ports := { w.ports with svcBuf := [0xD7, 0x4E, 1], svcLast := 99900000 } }
    Units s ∧ s.ports.svcBuf.take 2 = [0xD7, 0x4E] ∧ s.ports.svcLast + 100000 ≤ s.tm.now ∧ (∀ b ∈ s.ports.svcBuf.drop 2, b ≠ 0xD7) :=
  ⟨units_of _ (by decide +kernel), by decide +kernel⟩
theorem hyp_waiting : Units w ∧ w.core = .running ∧ (nth w.ports.notifs 4).items.length ≤ 256 := ⟨units_of _ (by decide +kernel), rfl, by decide +kernel⟩

theorem hyp_epoch_end : w.core = .running ∧ w.pw.failing = false ∧ timeUs w = some 50000005
    ∧ (let s := { w with repl := { w.repl with cur := 4999 } }; epochStart s 5000 ≤ 50000005 ∧ epochOf s 50000005 ≤ s.repl.cur + 8)
    ∧ (let s := { w with repl := { w.repl with cur := 4000 } }; epochStart s 4001 ≤ 50000005 ∧ s.repl.cur + 8 < epochOf s 50000005)
    ∧ (let s := { w with repl := { w.repl with cur := 4999, rep := { w.repl.rep with scheduled := some (5000, [(0, 0)], 0, 0) } } }
       s.repl.rep.scheduled = some (5000, [(0, 0)], 0, 0) ∧ 5000 = s.repl.cur + 1 ∧ ∃ p ∈ [(0, 0)], p.1 = 0) := by decide +kernel

/-- The member's ports F0 and F1 UP, its last epoch sealed by both members. -/
def ownLeft : OwnCount := { epoch := 4999, framed := 0, left0 := 0, left1 := 0, entries := 0, sealLeft := true }
def upPort (x : FabPort) : FabPort := { x with state := .up, sync := true }
def sealOfNode (n : Nat) : SealIn := { epoch := 4999, node := n, flags := 0, counted := 0, lanes := 7, state := 3 }
def wUp : State := { w with fab := { w.fab with ports := (w.fab.ports.take 2).map upPort ++ w.fab.ports.drop 2 } }
def upd1 : Upd := { tag := 0, quality := 0, value := 0, stamp := 50000005 }
theorem hyp_framing :
    let s := { wUp with repl := { wUp.repl with pending := [upd1] } }
    Units s ∧ s.core = .running ∧ s.repl.member = true ∧ inReplica s = true ∧ s.pw.failing = false ∧ s.repl.pending = [upd1]
      ∧ s.repl.outActs = [] ∧ s.rcd.witWait = [] ∧ s.repl.republish = false ∧ bridgeRole s = 0 ∧ outUsed s 1 < 256
      ∧ (ownCount s (epochOf s upd1.stamp)).entries < (nodeEntry s s.node).quota := ⟨units_of _ (by decide +kernel), by decide +kernel⟩
theorem hyp_seal :
    let s := { wUp with repl := { wUp.repl with rep := { wUp.repl.rep with snap := { nextId := 1, slots := [] } } } }
    Units s ∧ s.repl.cur = 4999 + 1 ∧ s.tm.fab.isSome = true ∧ s.repl.since ≤ 4999 ∧ epochStart s 5000 ≤ (fabUs s).getD 0
      ∧ (fabUs s).getD 0 ≤ epochStart s 5000 + 50 ∧ s.repl.sealed = none ∧ sealPorts s 4999 ≠ [] ∧ s.repl.sealFlags = 0
      ∧ s.pw.prepareOff = none ∧ missedRegion s 5000 = none ∧ s.repl.rep.snap.slots = [] := ⟨units_of _ (by decide +kernel), by decide +kernel⟩
/-- Node 0 as bridge of the two segments 0 and 1, alone in its own. -/
def bridgeImage : Memory :=
  bytesAt 0 0 [16, 39] ++ bytesAt 0 16 [1, 1, 1, 0, 0, 0, 64, 0, 0, 0, 0, 0, 10] ++ bytesAt 0 (16 + 64 * 64) [1, 1, 1, 0, 64, 0, 0, 0, 0, 0, 0, 0, 10]
def wBridge : State := { w with
  cfg := { w.cfg with flash := [bridgeImage, []] }
  repl := { w.repl with seals := [sealOfNode 0], own := [ownLeft], rep := { w.repl.rep with members := [0, 64] } } }
theorem hyp_aggregate : Units wBridge ∧ aggregateDue wBridge = some 4999 := ⟨units_of _ (by decide +kernel), by decide +kernel⟩
theorem hyp_vote :
    let s := { w with tm := { w.tm with fab := some 50000400000 }, repl := { w.repl with seals := [sealOfNode 0], own := [ownLeft] } }
    Units s ∧ s.tm.fab = some 50000400000 ∧ s.repl.reseed = none ∧ mayVote s (s.repl.cur - 1) = true ∧ s.repl.votedSeg ≠ some 4999
      ∧ epochStart s 5000 * 1000 + 320000 + xSegment s ≤ 50000400000 ∧ unsealedRun s 4999 0 = [1] := ⟨units_of _ (by decide +kernel), by decide +kernel⟩
theorem hyp_trunk_vote :
    let s := { wBridge with tm := { w.tm with fab := some 50001000000 } }
    Units s ∧ mayVote s (s.repl.cur - 1) = true ∧ bridgeRole s ≠ 0 ∧ s.repl.votedTrunk ≠ some 4999
      ∧ epochStart s 5000 * 1000 + 900000 + xSystem s ≤ 50001000000 ∧ missingSegs s 4999 2 = [1] := ⟨units_of _ (by decide +kernel), by decide +kernel⟩

/-- Epoch 4999 ended and sealed by both members. -/
def wEval : State := { w with repl := { w.repl with seals := [sealOfNode 0, sealOfNode 1], own := [ownLeft] } }
def report (l : List Dispute) : EvalReport := { disputes := l, selfTestFail := 0, coil1 := 0, coil2 := 0 }
theorem hyp_evaluate : Units wEval ∧ wEval.core = .running ∧ wEval.pw.failing = false ∧ wEval.repl.member = true ∧ inReplica wEval = true
    ∧ wEval.op ≠ .island ∧ wEval.repl.lastEval = some 4998 ∧ mayEvaluate wEval 4999 = true ∧ ended wEval 4999 = true
    ∧ foundingEpoch wEval 4999 = false ∧ aggregateDue wEval = none ∧ missing wEval 4999 = none
    ∧ noMajority (arrangement wEval) (judged wEval 4999 (report [{ unit := 0, minority := 7, allDiffer := true, retryAgrees := false }])) = true
    ∧ noMajority (arrangement wEval) (judged wEval 4999 (report [])) = false ∧ wEval.node ∉ declaredAbsent wEval 4999
    ∧ wEval.node ∈ (evalCore wEval (epochIn wEval 4999)).st.repl.rep.members := ⟨units_of _ (by decide +kernel), by decide +kernel⟩
theorem hyp_incomplete :
    let s := { w with tm := { w.tm with fab := some 50020005000 } }
    Units s ∧ missing s 4999 = some (1, 1, 0, 0) ∧ mayEvaluate s 4999 = true ∧ foundingEpoch s 4999 = false
      ∧ epochStart s 5000 + max (2 * epochLen s) 4000 ≤ (fabUs s).getD 0 ∧ s.repl.departing = false
      ∧ s.repl.lastEvalAt + 3000000 ≤ s.tm.now := ⟨units_of _ (by decide +kernel), by decide +kernel⟩

/-! ### Transfers and frames -/

def wJoin : State := { wUp with op := .start, fab := { wUp.fab with master := some 0 }
                                repl := { wUp.repl with member := false, lastEval := none, seals := [sealOfNode 1] } }
theorem hyp_search : Units wJoin ∧ needsReplica wJoin = true ∧ wJoin.repl.req = none ∧ wJoin.repl.retryAt ≤ wJoin.tm.now
    ∧ synchronised wJoin = true ∧ wJoin.pw.heldStart = false ∧ providersOf wJoin ≠ [] ∧ wJoin.repl.searchDue ≤ wJoin.tm.now
    ∧ providersOf { wJoin with repl := { wJoin.repl with seals := [] } } = [] := ⟨units_of _ (by decide +kernel), by decide +kernel⟩
def provider1 (next : Nat) : Provider :=
  { node := 1, port := 0, reseed := true, id := 1, er := 4990, share := 0, count := 1, next, image := some ({}, 7) }
def wProv (next : Nat) : State := { wUp with repl := { wUp.repl with prov := some (provider1 next) } }
theorem hyp_provide : Units (wProv blockCount) ∧ mayProvide (wProv 0) = true ∧ outUsed (wProv blockCount) 3 < 256 ∧ blockCount ≤ (provider1 blockCount).next
    ∧ (provider1 0).next < blockCount ∧ mayProvide { wProv 0 with repl := { (wProv 0).repl with member := false } } = false
    ∧ (let s := { wProv 0 with fab := { wUp.fab with out := [[], [], [], List.replicate 255 default] } }; unitCounts s = true ∧ outUsed s 3 = 255) :=
  ⟨units_of _ (by decide +kernel), by decide +kernel⟩
def requester1 (reseed replaying : Bool) : Requester :=
  { reseed, cause := 2, id := 1, er := 4990, started := 0, providers := [(0, 1, none)], blocks := [], replaying }
def wReq (reseed replaying : Bool) (x : Nat) : State := { wUp with repl := { wUp.repl with
  req := some (requester1 reseed replaying), lastEval := some x, member := reseed
  seals := [{ sealOfNode 0 with epoch := 4991 }, { sealOfNode 1 with epoch := 4991 }] } }
theorem hyp_transfer_ends : Units (wReq true false 4998) ∧ (requester1 true false).started + 5000000 ≤ (wReq true false 4998).tm.now
    ∧ (wReq true true 4998).repl.req = some (requester1 true true) ∧ (wReq true true 4998).repl.lastEval = some 4998
    ∧ (requester1 true true).readySent = none ∧ (requester1 true true).caught = false ∧ (fabUs (wReq true true 4998)).getD 0 ≤ epochStart (wReq true true 4998) 4999 + 2 * epochLen (wReq true true 4998)
    ∧ (requester1 false true).reseed = false ∧ (∃ p ∈ (requester1 false true).providers, p.2.1 ∉ (requester1 false true).readyTo) :=
  ⟨units_of _ (by decide +kernel), by decide +kernel, rfl, rfl, rfl, rfl, by decide +kernel, rfl, ⟨_, List.mem_singleton.mpr rfl, by decide⟩⟩
theorem hyp_resume : (let s := { wReq true true 4998 with repl := { (wReq true true 4998).repl with
      cur := 4999, req := some { requester1 true true with caught := true } } }
    Units s ∧ s.pw.failing = false ∧ timeUs s = some 50000005 ∧ epochStart s (s.repl.cur + 1) ≤ 50000005 ∧ epochOf s 50000005 ≤ s.repl.cur + 8) :=
  ⟨units_of _ (by decide +kernel), by decide +kernel⟩
theorem hyp_replaying : replaying (wReq true true 4998) = true := by decide +kernel
theorem hyp_replay : Units (wReq true true 4990) ∧ epochStart (wReq true true 4990) 4991 + 2 * epochLen (wReq true true 4990) < (fabUs (wReq true true 4990)).getD 0
    ∧ ended (wReq true true 4990) 4991 = true ∧ missing (wReq true true 4990) 4991 = none := ⟨units_of _ (by decide +kernel), by decide +kernel⟩

/-- A frame as it arrives on F0. -/
def rx (type : Nat) (body : Bytes) (origin : Nat := 1) (dest : Nat := 0xFFFF) (ttl : Nat := 1) : RxFrame :=
  { port := 0, bytes := ({ type, ttl, origin, dest, inc := 1, seq := 9, body } : Frame).bytes, coded := false, ns := 50000005000 }
/-- What arrival asks but for the CRC-32C, which `crcOk_bytes` gives for a frame of any body. -/
def arrivesBut (s : State) (r : RxFrame) : Bool :=
  switchRuns s && decide (r.port < 4) && decide (nth s.inj (2 * r.port) = none) && !r.coded && decide (24 ≤ r.bytes.length)
    && decide (r.bytes.length ≤ 264) && headerOk r.bytes && (frameClass (hdrFrame r.bytes).type).isSome
    && decide (s.fab.inQ = List.replicate 4 [])
def arrivesOk (s : State) (r : RxFrame) : Bool := arrivesBut s r && crcOk r.bytes
theorem arrives_of {s : State} {r : RxFrame} (h : arrivesOk s r = true) : Arrives s r := by
  simp only [arrivesOk, arrivesBut, Bool.and_eq_true, decide_eq_true_eq, Bool.not_eq_true'] at h
  obtain ⟨⟨⟨⟨⟨⟨⟨⟨⟨h1, h2⟩, h3⟩, h4⟩, h5⟩, h6⟩, h7⟩, h9⟩, h10⟩, h8⟩ := h
  exact ⟨h1, h2, h3, h4, h5, h6, h7, h8, h9, h10⟩
def hereBut (s : State) (r : RxFrame) : Bool :=
  let f := hdrFrame r.bytes
  unitCounts s && arrivesBut s r && isUp s r.port && decide (f.dest = 0xFFFF ∨ f.dest = s.node) && decide (s.node < 0x1000)
    && decide (f.origin ≠ s.node) && !votedAgainst s f && (acceptOrigin s.fab.origins f).isSome && decide (f.ttl = 1 ∨ f.dest = s.node)
    && decide (bridgeRole s = 0)
def hereOk (s : State) (r : RxFrame) : Bool := hereBut s r && crcOk r.bytes
theorem here_of {s : State} {r : RxFrame} (h : hereOk s r = true) : Units s ∧ ∃ os, ArrivesHere s r os := by
  simp only [hereOk, hereBut, Bool.and_eq_true, decide_eq_true_eq, Bool.not_eq_true', Option.isSome_iff_exists] at h
  obtain ⟨⟨⟨⟨⟨⟨⟨⟨⟨⟨h0, h1⟩, h2⟩, h3⟩, h4⟩, h5⟩, h6⟩, os, h7⟩, h8⟩, h9⟩, hc⟩ := h
  exact ⟨units_of s h0, os, arrives_of (Bool.and_eq_true _ _ ▸ ⟨h1, hc⟩), h2, h3, h4, h5, h6, h7, h8, h9⟩
def localOk (s : State) (r : RxFrame) : Bool :=
  unitCounts s && arrivesOk s r && isUp s r.port && decide ((hdrFrame r.bytes).dest = 0xFFFE)
theorem local_of {s : State} {r : RxFrame} (h : localOk s r = true) : Units s ∧ ArrivesLocal s r := by
  simp only [localOk, Bool.and_eq_true, decide_eq_true_eq] at h
  obtain ⟨⟨⟨h0, h1⟩, h2⟩, h3⟩ := h
  exact ⟨units_of s h0, arrives_of h1, h2, h3⟩

/-- The frames of the replication statement: seal, aggregate of segment 1, votes, join, update, action, digest. -/
def frames1 : List RxFrame :=
  [rx 1 ([0, 7, 0, 0] ++ le 4 5000 ++ [7, 3, 0, 0]), rx 1 ([1, 1, 0, 0] ++ le 4 5000 ++ zeros 168) 64
   , rx 2 ([1, 1, 1, 0] ++ le 4 4999 ++ [1, 0, 0, 0]), rx 2 ([3, 2, 63, 0] ++ le 4 4999 ++ [1, 0, 0, 0])
   , rx 2 ([2, 0, 0, 0] ++ le 4 5000 ++ [5, 0, 0, 0]), rx 0x10 upd1.bytes
   , rx 0x11 (le 8 50000005 ++ le 2 0x0340 ++ le 2 0 ++ [0, 1, 0, 0]), rx 3 (le 4 4998 ++ zeros 4 ++ le 8 77)]
theorem hyp_frames_arrive : ∀ r ∈ frames1, Units wUp ∧ ∃ os, ArrivesHere wUp r os := by
  have h : frames1.all (hereOk wUp) = true := by decide +kernel
  exact fun r hr => here_of (List.all_eq_true.mp h r hr)
theorem hyp_seal_frames : (let f := hdrFrame (nth frames1 0).bytes; f.type = 1 ∧ f.body.length = 12 ∧ u8 f.body 0 = 0 ∧ u8 f.body 1 ≤ 7
      ∧ allZero f.body 10 2 = true ∧ segOf f.origin = segOf wUp.node ∧ wanted wUp (liftEpoch wUp (u32 f.body 4)) = true ∧ sealOf wUp 5000 1 = none)
    ∧ (let f := hdrFrame (nth frames1 1).bytes; f.type = 1 ∧ f.body.length = 176 ∧ u8 f.body 0 = 1 ∧ allZero f.body 2 2 = true
      ∧ segOf f.origin = u8 f.body 1 ∧ u8 f.body 1 ≠ segOf wUp.node ∧ aggsOf wUp 5000 1 = [])
    ∧ (∀ k ∈ [2, 3], let f := hdrFrame (nth frames1 k).bytes; f.type = 2 ∧ f.body.length = 12
      ∧ (u8 f.body 0 = 1 ∧ u8 f.body 1 ≤ 1 ∧ segOf f.origin = segOf wUp.node ∨ u8 f.body 0 = 3 ∧ 2 ≤ u8 f.body 1 ∧ u8 f.body 1 ≤ 3)
      ∧ 1 ≤ u8 f.body 2 ∧ u8 f.body 2 ≤ 63 ∧ allZero f.body 3 1 = true ∧ allZero f.body 10 2 = true) := by decide +kernel
theorem hyp_counted_frames : wUp.repl.lastEval = some 4998 ∧ wUp.repl.req = none
    ∧ (let f := hdrFrame (nth frames1 4).bytes; u8 f.body 0 = 2 ∧ allZero f.body 1 3 = true ∧ 4998 < liftEpoch wUp (u32 f.body 4)
      ∧ liftEpoch wUp (u32 f.body 4) ≤ 4998 + 8)
    ∧ (let f := hdrFrame (nth frames1 5).bytes; f.type = 0x10 ∧ [Upd.ofBytes (sub f.body 0 16)] = [upd1] ∧ epochOf wUp upd1.stamp = 5000)
    ∧ (let f := hdrFrame (nth frames1 6).bytes; f.type = 0x11 ∧ 16 ≤ f.body.length ∧ u8 f.body 12 < u8 f.body 13 ∧ u8 f.body 14 ≤ 7
      ∧ epochOf wUp (u64 f.body 0) = 5000)
    ∧ (let f := hdrFrame (nth frames1 7).bytes; f.type = 3 ∧ f.body.length = 16 ∧ allZero f.body 4 4 = true ∧ wUp.repl.digests = []) := by decide +kernel

/-- Announce, witness record, acknowledgement, relay segment, roster part. -/
def relayed : Bytes := svcBytes
def frames2 : List RxFrame :=
  [rx 8 (le 2 1 ++ [2, 0] ++ le 8 0 ++ le 2 1 ++ zeros 2), rx 0x12 ([1, 0, 1, 0] ++ le 4 3 ++ [9])
   , rx 0x12 ([2, 0, 0, 0] ++ le 4 3), rx 0x20 (le 2 4 ++ [0, 0, 1, 0] ++ le 2 28 ++ relayBody 1 2 0 6 relayed)
   , rx 4 ([3, 2, 3, 0] ++ le 4 5400 ++ zeros 168)]
def wFound : State := { wUp with op := .start, repl := { wUp.repl with member := false, founding := { wUp.repl.founding with ef := some 5400 } } }
theorem hyp_frames_arrive_too : ∀ r ∈ frames2, (Units wUp ∧ ∃ os, ArrivesHere wUp r os) ∧ (Units wFound ∧ ∃ os, ArrivesHere wFound r os) := by
  have h : frames2.all (fun r => hereOk wUp r && hereOk wFound r) = true := by decide +kernel
  intro r hr
  have h1 := List.all_eq_true.mp h r hr
  rw [Bool.and_eq_true] at h1
  exact ⟨here_of h1.1, here_of h1.2⟩
theorem hyp_node_frames : (let b := (hdrFrame (nth frames2 0).bytes).body; b.length = 16 ∧ allZero b 3 1 = true ∧ allZero b 14 2 = true
      ∧ masterChoice { wUp with fab := { wUp.fab with announces := [{ node := 1, cls := 2, persisted := 0, master := 1, at_ := wUp.tm.now }] } } = some 1)
    ∧ (let b := (hdrFrame (nth frames2 1).bytes).body; 9 ≤ b.length ∧ u8 b 0 = 1 ∧ u8 b 1 = 0 ∧ u8 b 2 = 1 ∧ allZero b 3 1 = true
      ∧ wUp.rcd.witnessOnly = false ∧ wUp.rcd.witIn = [] ∧ wUp.rcd.queue = [] ∧ wUp.rcd.filed.contains (1, 1, u32 b 4) = false)
    ∧ (let b := (hdrFrame (nth frames2 2).bytes).body; b.length = 8 ∧ u8 b 0 = 2 ∧ allZero b 1 3 = true ∧ u32 b 4 = 3)
    ∧ (let b := (hdrFrame (nth frames2 3).bytes).body; b = le 2 (u16 b 0) ++ [0, 0, 1, 0] ++ le 2 (relayed.length + 8) ++ relayBody 1 (u8 b 12) 0 (u16 b 14) relayed
      ∧ 20 ≤ relayed.length ∧ relayed.length ≤ 224 ∧ u8 b 12 ≤ 2 ∧ wUp.ports.asms = [] ∧ (nth wUp.ports.inRings 3).length < 256)
    ∧ (let b := (hdrFrame (nth frames2 4).bytes).body; u8 b 0 = 3 ∧ u8 b 1 = 2 ∧ u8 b 2 = 3 ∧ b.length = 176
      ∧ wFound.repl.founding.ef = some 5400 ∧ mayFound wFound = true ∧ wFound.repl.founding.founder = false ∧ u32 b 4 = 5400) := by decide +kernel

/-- Witness records filed and awaited, and the announce and ready frames of a founding. -/
def wFiled (waits : Bool) : State := { wUp with rcd := { wUp.rcd with filed := [(1, 1, 3)], witWait := if waits then [(0, 1, [])] else [] } }
theorem hyp_witness_filed : (wFiled false).rcd.filed.contains (1, 1, 3) = true ∧ (wFiled false).rcd.witWait = [] ∧ (wFiled false).repl.outActs = []
    ∧ outUsed (wFiled false) 1 < 256 ∧ (wFiled true).rcd.witWait ≠ [] ∧ hereOk (wFiled false) (nth frames2 1) = true
    ∧ hereOk (wFiled true) (nth frames2 1) = true := by decide +kernel
def awaited (holders : List Nat) (acks : List Bool) : WitnessOut := { (default : WitnessOut) with num := 3, holder := holders, ack := acks }
theorem hyp_witness_ack : (∀ x ∈ [awaited [1] [false], awaited [1, 2] [false, false]],
    let s := { wUp with rcd := { wUp.rcd with witOut := [x] } }
    s.rcd.witOut = [x] ∧ x.num = u32 (hdrFrame (nth frames2 2).bytes).body 4 ∧ hereOk s (nth frames2 2) = true)
    ∧ (awaited [1] [false]).holder = [(hdrFrame (nth frames2 2).bytes).origin] := by decide +kernel
def wCalls : State := { wFound with repl := { wFound.repl with founding := { wFound.repl.founding with founder := true, ef := some 5400 } } }
def foundingRx (kind id : Nat) : RxFrame := rx 4 ([BitVec.ofNat 8 kind, 0, 0, 0] ++ le 4 5400 ++ le 2 1 ++ zeros 2 ++ le 4 id)
/-- What arrives of such a frame, whatever identity it carries: its check is good because every frame's is. -/
theorem founding_body (kind id : Nat) : (hdrFrame (foundingRx kind id).bytes).body
    = [BitVec.ofNat 8 kind, 0, 0, 0] ++ le 4 5400 ++ le 2 1 ++ zeros 2 ++ le 4 id := hdrFrame_bytes_body _ (by simp [le, zeros])
theorem hyp_founding_frames : hereBut wFound (foundingRx 1 (tableIdentity wFound)) = true ∧ mayFound wFound = true
    ∧ wFound.repl.founding.founder = false
    ∧ hereBut wCalls (foundingRx 2 (tableIdentity wCalls)) = true ∧ wCalls.repl.founding.ef = some 5400 ∧ wCalls.repl.founding.founder = true
    ∧ (fabUs wCalls).getD 0 < epochStart wCalls 5400 :=
  by decide +kernel
theorem founding_here {s : State} {kind id : Nat} (h : hereBut s (foundingRx kind id) = true) : hereOk s (foundingRx kind id) = true := by
  rw [hereOk, h, Bool.true_and]
  exact crcOk_bytes _ (by simp [le, zeros])

/-- Link-local frames: hello, delay request and answer, sync. -/
def frames3 : List RxFrame :=
  [rx 0x0C (le 2 1 ++ [1, 0] ++ zeros 8) 1 0xFFFE, rx 0x0A (le 4 8 ++ zeros 4) 1 0xFFFE, rx 0x0B (le 4 8 ++ zeros 20) 1 0xFFFE
   , rx 9 (le 2 1 ++ [1, 1] ++ zeros 4 ++ le 8 50000004000) 1 0xFFFE]
def wLink : State := { wUp with fab := { wUp.fab with ports := upd wUp.fab.ports 0 fun x => { x with reqOut := some (8, 50000000000) } } }
theorem hyp_link_frames : Units wLink ∧ (∀ r ∈ frames3, Arrives wLink r ∧ (hdrFrame r.bytes).dest = 0xFFFE) ∧ linkFrames wLink 0 = true
    ∧ isUp wLink 0 = true ∧ (fport wLink 0).reqOut = some (8, 50000000000) ∧ upstreamChoice wLink = none
    ∧ helloMatches { wLink with cfg := { wLink.cfg with loaded := false } } 0 [] = false :=
  ⟨units_of _ (by decide +kernel), fun r hr => by
    have h : frames3.all (fun r => arrivesOk wLink r && decide ((hdrFrame r.bytes).dest = 0xFFFE)) = true := by decide +kernel
    have h1 := List.all_eq_true.mp h r hr
    rw [Bool.and_eq_true, decide_eq_true_eq] at h1
    exact ⟨arrives_of h1.1, h1.2⟩, by decide +kernel⟩
theorem hyp_link_bodies : (let b := (hdrFrame (nth frames3 0).bytes).body; b.length = 12 ∧ allZero b 9 3 = true)
    ∧ (hdrFrame (nth frames3 1).bytes).body.length = 8
    ∧ (let b := (hdrFrame (nth frames3 2).bytes).body; b.length = 24 ∧ u32 b 0 = 8)
    ∧ (let b := (hdrFrame (nth frames3 3).bytes).body; b.length = 16 ∧ allZero b 4 4 = true ∧ u8 b 2 ≠ 0
      ∧ upstreamChoice { wLink with fab := { wLink.fab with master := some 1, ports := upd wLink.fab.ports 0 fun x =>
          { x with delays := [0], lastSync := some (1, 1, 1, wLink.tm.now) } } } = some 0) := by decide +kernel

/-- A hello of the partner's, with F0 in a state and a run of n intervals behind it; the node table it names is the one an
activation has just replaced. -/
def helloRx : RxFrame := rx 0x0C (le 2 1 ++ [1, 0] ++ le 4 77 ++ zeros 4) 1 0xFFFE
/-- A hello that names another node than the partner. -/
def helloWrong : RxFrame := rx 0x0C (le 2 2 ++ [1, 0] ++ zeros 8) 1 0xFFFE
def wHello (n : Nat) (st : PortState) : State := { wLink with
  cfg := { wLink.cfg with oldIdent := some (77, 5100) }
  fab := { wLink.fab with ports := upd wLink.fab.ports 0 fun x => { x with state := st, hellos := n, runStart := 100000000 - 1000 * n } } }
theorem hello_matches {s : State} {p n q u : Nat} {b : Bytes} (h : partnerOf s p = some (n, q) ∧ u16 b 0 = n ∧ u8 b 2 = q
    ∧ s.cfg.oldIdent = some (u32 b 4, u) ∧ s.repl.cur ≤ u) : helloMatches s p b = true := by
  obtain ⟨h1, h2, h3, h4, h5⟩ := h
  simp [helloMatches, identityOk, h1, h2, h3, h4, h5]
theorem hyp_hello_runs : (∀ st ∈ [PortState.hello, .miswired, .dark, .up], arrivesOk (wHello 99 st) helloRx = true ∧ unitCounts (wHello 99 st) = true
      ∧ linkFrames (wHello 99 st) 0 = true ∧ (helloRun (wHello 99 st) (fport (wHello 99 st) 0)).1 = 100 ∧ (fport (wHello 99 st) 0).state = st)
    ∧ (helloRun (wHello 98 .hello) (fport (wHello 98 .hello) 0)).1 = 99
    ∧ (∀ st ∈ [PortState.hello, .dark], arrivesOk (wHello 98 st) helloWrong = true ∧ helloMatches (wHello 98 st) 0 (hdrFrame helloWrong.bytes).body = false)
    ∧ (∀ r ∈ [helloRx, helloWrong], let b := (hdrFrame r.bytes).body; b.length = 12 ∧ allZero b 9 3 = true) := by decide +kernel
theorem hyp_hello_matches : ∀ st ∈ [PortState.hello, .miswired, .dark, .up], helloMatches (wHello 99 st) 0 (hdrFrame helloRx.bytes).body = true := by
  have h : ∀ st ∈ [PortState.hello, .miswired, .dark, .up], partnerOf (wHello 99 st) 0 = some (1, 1) ∧ u16 (hdrFrame helloRx.bytes).body 0 = 1
    ∧ u8 (hdrFrame helloRx.bytes).body 2 = 1 ∧ (wHello 99 st).cfg.oldIdent = some (u32 (hdrFrame helloRx.bytes).body 4, 5100)
    ∧ (wHello 99 st).repl.cur ≤ 5100 := by decide +kernel
  exact fun st hst => hello_matches (h st hst)

/-- Transfer frames: request, block, end, ready, abort, and a SNAPSHOT frame. -/
def frames4 : List RxFrame :=
  [rx 0x31 ([1, 0x11] ++ le 2 1 ++ le 4 5004 ++ zeros 8) 1 0xFFFE, rx 0x31 ([2, 1] ++ le 2 1 ++ le 4 4990 ++ zeros 136) 1 0xFFFE
   , rx 0x31 ([3, 1] ++ le 2 1 ++ le 4 4990 ++ zeros 8) 1 0xFFFE, rx 0x30 ([4, 1] ++ le 2 1 ++ le 4 4990 ++ zeros 8) 1 0xFFFE
   , rx 0x31 ([5, 1] ++ le 2 1 ++ le 4 4990 ++ zeros 8) 1 0xFFFE, rx 0x32 (zeros 16) 1 0xFFFE]
theorem hyp_transfer_frames : ∀ r ∈ frames4, ∀ s ∈ [wUp, wReq true false 4998, wProv 0], Units s ∧ ArrivesLocal s r := by
  have h : (frames4.all fun r => [wUp, wReq true false 4998, wProv 0].all fun s => localOk s r) = true := by decide +kernel
  exact fun r hr s hs => local_of (List.all_eq_true.mp (List.all_eq_true.mp h r hr) s hs)
theorem hyp_transfer_bodies : (let b := (hdrFrame (nth frames4 0).bytes).body; 16 ≤ b.length ∧ u8 b 0 = 1 ∧ mayProvide wUp = true ∧ wUp.repl.prov = none
      ∧ wUp.repl.rep.scheduled = none ∧ wUp.repl.lastEval = some 4998 ∧ 4998 < liftEpoch wUp (u32 b 4) ∧ (wProv 0).repl.prov ≠ none)
    ∧ (∀ k ∈ [1, 2, 4], ofTransfer (requester1 true false) 0 (hdrFrame (nth frames4 k).bytes) = true)
    ∧ (let b := (hdrFrame (nth frames4 1).bytes).body; b.length = 144 ∧ u32 b 8 < blockCount)
    ∧ (let b := (hdrFrame (nth frames4 4).bytes).body; u8 b 0 = 5 ∧ (provider1 0).node = 1 ∧ u16 b 2 = (provider1 0).id)
    ∧ (let b := (hdrFrame (nth frames4 3).bytes).body; u8 b 0 = 4 ∧ wUp.repl.member = true ∧ inReplica wUp = true ∧ wUp.repl.joinOf = []) := by decide +kernel

/-- A frame that goes on to node 70, one of a type not listed, one whose CRC is bad and one whose header is. -/
def passing : RxFrame := rx 0x10 upd1.bytes 1 70 9
def unlisted : RxFrame := rx 0x7F (zeros 4) 1 0xFFFF 9
theorem hyp_switch : Units wUp ∧ switchRuns wUp = true ∧ isUp wUp 0 = true ∧ nth wUp.inj 0 = none ∧ hasImage wUp = true ∧ bridgeRole wUp = 0
    ∧ (∀ r ∈ [passing, unlisted], let f := hdrFrame r.bytes
        headerOk r.bytes = true ∧ crcOk r.bytes = true ∧ 24 ≤ r.bytes.length ∧ r.bytes.length ≤ 264 ∧ f.dest ≠ 0xFFFE ∧ f.origin ≠ wUp.node
          ∧ votedAgainst wUp f = false ∧ f.ttl ≠ 1 ∧ f.dest ≠ wUp.node ∧ (f.dest ≠ 0xFFFF ∨ frameClass f.type = none)
          ∧ (acceptOrigin wUp.fab.origins f).isSome = true ∧ acceptOrigin [{ node := 1, inc := 1, high := 9, seen := 1 }] f = none)
    ∧ crcOk (passing.bytes.take 40 ++ [1, 2, 3, 4]) = false ∧ headerOk (passing.bytes.take 40 ++ [1, 2, 3, 4]) = true
    ∧ headerOk (0x11 :: passing.bytes.drop 1) = false ∧ (hdrFrame (rx 0x7F (zeros 4)).bytes).ttl = 1 :=
  ⟨units_of _ (by decide +kernel), by decide +kernel⟩

/-- The same frame at a bridge, which carries it on to its trunk ports. -/
def wBridgeUp : State := { wBridge with fab := wUp.fab }
theorem hyp_switch_bridge : Units wBridgeUp ∧ switchRuns wBridgeUp = true ∧ isUp wBridgeUp 0 = true ∧ bridgeRole wBridgeUp ≠ 0
    ∧ hasImage wBridgeUp = true ∧ (let f := hdrFrame passing.bytes
        (acceptOrigin wBridgeUp.fab.origins f).isSome = true ∧ f.type = 0x10 ∧ f.trunk = false ∧ f.dest ≠ 0xFFFF
          ∧ segOf f.dest ≠ segOf wBridgeUp.node ∧ votedAgainst wBridgeUp f = false ∧ f.origin ≠ wBridgeUp.node ∧ f.ttl ≠ 1) :=
  ⟨units_of _ (by decide +kernel), by decide +kernel⟩

/-! ### Ports, time and founding -/

theorem hyp_ports : Units wUp ∧ wUp.repl.req = none ∧ linkFrames wUp 0 = true ∧ downSuspended wUp = false ∧ isUp wUp 0 = true
    ∧ 3000 ≤ litSince wUp (fport wUp 0).lastHello ∧ (fport wUp 0).departTimes = [] ∧ ([] : List Nat).length < 9
    ∧ (let s := { wUp with fab := { wUp.fab with ports := upd wUp.fab.ports 3 (fun x => { x with state := .held, heldUntil := 100000000 }) } }
       unitCounts s = true ∧ (fport s 3).state = .held ∧ (fport s 3).heldUntil ≤ s.tm.now) := ⟨units_of _ (by decide +kernel), by decide +kernel⟩
/-- A QUIET system 30 ms into a cycle. -/
def wQuiet (us : Nat) : State := { wUp with cfg := { wUp.cfg with len := 50000 }, tm := { wUp.tm with fab := some (us * 1000) } }
theorem hyp_quiet : Units (wQuiet 5000) ∧ (∀ p ∈ [(5000, 5), (23999, 5), (25000, 25), (49999, 25), (4000, 4), (24000, 24), (24999, 24)],
    quietSystem (wQuiet p.1) = true ∧ (wQuiet p.1).fab.quietMs ≠ p.2 ∧ p.2 * 1000 ≤ quietPhase (wQuiet p.1)) := ⟨units_of _ (by decide +kernel), by decide +kernel⟩
theorem hyp_dark : (let s := { wQuiet 24000 with clk := { w.clk with ref := some .bosc }, fab := { wUp.fab with ports := upd wUp.fab.ports 0 fun x =>
      { x with state := .dark, quietHello := true } } }
    Units s ∧ s.clk.ref = some .bosc ∧ (fport s 0).state = .dark ∧ (fport s 0).sync = true ∧ (fport s 0).quietHello = true
      ∧ (fport s 1).state = .up ∧ carriesTransfer s 1 = false ∧ s.fab.quietMs ≠ 24 ∧ quietPhase s < 25000)
    ∧ carriesTransfer (wReq true false 4998) 0 = true ∧ wUp.clk.ref ≠ some .bosc := ⟨⟨units_of _ (by decide +kernel), by decide +kernel⟩, by decide +kernel⟩
theorem hyp_time : Units wUp ∧ (fport wUp 0).delayDue ≤ wUp.tm.now ∧ hasImage wUp = true ∧ wUp.fab.announceDue ≤ wUp.tm.now ∧ wUp.pw.failing = false
    ∧ bridgeRole wUp = 0 ∧ timeClass { wUp with fab := { wUp.fab with master := some 0 } } ≤ 3 ∧ wUp.tm.fab.isSome = true
    ∧ upstreamChoice wUp = none ∧ wUp.tm.persistDue ≤ wUp.tm.now ∧ wUp.tm.anchorDue ≤ wUp.tm.op := ⟨units_of _ (by decide +kernel), by decide +kernel⟩
theorem hyp_cold_start :
    let s := { wUp with fab := { wUp.fab with firstUp := some 0 } }
    let c := { wUp with fab := { wUp.fab with firstUp := some 0, cold := some 98000000
                                              announces := [{ node := 1, cls := 3, persisted := 77, master := 0xFFFF, at_ := 100000000 }] } }
    Units s ∧ Units c ∧ timeClass s = 4 ∧ s.fab.cold = none ∧ max 0 s.fab.lastGoodAnnounce + 2000000 ≤ s.tm.now
      ∧ 98000000 + 2000000 ≤ c.tm.now ∧ c.fab.master = none ∧ (∀ a ∈ c.fab.announces, a.cls = 3 → litSince c a.at_ < 300000 → c.node < a.node) :=
  ⟨units_of _ (by decide +kernel), units_of _ (by decide +kernel), by decide +kernel⟩
def wFounder : State := { wFound with fab := { wFound.fab with master := some 0 }, repl := { wFound.repl with founding := {} } }
theorem hyp_found : Units wFounder ∧ mayFound wFounder = true ∧ wFounder.fab.master = some wFounder.node ∧ wFounder.tm.fab.isSome = true
    ∧ wFounder.repl.founding.founder = false ∧ wFounder.repl.founding.quietSince + 5000000 ≤ wFounder.tm.now ∧ 0 < wFounder.cfg.len
    ∧ wFounder.cfg.base.2 ≤ (fabUs wFounder).getD 0 := ⟨units_of _ (by decide +kernel), by decide +kernel⟩
theorem hyp_founding_sends :
    let a := { wFounder with repl := { wFounder.repl with founding := { wFounder.repl.founding with ef := some 5400, founder := true } } }
    let b := { a with repl := { a.repl with founding := { a.repl.founding with founder := false } } }
    Units a ∧ bridgeRole a = 0 ∧ a.repl.founding.announceDue ≤ a.tm.now ∧ (fabUs a).getD 0 < epochStart a 5400 ∧ awaitsRoster b 5400 = true
      ∧ b.repl.founding.readyDue ≤ b.tm.now := ⟨units_of _ (by decide +kernel), by decide +kernel⟩

/-! ### Analogue channels, loops and instruments -/

/-- Channel c on slice n of bank 0 in a phase, the channel as given. -/
def wChan (c n : Nat) (p : SlicePhase) (f : Chan → Chan := id) : State := { w with ana := { w.ana with
  slices := upd w.ana.slices n (fun x => { x with phase := p, rate := effRate w (chanCfg w c), chop := effChop w (chanCfg w c) })
  chans := upd w.ana.chans c (fun x => f { x with slice := some n }) } }
def result1 (frame reread : BitVec 64) (lim high : Bool) : ConvResult := { raw := [1000], overload := high, frame, reread, excLimit := lim, endUs := 50000000 }
theorem hyp_conversion : (let s := wChan 0 0 .run
    Units s ∧ ((slice s 0 0).phase = .settle ∨ (slice s 0 0).phase = .run) ∧ servedBy s 0 0 = some 0 ∧ (chanCfg s 0).mode ≠ 0 ∧ visitOn s 0 = none
      ∧ (chanCfg s 0).pulsed = false ∧ (chan s 0).late = none ∧ (slice s 0 0).rate = effRate s (chanCfg s 0)
      ∧ (slice s 0 0).chop = effChop s (chanCfg s 0) ∧ goodResult (result1 0 1 false false) = true
      ∧ (chan s 0).isOpen = false ∧ (chan s 0).excFault = false ∧ (chan s 0).remap = none ∧ (chan s 0).retry = false
      ∧ (let code := combine (chanCfg s 0) (slice s 0 0).chop
            (((result1 0 1 false false).raw.take (subCount (chanCfg s 0) (slice s 0 0).chop)).map (calibrate (slice s 0 0)));
         -8388607 ≤ code ∧ code ≤ 8388607)) := ⟨units_of _ (by decide +kernel), by decide +kernel⟩
theorem hyp_conversion_open : (chan (wChan 0 0 .run fun x => { x with isOpen := true }) 0).isOpen = true
    ∧ (let s := wChan 0 0 .run fun x => { x with excFault := true }; (chan s 0).excFault = true ∧ (result1 0 0 true false).excLimit = true)
    ∧ frameOk (result1 1 2 false false).frame = false ∧ frameOk (result1 1 2 false false).reread = false ∧ frameOk 0 = true
    ∧ (let s := wChan 0 0 .run fun x => { x with overrange := true };
       (chan s 0).overrange = true ∧ (result1 0 0 false true).overload = true)
    ∧ (let s := wChan 0 0 .run fun x => { x with inRange := true }; (chan s 0).overrange = false ∧ (chan s 0).inRange = true ∧ (chan s 0).retry = false)
    ∧ (chan (wChan 0 0 .run fun x => { x with inRange := false }) 0).inRange = false := by decide +kernel
theorem hyp_pulsed : (let s := wChan 1 1 .idle
    Units s ∧ (chan s 1).slice = some 1 ∧ (chanCfg s 1).pulsed = true ∧ (chanCfg s 1).mode ≠ 0 ∧ (chan s 1).requestDue ≤ s.tm.now
      ∧ (slice s 0 1).phase = .idle ∧ (slice (wChan 1 1 .run) 0 1).phase ≠ .idle) := ⟨units_of _ (by decide +kernel), by decide +kernel⟩
theorem hyp_lead : (let s := wChan 1 1 .lead; Units s ∧ (slice s 0 1).phase = .lead ∧ (slice s 0 1).leadEnd ≤ s.tm.now ∧ servedBy s 0 1 = some 1) :=
  ⟨units_of _ (by decide +kernel), by decide +kernel⟩
theorem hyp_window : (let s := wChan 0 0 .run
    Units s ∧ (chan s 0).slice = some 0 ∧ (chanCfg s 0).mode ≠ 0 ∧ (chan s 0).inWindow = false ∧ (slice s 0 0).phase ≠ .check
      ∧ (chanCfg s 0).wire = true ∧ (chan s 0).windowDue ≤ s.tm.now ∧ (chanCfg s 0).fsk = false)
    ∧ (let s := wChan 0 0 .run fun x => { x with windowWaits := true, windowDue := 99500000 };
       (chan s 0).windowWaits = true ∧ (chan s 0).windowDue + 500000 ≤ s.tm.now)
    ∧ (let s := wChan 0 0 .run fun x => { x with inWindow := true, isOpen := true, wireGood := 2 };
       (chan s 0).inWindow = true ∧ (chan s 0).windowEnd ≤ s.tm.now ∧ (chan s 0).check = none ∧ (0 : Nat) * 10 < 8 * (chanCfg s 0).openKohm * 1000) :=
  ⟨⟨units_of _ (by decide +kernel), by decide +kernel⟩, by decide +kernel⟩
theorem hyp_clamp : Units w ∧ (bankSt w 3).clamps.length = 40
    ∧ (let k : Clamp := { flag := true, ended := 99000000 }; k.flag = true ∧ k.conducting = false ∧ k.ended + 1000000 ≤ w.tm.now)
    ∧ ((List.range 8).map (8 * 3 + ·)).any (fun c => (claimed (chanCfg w c)).contains 40) = false
    ∧ (nth (bankSt w 3).clamps 39).flag = false ∧ (nth (bankSt w 3).clamps 39).lastEvent = none
    ∧ (nth (bankSt w 3).clamps 39).cleared + 10000000 ≤ w.tm.now := ⟨units_of _ (by decide +kernel), by decide +kernel⟩
theorem hyp_self_check : (let s := wChan 0 0 .check
    Units s ∧ (slice s 0 0).phase = .check ∧ visitBy s 0 0 = none ∧ servedBy s 0 0 = some 0 ∧ visitOn s 0 = none ∧ (chan s 0).check = none ∧ (chan s 0).requestWaits = false
      ∧ (chan s 0).retry = false ∧ (slice s 0 0).fails + 1 < 3)
    ∧ (let s := { wChan 0 0 .check with ana := { (wChan 0 0 .check).ana with slices := upd w.ana.slices 0 (fun x => { x with phase := .check, fails := 2 }) } }
       2 ≤ (slice s 0 0).fails) := ⟨⟨units_of _ (by decide +kernel), by decide +kernel⟩, by decide +kernel⟩
def wAlone : State := { wChan 0 0 .run with ana := { (wChan 0 0 .run).ana with
  slices := (wChan 0 0 .run).ana.slices.take 1 ++ List.replicate 39 ({ phase := .retired } : Slice) } }
theorem hyp_check_timer : (let s := wAlone
    Units s ∧ (chan s 0).slice = some 0 ∧ servedBy s 0 0 = some 0 ∧ (chan s 0).checkDue ≤ s.tm.now ∧ (chanCfg s 0).mode ≠ 0 ∧ visitOn s 0 = none ∧ rovers s 0 = []
      ∧ (slice s 0 0).phase ≠ .check ∧ (slice s 0 0).phase ≠ .retired ∧ (chanCfg s 0).pulsed = false) := ⟨units_of _ (by decide +kernel), by decide +kernel⟩
theorem hyp_rove : (let s := wChan 0 0 .run
    Units s ∧ 9 ∈ rovers s 0 ∧ visitBy s 0 9 = none ∧ (slice s 0 9).phase = .off ∧ (bankSt s 0).wanted = []
      ∧ nextVisit s 0 ((rovers s 0).findIdx (· == 9)) = some 0) := ⟨units_of _ (by decide +kernel), by decide +kernel⟩
def remap1 : Remap := { new := 9, old := 0, decided := 0, at_ := 100000000 }
theorem hyp_remap : (let s := wChan 0 0 .run fun x => { x with remap := some remap1 };
    Units s ∧ (chan s 0).remap = some remap1 ∧ remap1.done = false ∧ remap1.at_ ≤ s.tm.now ∧ remap1.new < 10) := ⟨units_of _ (by decide +kernel), by decide +kernel⟩
theorem hyp_refresh : (let s := { w with repl := { w.repl with fieldOn := true } }; Units s ∧ refreshing s = true) ∧ frameOk 0 = true ∧ frameOk 1 = false :=
  ⟨⟨units_of _ (by decide +kernel), by decide +kernel⟩, by decide +kernel⟩
theorem hyp_bank : Units w ∧ w.pw.valid = true ∧ bankHold w 0 ≠ 0
    ∧ (let s := { w with ana := { w.ana with banks := upd w.ana.banks 0 (fun x => { x with lastFrame := some 99000000, strapNew := 2, strapRun := 2 }) } }
       unitCounts s = true ∧ (bankSt s 0).lastFrame = some 99000000 ∧ 99000000 + bankHold s 0 * 1000 ≤ s.tm.now
         ∧ 2 = (bankSt s 0).strapNew ∧ 2 ≤ (bankSt s 0).strapRun ∧ 2 ≠ (bankSt s 0).strap ∧ isOutputMode (chanCfg s 2).mode = true) :=
  ⟨units_of _ (by decide +kernel), by decide +kernel⟩
def reading1 (ch : Nat) : LoopReading := { channel := ch, currentUa := 0, vtMv := 10000, tempDeci := 1250, fullyOn := true }
theorem hyp_loop : Units w ∧ w.pw.valid = true ∧ isLoopMode (chanCfg w 2).mode = true ∧ isLoopMode (chanCfg w 3).mode = true ∧ (reading1 2).channel = 2
    ∧ (chan w 2).retired = 0 ∧ supplied (chanCfg w 2).mode = true ∧ (loopSt w 2).thermal = false ∧ 1250 ≤ (reading1 2).tempDeci
    ∧ (let s := { w with ana := { w.ana with loops := upd w.ana.loops 2 (fun l => { l with badSince := some 99800000 }) } }
       unitCounts s = true ∧ (loopSt s 2).badSince = some 99800000 ∧ 99800000 + 200000 ≤ s.tm.now ∧ (loopSt s 2).fault = false)
    ∧ (let s := { w with ana := { w.ana with loops := upd w.ana.loops 2 (fun l => { l with fault := true, goodSince := some 99000000 }) } }
       unitCounts s = true ∧ (loopSt s 2).goodSince = some 99000000 ∧ 99000000 + 1000000 ≤ s.tm.now ∧ (loopSt s 2).fault = true) :=
  ⟨units_of _ (by decide +kernel), by decide +kernel⟩
/-- The instrument at slot 1 of loop 2, and a transaction. -/
def wHart (l : Loop → Loop) : State :=
  { w with ana := { w.ana with chans := upd w.ana.chans 2 (fun x => { x with slice := some 2 })
                               loops := upd w.ana.loops 2 (fun x => l { x with insts := [{ slot := 1, poll := 0 }] }) } }
def trans1 (attempts : Nat) (sent : Option Nat) : Trans := { kind := 2, slot := 1, command := 9, attempts, cmd := some (cmd []), sent }
theorem hyp_hart : Units (wHart id) ∧ fskUp (wHart id) 2 = true ∧ (loopSt (wHart id) 2).trans = none ∧ (instAt (wHart id) 2 1).found = false
    ∧ (instAt (wHart id) 2 1).nextRead ≤ (wHart id).tm.now ∧ (∃ i ∈ (loopSt (wHart id) 2).insts, i.slot = 1)
    ∧ (let s := wHart fun l => { l with trans := some (trans1 0 none) };
       fskUp s 2 = true ∧ (loopSt s 2).trans = some (trans1 0 none) ∧ (chan s 2).slice.isSome = true ∧ (chan s 2).inWindow = false ∧ (loopSt s 2).carrierEnd + 50000 ≤ s.tm.now
         ∧ (chanCfg s 2).wire = false)
    ∧ (let s := wHart fun l => { l with trans := some (trans1 2 (some 99650000)) };
       (loopSt s 2).trans = some (trans1 2 (some 99650000)) ∧ 99650000 + 350000 ≤ s.tm.now ∧ 3 ≤ (trans1 2 none).attempts + 1
         ∧ (trans1 2 none).kind = 2 ∧ (trans1 2 none).cmd = some (cmd []) ∧ (cmd []).port < 8) :=
  ⟨units_of _ (by decide +kernel), by decide +kernel, by decide +kernel, by decide +kernel, by decide +kernel
  , ⟨_, List.mem_singleton.mpr rfl, rfl⟩, by decide +kernel⟩
/-- HART: a burst from the short address 0, and the answer to the identity read of an instrument not yet known. -/
def withCheck (l : List Nat) : Bytes := l.map (BitVec.ofNat 8) ++ [BitVec.ofNat 8 (l.foldl Nat.xor 0)]
def burst1 : Bytes := withCheck [0x01, 0x80, 3, 2, 0, 0]
def ident1 : Bytes := withCheck ([0x06, 0x80, 0, 14, 0, 0] ++ [254, 38, 5, 5, 7, 1, 1, 0, 0, 1, 2, 3])
theorem hyp_hart_frames : ((HartFrame.parse burst1).map (·.burst)) = some true
    ∧ (let s := wHart fun l => { l with trans := some { kind := 0, slot := 1, command := 0, sent := some 99900000 } };
       ((HartFrame.parse ident1).map fun f => (f.burst, f.ack, f.primary, f.isFrom (instAt s 2 1) 0, decide (2 ≤ f.body.length), (u8 f.body 0).testBit 7))
         = some (false, true, true, true, true, false) ∧ (instAt s 2 1).known = false ∧ (chan s 2).inWindow = false) := by decide +kernel

/-! ### Digital channels, clocks and supplies -/

/-- Output 1 on FS1 at 24 V, commanded on, with the cell as given. -/
def wCell (f : Cell → Cell) : State := { w with dio :=
  { cells := upd w.dio.cells 0 (fun c => f { c with latch := true, framed := true, lastFrame := some 99900000 })
    fs := [{ state := 0, mv := 24000 }, {}] } }
theorem hyp_cells : Units (wCell id) ∧ isDio 1 = true ∧ (dioCfg (wCell id) 1).mode = 2 ∧ blanked (wCell id) 2 = false
    ∧ (dioCfg (wCell id) 1).hold = 100 ∧ (cell (wCell id) 1).expired = false
    ∧ (cell (wCell id) 1).lastFrame = some 99900000 ∧ 99900000 + 100 * 1000 ≤ (wCell id).tm.now
    ∧ (let p := (cmd [1, 0, 0, 0]).payload; p.length = 4 ∧ allZero p 1 3 = true ∧ u8 p 0 = 1)
    ∧ (cell (wCell fun c => { c with retired := true }) 1).retired = true
    ∧ (let s := wCell fun c => { c with turnAt := some 100000000 };
       (cell s 1).turnAt = some 100000000 ∧ 100000000 ≤ s.tm.now ∧ (fsOf s 1).state ≠ 3) := ⟨units_of _ (by decide +kernel), by decide +kernel⟩
theorem hyp_supplies : (nth (wCell id).dio.fs 0).state ≠ 3 ∧ (∀ mv ∈ [12000, 16000, 19200, 36000], mv ≤ 36000 ∧ fsBand mv ≠ 3) ∧ fsBand 11999 = 3
    ∧ (nth (wCell id).dio.fs 1).state = 3 := by decide +kernel
theorem hyp_overload : Units (wCell id) ∧ driverOn (wCell id) 1 = true ∧ (cell (wCell id) 1).attempts < 3
    ∧ (let s := wCell fun c => { c with attempts := 3 }; driverOn s 1 = true ∧ 3 ≤ (cell s 1).attempts)
    ∧ (let s := wCell fun c => { c with overload := true, retryAt := some 100000000 };
       (cell s 1).overload = true ∧ commanded s 1 = true ∧ (cell s 1).turnAt = none ∧ (fsOf s 1).state ≠ 3 ∧ 100000000 ≤ s.tm.now)
    ∧ (let s := wCell fun c => { c with overload := true, lastTry := 99000000 }; (cell s 1).retryAt = none ∧ (cell s 1).lastTry + 1000000 ≤ s.tm.now) :=
  ⟨units_of _ (by decide +kernel), by decide +kernel⟩
/-- The same output a time in µs into its off-pulse. -/
def wPulse (us : Nat) : State := { wCell id with tm := { w.tm with fab := some ((50000000 + us) * 1000) } }
theorem hyp_faults : faultTimers (wCell id) 1 5000 = true ∧ driverOn (wCell id) 1 = true ∧ (cell (wCell id) 1).stuck = false
    ∧ faultTimers (wCell id) 1 0 = true ∧ (cell (wCell fun c => { c with stuck := true }) 1).stuck = true
    ∧ (let s := wCell fun c => { c with latch := false }; faultTimers s 1 5000 = true ∧ commanded s 1 = false ∧ (cell s 1).backfeed = false)
    ∧ (cell (wCell fun c => { c with backfeed := true }) 1).backfeed = true ∧ pulseRuns (wCell id) 1 = true ∧ pulsePhase (wPulse 100) 1 = 100 ∧ pulseRuns (wPulse 100) 1 = true
    ∧ (dioCfg (wCell id) 1).openCheck = true ∧ faultTimers (wCell id) 1 1000000 = true ∧ (cell (wCell id) 1).openLoad = false
    ∧ (let s := wCell fun c => { c with openLoad := true, cross := true, passes := 2 };
       driverOn s 1 = true ∧ (cell s 1).openLoad = true ∧ (cell s 1).cross = true ∧ 2 ≤ (cell s 1).passes) := by decide +kernel

/-- The start sequence at a time in ms, with the oscillators as given. -/
def wStart (ms : Nat) (f : Clocks → Clocks) : State := { State.reset with
  pw := { State.reset.pw with valid := true, step := 2 }
  tm := { State.reset.tm with now := ms * 1000 }
  clk := f { State.reset.clk with xoRunning := true, boscRunning := true, boscAttempt := 1, wosc := true } }
theorem hyp_clock_start : State.reset.pw.valid = false ∧ Units (wStart 40 id) ∧ (wStart 40 id).core = .held ∧ (wStart 40 id).pw.step = 2
    ∧ (wStart 40 id).tm.now ≤ (wStart 40 id).clk.seqStart + 40000 ∧ (wStart 40 id).clk.seqStart + 40000 ≤ (wStart 40 id).tm.now
    ∧ (wStart 40 id).clk.boscTripped = false ∧ (wStart 40 id).clk.boscStable = false
    ∧ (let s := wStart 40 fun k => { k with boscAttempt := 4 }; s.clk.boscAttempt = 4 ∧ s.clk.seqStart + 10000 * s.clk.boscAttempt ≤ s.tm.now)
    ∧ (let s := wStart 10 fun k => { k with boscAttempt := 1 }; s.clk.boscAttempt < 4 ∧ s.clk.seqStart + 10000 * s.clk.boscAttempt ≤ s.tm.now)
    ∧ stableCount true [(16384, 1)] = false ∧ stableCount true [(40, 410)] = true ∧ stableCount false [(25, 2622)] = true
    ∧ stableCount false [(25, 2622), (14, 1)] = false
    ∧ (wStart 10 fun k => { k with xoStable := true }).clk.xoStable = true ∧ (wStart 40 fun k => { k with boscStable := true }).clk.boscStable = true :=
  ⟨rfl, units_of _ (by decide +kernel), by decide +kernel⟩
/-- F0 UP to a partner of time class 1. -/
def wPartner : State := { wUp with fab := { wUp.fab with ports := upd wUp.fab.ports 0 (fun x => { x with partnerClass := 1 }) } }
theorem hyp_clock_trip : Units wPartner ∧ wPartner.pw.valid = true ∧ wPartner.core = .running ∧ wPartner.clk.ref = some .xo ∧ wPartner.clk.xoStable = true
    ∧ tripOf wPartner (.stop 0 1) = none ∧ tripOf wPartner (.stop 0 2) = some (.xo, 1, 0) ∧ tripOf wPartner (.derived 2) = some (.inUse, 5, 0)
    ∧ tripOf w (.stop 2 2) = some (.bosc, 1, 0) ∧ fabricRef wPartner none = some 0 ∧ fabricRef w none = none ∧ w.clk.boscStable = false ∧ inReplica w = true
    ∧ (let s := { w with clk := { w.clk with boscStable := true } }; s.clk.boscStable = true ∧ s.clk.boscTripped = false ∧ s.clk.ref = some .xo) :=
  ⟨units_of _ (by decide +kernel), by decide +kernel⟩
theorem hyp_clock_retries :
    let a := { wPartner with clk := { wPartner.clk with ref := some (.fabric 0) } }
    let b := { wPartner with op := .island, clk := { wPartner.clk with ref := some .bosc, ratio := 39 } }
    Units a ∧ Units b ∧ a.clk.ref.isSome = true ∧ a.clk.ref ≠ some .xo ∧ a.clk.xoRetryAt ≤ a.tm.now ∧ b.clk.ref = some .bosc ∧ b.op = .island
      ∧ a.clk.boscRunning = false ∧ a.clk.boscRetryAt ≤ a.tm.now ∧ xoUsable a [(25, 2622)] [] [] = true
      ∧ xoUsable a [] [] [] = false ∧ xoUsable b [(25, 2622)] [] [] = true
      ∧ w.clk.woscTripped = false ∧ ({ w.clk with woscTripped := true, woscGood := 9 } : Clocks).woscTripped = true :=
  ⟨units_of _ (by decide +kernel), units_of _ (by decide +kernel), by decide +kernel⟩
theorem hyp_supply : Units w ∧ w.pw.failing = false ∧ w.pw.warning = false ∧ w.pw.valid = true ∧ w.rcd.isOpen = true ∧ w.repl.member = true
    ∧ inReplica w = true ∧ w.sec.keyClosed = false ∧ wKey.sec.keyClosed = true ∧ (∀ i, i < 8 → nth wKey.inj i = none)
    ∧ (let s := { w with op := .start, repl := { w.repl with member := false } }
       s.op = .start ∧ s.pw.step = 7 ∧ s.repl.member = false ∧ hasImage s = true ∧ s.pw.startFailedWritten = false
         ∧ s.pw.stepTime + 60000000 ≤ s.tm.now) := ⟨units_of _ (by decide +kernel), by decide +kernel⟩
theorem hyp_dram : dramBlock 0x01FFFFFF = some .descriptors ∧ dramLocation .descriptors ≠ 3 ∧ dramBlock 0x04000000 = some .shadow ∧ dramLocation .shadow = 2
    ∧ dramBlock 0x1FFFFFFF = some .unused ∧ dramLocation .unused = 3 ∧ dramBlock 0x20000000 = none
    ∧ (loopSt w 2).forced = none ∧ (bankSt wForced 0).expired = false ∧ (loopSt wForced 2).failing = false := by decide +kernel
theorem hyp_spent : (let s := { State.reset with pw := { State.reset.pw with holdupSpent := false } }
    Units s ∧ s.pw.valid = false ∧ s.pw.holdupSpent = false) := ⟨units_of _ (by decide +kernel), rfl, rfl⟩
theorem hyp_without_clock : (let s := { State.reset with core := .clockless, pw := { State.reset.pw with valid := true } }
      Units s ∧ s.core = .clockless ∧ s.pw.valid = true ∧ s.pw.failing = false)
    ∧ (let s := { State.reset with pw := { State.reset.pw with valid := true, failing := true } }; Units s ∧ s.core = .held ∧ s.pw.failing = true) :=
  ⟨⟨units_of _ (by decide +kernel), by decide +kernel⟩, units_of _ (by decide +kernel), by decide +kernel⟩
def startReport (lanes : BitVec 3) (dram : Bool) : StartReport := { (default : StartReport) with lanesPass := lanes, dramPass := dram, diesAnswer := 31 }
/-- The core released, step 4. -/
def wRelease (restarts : List Nat) : State := { wStart 10 id with
  pw := { (wStart 10 id).pw with step := 4, upCause := 3, restartCause := 1, restarts }
  clk := { (wStart 10 id).clk with pllLocked := true, ref := some .xo } }
theorem hyp_core_start : Units (wRelease []) ∧ (wRelease []).core = .held ∧ (wRelease []).pw.step = 4 ∧ (wRelease []).clk.pllLocked = true
    ∧ (wRelease []).pw.failing = false ∧ restartHeld (wRelease []) = false ∧ restartHeld (wRelease [0, 0, 0, 0]) = true
    ∧ (7 - (startReport 0 true).lanesPass.toNat) &&& laneMask (wRelease []) = laneMask (wRelease [])
    ∧ (7 - (startReport 6 true).lanesPass.toNat) &&& laneMask (wRelease []) ≠ laneMask (wRelease []) := ⟨units_of _ (by decide +kernel), by decide +kernel⟩
/-- The same after a supply start, which runs the memory test. -/
theorem hyp_core_start_memory : (let s := { wRelease [] with pw := { (wRelease []).pw with upCause := 1 } }
      Units s ∧ s.core = .held ∧ s.pw.step = 4 ∧ s.clk.pllLocked = true ∧ s.pw.failing = false ∧ restartHeld s = false ∧ s.pw.upCause ≠ 3
        ∧ (startReport 7 false).dramPass = false ∧ (7 - (startReport 7 false).lanesPass.toNat) &&& laneMask s ≠ laneMask s) :=
  ⟨units_of _ (by decide +kernel), by decide +kernel⟩

/-! ## Single commands -/

theorem test_supply_valid_starts_bosc : (match exec (.supplyValid 18000 100) State.reset with | .next t => t.clk.boscAttempt | _ => 9) = 1 := by decide +kernel
theorem test_core_starts : (match exec (.coreStartUp (startReport 7 true)) (wRelease []) with
    | .next t => (t.core, t.pw.step, t.tm.powerCount, t.rcd.isOpen) | _ => (.held, 0, 0, false)) = (.running, 5, 1, true) := by decide +kernel
/-- Table 17-1: 18.0 V is NORMAL, below it LOW. -/
theorem test_supply_bounds : [(18000 : Int), 17999, 10000, 9999, 32000, 32001].map supplyClass = [0, 1, 1, 2, 0, 3] := by decide +kernel
theorem test_frame_length : ((nth frames1 0).bytes).length = 36 := by decide +kernel

end Sys2Proof.Tests
end

section
set_option Elab.async false
/-! The parts of the state that an operation may change: `Modifies B s t` says that `t` has the units of `s` and
differs from it, in the parts named by `Aspect`, at most in those of `B`. -/

namespace Sys2Proof.Machine

/-- Parts of the state that few operations change: the counts of units, whether the core runs, the operating state, the
fuses and the key, the injectors, fabric time, operating time, its persisted copies, the power-cycle count, the
supply's flags, the step of the start, the PLL's reference, the lanes in service, the configuration, the epoch. -/
inductive Aspect where
  | units | core | op | sec | inj | fabTime | opTime | persist | powerCount | supply | startStep | ref | lanes | cfg | epoch

/-- `t` agrees with `s` in a part; of the units, that it has as many as the manual gives where `s` has. -/
def Aspect.Same : Aspect → State → State → Prop
  | .units, s, t => Units s → Units t
  | .core, s, t => t.core = s.core
  | .op, s, t => t.op = s.op
  | .sec, s, t => t.sec = s.sec
  | .inj, s, t => t.inj = s.inj
  | .fabTime, s, t => t.tm.fab = s.tm.fab
  | .opTime, s, t => t.tm.op = s.tm.op
  | .persist, s, t => t.tm.persistSeq = s.tm.persistSeq ∧ t.tm.copyA = s.tm.copyA ∧ t.tm.copyB = s.tm.copyB
  | .powerCount, s, t => t.tm.powerCount = s.tm.powerCount
  | .supply, s, t => t.pw.valid = s.pw.valid ∧ t.pw.failing = s.pw.failing
  | .startStep, s, t => t.pw.step = s.pw.step
  | .ref, s, t => t.clk.ref = s.clk.ref
  | .lanes, s, t => t.lanes.inService = s.lanes.inService
  | .cfg, s, t => t.cfg = s.cfg
  | .epoch, s, t => t.repl.cur = s.repl.cur

/-- `t` differs from `s` at most in the parts `B`. -/
def Modifies (B : Set Aspect) (s t : State) : Prop := ∀ a ∉ B, a.Same s t

/-- The counts of units at the ports, in the fabric, the recorder and elsewhere. -/
def Ports.sizes (p : Ports) : List Nat :=
  [p.inRings.length, p.outRings.length, p.high.length, p.drops.length, p.reserve.length, p.notifs.length, p.links.length
   , p.echo.length, p.arpSent.length, p.echoSent.length]
def Fabric.sizes (x : Fabric) : List Nat := [x.ports.length, x.out.length, x.inQ.length]
def Recorder.sizes (r : Recorder) : List Nat := [r.dies.length, r.lost.length, r.wit.length]
def Analog.sizes (a : Analog) : List Nat := [a.slices.length, a.chans.length, a.loops.length, a.banks.length]
def Cfg.sizes (c : Cfg) : List Nat := [c.flash.length, c.selector.length] ++ c.dir.map List.length
def State.sizes (s : State) : List (List Nat) :=
  [s.ports.sizes, s.fab.sizes, s.rcd.sizes, s.ana.sizes, s.cfg.sizes
   , [s.sec.fuses.length, s.inj.length, s.dio.cells.length, s.dio.fs.length, s.disp.panels.length, s.repl.relays.length
      , s.age.entries.length]]

/-- The other parts that `Aspect` names. -/
def State.parts (s : State) :=
  ((s.core, s.op, s.sec, s.inj, s.tm.fab), (s.tm.op, s.tm.persistSeq, s.tm.copyA, s.tm.copyB, s.tm.powerCount)
   , (s.pw.valid, s.pw.failing, s.pw.step, s.clk.ref), s.lanes.inService, s.cfg, s.repl.cur)

/-- The node has its units exactly where the counts are those of the manual. -/
theorem units_iff (s : State) : Units s ↔ s.sizes =
    [[8, 8, 32, 32, 3, 5, 2, 2, 2, 2], [4, 4, 4], [5, 5, 2], [40, 32, 32, 4], [2, 6, 89, 89], [32, 8, 48, 2, 4, 2, 16]] := by
  simp only [State.sizes, Ports.sizes, Fabric.sizes, Recorder.sizes, Analog.sizes, Cfg.sizes, List.cons_append, List.nil_append
    , List.cons.injEq, and_true]
  constructor
  · rintro ⟨⟩; simp only [*, and_self]
  · rintro ⟨⟨_, _, _, _, _, _, _, _, _, _⟩, ⟨_, _, _⟩, ⟨_, _, _⟩, ⟨_, _, _, _⟩, ⟨_, _, _⟩, _, _, _, _, _, _, _⟩
    constructor <;> assumption

theorem Units.of_sizes {s t : State} (h : Units s) (e : t.sizes = s.sizes) : Units t :=
  (units_iff t).2 (e.trans ((units_iff s).1 h))

variable {B : Set Aspect} {s t u : State}

theorem Modifies.refl (B : Set Aspect) (s : State) : Modifies B s s := by
  rintro ⟨⟩ _ <;> simp [Aspect.Same]

theorem Aspect.Same.trans {a : Aspect} (h : a.Same s t) (k : a.Same t u) : a.Same s u := by
  cases a <;> simp_all [Aspect.Same]

/-- What changes a part of `B` alone, changes nothing else. -/
theorem Modifies.trans (h : Modifies B s t) (k : Modifies B t u) : Modifies B s u :=
  fun a ha => (h a ha).trans (k a ha)

theorem Modifies.mono {C : Set Aspect} (h : Modifies B s t) (hBC : B ⊆ C) : Modifies C s t :=
  fun a ha => h a fun hB => ha (hBC hB)

/-- An update outside of the parts named that leaves the node its units. -/
theorem Modifies.keep (h : Modifies B s t) (hu : Units t → Units u) (hp : u.parts = t.parts := by unfold State.parts; rfl) :
    Modifies B s u := by
  refine h.trans fun a _ => ?_
  simp only [State.parts, Prod.mk.injEq] at hp
  cases a <;> simp [Aspect.Same, hp]
  exact hu

/-- An update outside of the parts named that keeps the counts. -/
theorem Modifies.same (h : Modifies B s t) (hp : u.parts = t.parts := by unfold State.parts; rfl)
    (hs : u.sizes = t.sizes := by unfold State.sizes; rfl) : Modifies B s u :=
  h.keep (fun k => k.of_sizes hs) hp

/-- The parts of a list, as a set. -/
def Aspect.only (l : List Aspect) : Set Aspect := {a | a ∈ l}

@[simp] theorem Aspect.mem_only {a : Aspect} {l : List Aspect} : a ∈ Aspect.only l ↔ a ∈ l := Iff.rfl

/-- Every part of the list may change. -/
def Covers (B : Set Aspect) (l : List Aspect) : Prop := ∀ a ∈ l, a ∈ B

@[simp] theorem covers_nil : Covers B [] := by simp [Covers]
@[simp] theorem covers_cons {a : Aspect} {l : List Aspect} : Covers B (a :: l) ↔ a ∈ B ∧ Covers B l := by simp [Covers]

/-- An update of the parts of a list. -/
theorem Modifies.update {l : List Aspect} (h : Modifies B s t) (hu : Modifies (Aspect.only l) t u)
    (hB : Covers B l := by simp_all) : Modifies B s u :=
  h.trans (hu.mono hB)

/-- An update changes the parts that it does not leave the same. -/
theorem modifies_only (l : List Aspect) (hu : Units t → Units u) (hs : ∀ a ∉ l, a ≠ .units → a.Same t u) :
    Modifies (Aspect.only l) t u := by
  rintro (_ | _) ha
  · exact hu
  all_goals exact hs _ ha (by simp)

theorem Modifies.ite {c : Prop} [Decidable c] (ht : Modifies B s t) (hu : Modifies B s u) :
    Modifies B s (if c then t else u) := by split <;> assumption

theorem Modifies.elim {α : Type} {o : Option α} {f : α → State} (h : Modifies B s t) (hf : ∀ x, Modifies B s (f x)) :
    Modifies B s (o.elim t f) := by cases o <;> simp [h, hf]

theorem Modifies.foldl {α : Type} {l : List α} {f : State → α → State} (h : Modifies B s t)
    (hf : ∀ u x, Modifies B s u → Modifies B s (f u x)) : Modifies B s (l.foldl f t) := by
  induction l generalizing t with
  | nil => exact h
  | cons x l ih => exact ih (hf t x h)

/-! ### Updates of one part -/

theorem Modifies.ports {p : Ports} (h : Modifies B s t) (hp : p.sizes = t.ports.sizes) : Modifies B s { t with ports := p } :=
  h.same (hs := by simp [State.sizes, hp])

theorem Modifies.fab {x : Fabric} (h : Modifies B s t) (hx : x.sizes = t.fab.sizes) : Modifies B s { t with fab := x } :=
  h.same (hs := by simp [State.sizes, hx])

theorem Modifies.rcd {r : Recorder} (h : Modifies B s t) (hr : r.sizes = t.rcd.sizes) : Modifies B s { t with rcd := r } :=
  h.same (hs := by simp [State.sizes, hr])

theorem Modifies.relays {l : List Relay} (h : Modifies B s t) (hl : l.length = t.repl.relays.length) :
    Modifies B s { t with repl.relays := l } :=
  h.same (hs := by simp [State.sizes, hl])

theorem Modifies.setCfg {c : Cfg} (h : Modifies B s t) (hc : c.sizes = t.cfg.sizes) (_ : Covers B [.cfg] := by simp_all) :
    Modifies B s { t with cfg := c } :=
  h.update (modifies_only [.cfg] (fun k => k.of_sizes (by simp [State.sizes, hc])) (by rintro ⟨⟩ <;> simp [Aspect.Same]))

theorem Modifies.setFabTime {x : Option Nat} (h : Modifies B s t) (_ : Covers B [.fabTime] := by simp_all) :
    Modifies B s { t with tm.fab := x } :=
  h.update (modifies_only [.fabTime] (fun k => k.of_sizes rfl) (by rintro ⟨⟩ <;> simp [Aspect.Same]))

theorem Modifies.setCur {n : Nat} (h : Modifies B s t) (_ : Covers B [.epoch] := by simp_all) :
    Modifies B s { t with repl.cur := n } :=
  h.update (modifies_only [.epoch] (fun k => k.of_sizes rfl) (by rintro ⟨⟩ <;> simp [Aspect.Same]))

theorem Modifies.setInService {l : BitVec 3} (h : Modifies B s t) (_ : Covers B [.lanes] := by simp_all) :
    Modifies B s { t with lanes.inService := l } :=
  h.update (modifies_only [.lanes] (fun k => k.of_sizes rfl) (by rintro ⟨⟩ <;> simp [Aspect.Same]))

theorem Modifies.setStep {n : Nat} (h : Modifies B s t) (_ : Covers B [.startStep] := by simp_all) :
    Modifies B s { t with pw.step := n } :=
  h.update (modifies_only [.startStep] (fun k => k.of_sizes rfl) (by rintro ⟨⟩ <;> simp [Aspect.Same]))

theorem Modifies.setPersist {a b : Option (Nat × Nat × Nat)} {n : Nat} (h : Modifies B s t)
    (_ : Covers B [.persist] := by simp_all) :
    Modifies B s { t with tm.copyA := a, tm.copyB := b, tm.persistSeq := n } :=
  h.update (modifies_only [.persist] (fun k => k.of_sizes rfl) (by rintro ⟨⟩ <;> simp [Aspect.Same]))

/-! ### Rings, notifications, records and replies -/

theorem Modifies.ringUsed {q n : Nat} (h : Modifies B s t) : Modifies B s (t.ringUsed q n) :=
  .ports h (by simp [Ports.sizes])

theorem Modifies.ringDrop {q : Nat} (h : Modifies B s t) : Modifies B s (t.ringDrop q) :=
  .ports h (by simp [Ports.sizes])

theorem Modifies.pushOut {port : Nat} {o : OutPkt} (h : Modifies B s t) : Modifies B s (t.pushOut port o) :=
  .ringUsed (.ports h (by simp [Ports.sizes]))

theorem Modifies.pushNotif {n : Notif} (h : Modifies B s t) : Modifies B s (t.pushNotif n) :=
  .ite (.ringUsed (.ports h (by simp [Ports.sizes]))) (.ringDrop (.ringUsed (.ports h (by simp [Ports.sizes]))))

theorem Modifies.placeNotif {n : Notif} (h : Modifies B s t) : Modifies B s (t.placeNotif n) :=
  .ite h.pushNotif h

theorem Modifies.enqueue {i : QItem} (h : Modifies B s t) : Modifies B s (t.enqueue i) :=
  .ite h.same h

theorem Modifies.log {type : Nat} {body : Bytes} (h : Modifies B s t) : Modifies B s (t.log type body) :=
  h.enqueue

theorem Modifies.logNotifyAt {type : Nat} {body : Bytes} {op epoch : Nat} {nbody : Bytes} (h : Modifies B s t) :
    Modifies B s (t.logNotifyAt type body op epoch nbody) :=
  h.enqueue

theorem Modifies.logNotify {type : Nat} {body : Bytes} {op : Nat} {nbody : Bytes} (h : Modifies B s t) :
    Modifies B s (t.logNotify type body op nbody) :=
  h.enqueue

theorem Modifies.logEvent {type op : Nat} {body : Bytes} (h : Modifies B s t) : Modifies B s (t.logEvent type op body) :=
  h.enqueue

theorem Modifies.notify {op : Nat} {body : Bytes} (h : Modifies B s t) : Modifies B s (t.notify op body) :=
  .ite h.placeNotif h

theorem Modifies.setOp {o : OpState} (h : Modifies B s t) (_ : Covers B [.op] := by simp_all) : Modifies B s (t.setOp o) :=
  .ite h (.notify (h.update (modifies_only [.op] (fun k => k.of_sizes rfl) (by rintro ⟨⟩ <;> simp [Aspect.Same]))))

theorem Modifies.storeReply {c : Cmd} {pkt : Bytes} (h : Modifies B s t) : Modifies B s (t.storeReply c pkt) :=
  h.same

theorem Modifies.replyF {c : Cmd} {opcode status : Nat} {data : Bytes} {flags : Nat} (h : Modifies B s t) :
    Modifies B s (t.replyF c opcode status data flags) :=
  .pushOut h.storeReply

theorem Modifies.reply {c : Cmd} {opcode status : Nat} {data : Bytes} (h : Modifies B s t) :
    Modifies B s (t.reply c opcode status data) :=
  h.replyF

theorem Modifies.complete {c : Cmd} {opcode status : Nat} {data : Bytes} (h : Modifies B s t) :
    Modifies B s (t.complete c opcode status data) :=
  h.replyF

theorem Modifies.takeFree (h : Modifies B s t) : Modifies B s t.takeFree.2 :=
  h.same

theorem Modifies.pushFrame {cls : Nat} {x : TxFrame} (h : Modifies B s t) : Modifies B s (t.pushFrame cls x) :=
  .ringUsed (.fab h (by simp [Fabric.sizes]))

theorem Modifies.originate {type dest : Nat} {body : Bytes} {trunkToo : Bool} (h : Modifies B s t) :
    Modifies B s (t.originate type dest body trunkToo) :=
  .ite (.pushFrame (.pushFrame h.same)) (.pushFrame h.same)

theorem Modifies.originateTrunk {type : Nat} {body : Bytes} (h : Modifies B s t) :
    Modifies B s (t.originateTrunk type body) :=
  .pushFrame h.same

theorem Modifies.sendLocal {type port : Nat} {body : Bytes} (h : Modifies B s t) :
    Modifies B s (t.sendLocal type port body) :=
  .ite h.same (.pushFrame h.same)

/-! ### Lanes and GUARD -/

theorem Modifies.markEmitted {ws : Works} (h : Modifies B s t) : Modifies B s (t.markEmitted ws) :=
  h.same

theorem Modifies.retireNext {lane reason e : Nat} (h : Modifies B s t) : Modifies B s (t.retireNext lane reason e) :=
  .ite h h.same

theorem Modifies.chargeLane {e lane : Nat} (h : Modifies B s t) : Modifies B s (t.chargeLane e lane) :=
  .ite (.retireNext h.same) h.same

theorem Modifies.failIdle {e failed : Nat} (h : Modifies B s t) : Modifies B s (t.failIdle e failed) :=
  .foldl h fun _ _ h => h.retireNext

theorem Modifies.laneReport {e : Nat} {r : EvalReport} (h : Modifies B s t) : Modifies B s (t.laneReport e r) :=
  .same (.failIdle (.foldl (.ite h h.logNotifyAt) fun _ _ h => h.chargeLane))

theorem Modifies.laneNoMajority {e : Nat} {r : EvalReport} (h : Modifies B s t) : Modifies B s (t.laneNoMajority e r) :=
  .same (.ite (.failIdle (.foldl h.logNotifyAt fun _ _ h => h.chargeLane))
    (.ite (.foldl h.logNotifyAt fun _ _ h => h.chargeLane) (.failIdle h.logNotifyAt)))

theorem Modifies.applyRetirements (h : Modifies B s t) (_ : Covers B [.lanes] := by simp_all) :
    Modifies B s t.applyRetirements :=
  .foldl h.same fun _ _ h => .logNotify (.same (.setInService h))

theorem Modifies.reachService (h : Modifies B s t) : Modifies B s t.reachService :=
  .ite h (.log h.same)

theorem Modifies.enterGuard (h : Modifies B s t) (_ : Covers B [.op] := by simp_all) : Modifies B s t.enterGuard :=
  .setOp (.ite h.same h.same)

theorem Modifies.guardBoundary (h : Modifies B s t) (_ : Covers B [.lanes, .op] := by simp_all) :
    Modifies B s t.guardBoundary := by
  unfold State.guardBoundary
  have h1 : Modifies B s t.applyRetirements := h.applyRetirements
  dsimp only
  split
  · exact .ite h1.enterGuard h1.same
  split
  · exact h1.enterGuard
  split
  · exact .ite (.reachService (.setOp h1.same)) h1
  split
  · exact h1.same
  · exact h1

/-! ### The recorder -/

@[simp] theorem Recorder.sizes_setDieWord (r : Recorder) (d st v : Nat) : (r.setDieWord d st v).sizes = r.sizes := by
  unfold Recorder.setDieWord; split <;> simp [Recorder.sizes]

@[simp] theorem Recorder.sizes_setWord (r : Recorder) (w v : Nat) : (r.setWord w v).sizes = r.sizes := by
  simp [Recorder.setWord]

@[simp] theorem Recorder.sizes_setBytes (r : Recorder) (a : Nat) (bs : Bytes) : (r.setBytes a bs).sizes = r.sizes := by
  induction bs generalizing r a with
  | nil => rfl
  | cons b bs ih => simp [Recorder.setBytes, ih]

@[simp] theorem Recorder.sizes_setArea (r : Recorder) (i : AreaId) (a : Area) : (r.setArea i a).sizes = r.sizes := by
  cases i <;> simp [Recorder.setArea, Recorder.sizes]

@[simp] theorem Recorder.sizes_writeArea (r : Recorder) (i : AreaId) (a : Nat) (bs : Bytes) :
    (r.writeArea i a bs).sizes = r.sizes := by
  cases i <;> simp [Recorder.writeArea]; rfl

@[simp] theorem Recorder.sizes_zeroBlock (r : Recorder) (i : AreaId) (b : Nat) : (r.zeroBlock i b).sizes = r.sizes := by
  cases i <;> simp [Recorder.zeroBlock, Recorder.sizes]

@[simp] theorem Recorder.sizes_prepare (r : Recorder) (i : AreaId) (b n : Nat) : (r.prepare i b n).sizes = r.sizes := by
  simp [Recorder.prepare]

@[simp] theorem Recorder.sizes_openArea (r : Recorder) (i : AreaId) (n : Nat) : (r.openArea i n).sizes = r.sizes := by
  unfold Recorder.openArea; split <;> simp

@[simp] theorem Recorder.sizes_append (r : Recorder) (i : AreaId) (n : Nat) (bs : Bytes) : (r.append i n bs).sizes = r.sizes := by
  have prepared (c : Prop) [Decidable c] (x : Recorder) (b : Nat) : (if c then x.prepare i b n else x).sizes = x.sizes := by
    split <;> simp
  simp only [Recorder.append, prepared, Recorder.sizes_setArea, Recorder.sizes_writeArea]

@[simp] theorem Recorder.sizes_undo (r : Recorder) : r.undo.sizes = r.sizes := by
  unfold Recorder.undo; split
  · exact (Recorder.sizes_setDieWord ..).trans (Recorder.sizes_setDieWord ..)
  · rfl

theorem Recorder.sizes_filed (r : Recorder) (l : List (Nat × Nat × Nat)) : { r with filed := l }.sizes = r.sizes := rfl

theorem Modifies.sendWitness {dest : Nat} {body : Bytes} (h : Modifies B s t) : Modifies B s (t.sendWitness dest body) :=
  .ite h.originate h.same

theorem Modifies.sendParts {dest : Nat} {parts : List Bytes} (h : Modifies B s t) : Modifies B s (t.sendParts dest parts) :=
  .foldl h fun _ _ h => h.sendWitness

theorem Modifies.witness {bs : Bytes} (h : Modifies B s t) : Modifies B s (t.witness bs) := by
  unfold State.witness
  dsimp only
  split
  · split
    · exact h
    · exact .same (.foldl h fun _ _ h => h.sendParts)
  · exact h.same

theorem Modifies.noteOf {r : QRec} {locator : Nat} (h : Modifies B s t) : Modifies B s (t.noteOf r locator) := by
  unfold State.noteOf
  split
  · exact h.placeNotif
  · exact h

theorem Modifies.commitOwn {r : QRec} (h : Modifies B s t) : Modifies B s (t.commitOwn r) := by
  unfold State.commitOwn
  dsimp only
  have fresh {i : AreaId} {n p : Nat} {bs : Bytes} {c : Prop} [Decidable c] : Modifies B s
      ((if c then ({ t with rcd := t.rcd.append i n bs } : State).witness bs
        else { t with rcd := t.rcd.append i n bs }).noteOf r p) :=
    .noteOf (.ite (.witness (.rcd h (by simp))) (.rcd h (by simp)))
  split
  · exact .ite (.noteOf (.rcd h (by simp))) fresh
  · exact fresh

theorem Modifies.stage_place {f : Freeze} {r : QRec} {n : Nat} (h : Modifies B s t) :
    Modifies B s (State.stage.place t f r n) :=
  .ite (.noteOf (.ite (.witness h.same) h.same)) (.noteOf (.ite (.witness h.same) h.same))

theorem Modifies.stage {f : Freeze} {r : QRec} (h : Modifies B s t) : Modifies B s (t.stage f r) := by
  unfold State.stage
  split
  · exact .ite (.noteOf h.same) h.stage_place
  · exact h.stage_place

theorem Modifies.commitRec {r : QRec} (h : Modifies B s t) : Modifies B s (t.commitRec r) := by
  unfold State.commitRec
  split
  · exact .ite (.noteOf (.ite (.witness (.rcd h (by simp))) (.rcd h (by simp)))) h.noteOf
  split
  · exact h.stage
  · exact h.commitOwn

theorem Modifies.ackWitness {origin num : Nat} (h : Modifies B s t) : Modifies B s (t.ackWitness origin num) :=
  h.sendWitness

theorem Modifies.commitItem {render : Pages → State → State} {i : QItem} (h : Modifies B s t)
    (hr : ∀ ps u, Modifies B s u → Modifies B s (render ps u)) : Modifies B s (t.commitItem render i) := by
  cases i with
  | own r => exact h.commitRec
  | witness part origin inc num r =>
    exact .ite h (.ackWitness (.rcd h ((Recorder.sizes_filed _ _).trans (by simp))))
  | note => exact h.placeNotif
  | pages ps => exact hr ps t h

theorem Modifies.thaw {cause : Nat} (h : Modifies B s t) : Modifies B s (t.thaw cause) := by
  unfold State.thaw
  split
  · exact h
  · have h1 {l : List QRec} {b : QRec → Bytes} {x : State} (hx : Modifies B s x) : Modifies B s
        (l.foldl (fun (acc : State) r => { acc with rcd := acc.rcd.append .own t.tm.powerCount (b r) }) x) :=
      .foldl hx fun _ _ h => .rcd h (by simp)
    exact .commitRec (.ite (h1 h.same) (.commitRec (h1 h.same)))

theorem Modifies.loseDie {d reason : Nat} (h : Modifies B s t) : Modifies B s (t.loseDie d reason) := by
  unfold State.loseDie
  have h1 : Modifies B s { t with rcd.lost := upd t.rcd.lost d fun _ => true } := .rcd h (by simp [Recorder.sizes])
  exact .ite h (.ite (.notify (.commitRec h1.same)) (.commitRec h1))

theorem Modifies.dieHealth {errs : List Nat} {silent : BitVec 5} (h : Modifies B s t) :
    Modifies B s (t.dieHealth errs silent) :=
  .foldl h.same fun _ _ h => .ite h.loseDie (.ite h.loseDie h)

theorem Modifies.spoil {d : Nat} (h : Modifies B s t) : Modifies B s (t.spoil d) := by
  unfold State.spoil
  split
  · exact h
  dsimp only
  split
  · exact h
  · exact .rcd h.takeFree (by simp)

theorem Modifies.anchor (h : Modifies B s t) : Modifies B s t.anchor :=
  .ite (.log h.same) h

theorem Modifies.recordWrite {render : Pages → State → State} {errs : List Nat} {silent : BitVec 5} (h : Modifies B s t)
    (hr : ∀ ps u, Modifies B s u → Modifies B s (render ps u)) : Modifies B s (t.recordWrite render errs silent) := by
  unfold State.recordWrite
  split
  · split
    · exact h
    · exact .dieHealth (.foldl (.commitItem h.same hr) fun _ _ h => h.spoil)
  · exact h

theorem Modifies.commitAll {render : Pages → State → State} (h : Modifies B s t)
    (hr : ∀ ps u, Modifies B s u → Modifies B s (render ps u)) : Modifies B s (t.commitAll render) :=
  .ite (.foldl h.same fun _ _ h => h.commitItem hr) h

theorem Modifies.persistTime (h : Modifies B s t) (_ : Covers B [.persist] := by simp_all) : Modifies B s t.persistTime := by
  unfold State.persistTime
  dsimp only
  split <;> exact .same h.setPersist

/-! ### Publishing (chapter 09) -/

theorem Modifies.publishAs {tag : Nat} {q : BitVec 8} {v : Word} (h : Modifies B s t) : Modifies B s (t.publishAs tag q v) := by
  unfold State.publishAs
  dsimp only
  split
  · exact h.same
  · exact .ite h.same h.same

theorem Modifies.publish {tag : Nat} {q : BitVec 8} {v : Word} (h : Modifies B s t) : Modifies B s (t.publish tag q v) :=
  h.publishAs

theorem Modifies.publishSource {kind ref : Nat} {q : BitVec 8} {v : Word} (h : Modifies B s t) :
    Modifies B s (t.publishSource kind ref q v) :=
  .foldl h fun _ _ h => h.publish

theorem Modifies.diagnostic {ref v : Nat} (h : Modifies B s t) : Modifies B s (t.diagnostic ref v) :=
  h.publishSource

theorem Modifies.republishAll (h : Modifies B s t) : Modifies B s t.republishAll := by
  unfold State.republishAll
  split
  · exact h
  · exact h.same

theorem Modifies.setOwn {o : OwnCount} (h : Modifies B s t) : Modifies B s (t.setOwn o) :=
  h.same

theorem Modifies.placeCounted {f : CFrame} (h : Modifies B s t) : Modifies B s (t.placeCounted f) := by
  unfold State.placeCounted
  refine .ite h.same ?_
  split
  · exact h
  · exact .ite h.same (.ite h.same h.same)

theorem Modifies.countOwn {e seq n : Nat} {b : CBody} (h : Modifies B s t) : Modifies B s (t.countOwn e seq n b) :=
  .placeCounted h.setOwn

theorem Modifies.frameUpdates (h : Modifies B s t) : Modifies B s t.frameUpdates := by
  unfold State.frameUpdates
  split
  · exact h
  · exact .ite h (.countOwn (.same h.originate))

theorem Modifies.frameAction (h : Modifies B s t) : Modifies B s t.frameAction := by
  unfold State.frameAction
  split
  · exact h
  · exact .ite h (.foldl h.same fun _ _ h => .countOwn h.originate)

theorem Modifies.frameNext (h : Modifies B s t) : Modifies B s t.frameNext := by
  unfold State.frameNext
  split
  · exact .ite h (.originate h.same)
  · exact h.frameAction

theorem Modifies.frameWitness (h : Modifies B s t) : Modifies B s t.frameWitness :=
  .foldl h fun _ _ h => h.frameNext

theorem Modifies.frameAll (h : Modifies B s t) : Modifies B s t.frameAll :=
  .foldl (.foldl (.ite h.republishAll h) fun _ _ h => h.frameNext) fun _ _ h => h.frameUpdates

theorem Modifies.restamp {ended : Nat} (h : Modifies B s t) : Modifies B s (t.restamp ended) :=
  h.same

theorem Modifies.publishAction {c : Cmd} {opcode : Nat} (h : Modifies B s t) : Modifies B s (t.publishAction c opcode) := by
  unfold State.publishAction
  split
  · exact h.reply
  · exact h.same

theorem Modifies.answer {w : Await} {status changed : Nat} {extra : Bytes} (h : Modifies B s t) :
    Modifies B s (t.answer w status changed extra) :=
  .ite h.complete h.reply

theorem Modifies.failAwaits (h : Modifies B s t) : Modifies B s t.failAwaits :=
  .foldl h.same fun _ _ h => h.answer

theorem Modifies.answerAll {e : Nat} {rs : List ActResult} (h : Modifies B s t) : Modifies B s (t.answerAll e rs) :=
  .foldl h.same fun _ _ h => by split <;> exact h.answer

theorem Modifies.answerReseeded {e : Nat} (h : Modifies B s t) : Modifies B s (t.answerReseeded e) :=
  .foldl h.same fun _ _ h => h.answer

/-! ### Leaving and re-seeding, relays and digests (chapters 07 and 09) -/

theorem Modifies.endTests {e : Nat} (h : Modifies B s t) : Modifies B s (t.endTests e) := by
  have h1 : Modifies B s ((List.range 2).foldl (fun (acc : State) r =>
      if (nth t.repl.relays r).testEnd.isSome then acc.log 0x0115 (le 4 e ++ le 1 (r + 1) ++ le 1 2 ++ zeros 4) else acc) t) :=
    .foldl h fun _ _ h => .ite h.log h
  refine .relays h1 ?_
  simp [List.range_succ, apply_ite State.repl]

theorem Modifies.dropRelays (h : Modifies B s t) : Modifies B s t.dropRelays := by
  unfold State.dropRelays
  exact h.endTests.same (hs := by simp [State.sizes])

theorem Modifies.withdraw {limit : Option Nat} (h : Modifies B s t) : Modifies B s (t.withdraw limit) :=
  .ite (.same h.endTests) h

theorem Modifies.startReseed {cause : Nat} (h : Modifies B s t) : Modifies B s (t.startReseed cause) :=
  .same h.withdraw

theorem Modifies.leaveTo {o : OpState} (h : Modifies B s t) (hstart : o = .start → Covers B [.startStep] := by simp_all)
    (_ : Covers B [.op] := by simp_all) : Modifies B s (t.leaveTo o) := by
  have h1 := h.failAwaits.dropRelays
  have kept : t.failAwaits.dropRelays.pw.step = t.pw.step := (Modifies.refl ∅ t).failAwaits.dropRelays .startStep (by simp)
  refine .setOp ?_
  by_cases ho : o = .start
  · have hB := hstart ho
    exact .same (.setStep h1)
  · simp only [if_neg ho, ← kept]
    exact h1.same

theorem Modifies.leaveReplica (h : Modifies B s t) (_ : Covers B [.op, .startStep] := by simp_all) :
    Modifies B s t.leaveReplica :=
  h.leaveTo

theorem Modifies.membershipFault {e fault n : Nat} (h : Modifies B s t) : Modifies B s (t.membershipFault e fault n) :=
  h.logNotifyAt

theorem Modifies.setRelays {on : List Bool} (h : Modifies B s t) : Modifies B s (setRelays t on) :=
  .relays h (by simp)

theorem Modifies.driveRelays {e : Nat} {absent : Bool} (h : Modifies B s t) : Modifies B s (t.driveRelays e absent) := by
  refine .ite (.setRelays h.same) ?_
  dsimp only
  repeat' split
  all_goals exact .setRelays (.same h.endTests)

theorem Modifies.coilStep {e r ua : Nat} (h : Modifies B s t) : Modifies B s (t.coilStep e r ua) := by
  have h1 {f : Relay → Relay} : Modifies B s { t with repl.relays := upd t.repl.relays r f } := .relays h (by simp)
  exact .ite (.logNotifyAt (.relays h1 (by simp))) (.ite (.logNotifyAt (.relays h1 (by simp))) h1)

theorem Modifies.missSnapshots {e : Nat} (h : Modifies B s t) : Modifies B s (t.missSnapshots e) :=
  .foldl h fun _ _ h => .ite h.same h

theorem Modifies.missEarlier {er : Nat} (h : Modifies B s t) : Modifies B s (t.missEarlier er) :=
  .foldl h fun _ _ h => .ite h.same h

theorem Modifies.discardHeld {cause : Nat} (h : Modifies B s t) : Modifies B s (t.discardHeld cause) :=
  .startReseed (.logNotify h.same)

theorem Modifies.releaseHeld {e : Nat} {render : Pages → State → State} (h : Modifies B s t)
    (hr : ∀ ps u, Modifies B s u → Modifies B s (render ps u)) : Modifies B s (t.releaseHeld e render) :=
  .commitAll (.foldl h.same fun _ _ h => h.enqueue) hr

theorem Modifies.emit {e : Nat} {its : List QItem} {render : Pages → State → State} (h : Modifies B s t)
    (hr : ∀ ps u, Modifies B s u → Modifies B s (render ps u)) : Modifies B s (t.emit e its render) :=
  .ite (.ite (.discardHeld h.same) h.same) (.same (.commitAll (.foldl h fun _ _ h => h.enqueue) hr))

theorem Modifies.sendDigest {e : Nat} (h : Modifies B s t) : Modifies B s (t.sendDigest e) :=
  .ite (.same h.originate) h

theorem Modifies.compareDigest {e : Nat} {render : Pages → State → State} (h : Modifies B s t)
    (hr : ∀ ps u, Modifies B s u → Modifies B s (render ps u)) : Modifies B s (t.compareDigest e render) :=
  .ite (.ite (.releaseHeld h.same hr) (.ite (.discardHeld (.logNotifyAt h.same)) (.startReseed (.logNotifyAt h.same)))) h

theorem Modifies.profileRecord {new old : Profile} {reason : Nat} (h : Modifies B s t) :
    Modifies B s (t.profileRecord new old reason) :=
  h.log

theorem Modifies.relayTestRecord {r result : Nat} (h : Modifies B s t) : Modifies B s (t.relayTestRecord r result) :=
  h.log

/-! ### Activation and evaluation (chapters 05 and 17) -/

@[simp] theorem Cfg.sizes_flip (c : Cfg) (r : Nat) : (c.flip r).sizes = c.sizes := by simp [Cfg.flip, Cfg.sizes]

theorem Modifies.ite_fst {β : Type} {c : Prop} [Decidable c] {x y : State × β} (hx : Modifies B s x.1)
    (hy : Modifies B s y.1) : Modifies B s (if c then x else y).1 := by split <;> assumption

theorem Modifies.activateRegion {e r : Nat} (h : Modifies B s t) (_ : Covers B [.cfg] := by simp_all) :
    Modifies B s (activateRegion t e r).1 := by
  unfold Machine.activateRegion
  have h1 : Modifies B s { t with cfg := { t.cfg.flip r with staged := t.cfg.staged.filter (· != r) } } :=
    h.setCfg (Cfg.sizes_flip t.cfg r)
  dsimp only
  refine .ite_fst h1.same (.ite_fst h1.same (.ite_fst h1.same (.ite_fst ?_ h1)))
  generalize rescaled : (if epochLen _ = epochLen _ then _ else _) = u
  have h2 : Modifies B s u := rescaled ▸ .ite h1 h1.same
  exact .ite_fst h2 h2.same

/-- A fold over pairs keeps what each step keeps of the first. -/
theorem Modifies.foldl_fst {α β : Type} {l : List α} {f : State × β → α → State × β} {x : State × β}
    (h : Modifies B s x.1) (hf : ∀ y a, Modifies B s y.1 → Modifies B s (f y a).1) : Modifies B s (l.foldl f x).1 := by
  induction l generalizing x with
  | nil => exact h
  | cons a l ih => exact ih (hf x a h)

theorem Modifies.activateDue {e : Nat} (h : Modifies B s t) (_ : Covers B [.cfg] := by simp_all) :
    Modifies B s (activateDue t e).1 := by
  unfold Machine.activateDue
  split
  · split
    · dsimp only
      generalize activated : List.foldl _ (t, _) _ = x
      have h1 : Modifies B s x.1 := activated ▸ .foldl_fst h fun _ _ h => h.activateRegion
      exact h1.same
    · exact h
  · exact h

theorem Modifies.evalCore {i : EpochIn} (h : Modifies B s t) (_ : Covers B [.cfg] := by simp_all) :
    Modifies B s (evalCore t i).st := by
  have h1 : Modifies B s (if i.island then (t, fun _ => []) else Machine.activateDue t i.e).1 := by
    split
    · exact h
    · exact h.activateDue
  exact h1.same

/-! ### Ports and fabric time (chapters 08 and 16) -/

theorem Modifies.setPort {p : Nat} {f : FabPort → FabPort} (h : Modifies B s t) : Modifies B s (t.setPort p f) :=
  .fab h (by simp [Fabric.sizes])

theorem Modifies.delayLeft {p : Nat} {f : Frame} (h : Modifies B s t) : Modifies B s (t.delayLeft p f) :=
  .ite h.setPort h

theorem Modifies.onDelayReq {port : Nat} {f : Frame} {ns : Nat} (h : Modifies B s t) :
    Modifies B s (t.onDelayReq port f ns) :=
  .ite h.sendLocal h

theorem Modifies.onDelayResp {port : Nat} {f : Frame} {ns : Nat} (h : Modifies B s t) :
    Modifies B s (t.onDelayResp port f ns) := by
  unfold State.onDelayResp
  split
  · exact .ite h.setPort h
  · exact h

theorem Modifies.setMaster {m : Option Nat} {reason : Nat} (h : Modifies B s t) : Modifies B s (t.setMaster m reason) := by
  unfold State.setMaster
  refine .ite h ?_
  split
  · exact h.same
  · exact .logNotify h.same

theorem Modifies.chooseMaster {reason : Nat} (h : Modifies B s t) : Modifies B s (t.chooseMaster reason) := by
  unfold State.chooseMaster
  split
  · exact .ite h h.setMaster
  · exact h.setMaster

theorem Modifies.onAnnounce {f : Frame} (h : Modifies B s t) : Modifies B s (t.onAnnounce f) :=
  .ite h (.chooseMaster (.ite h.same (.ite h.same h.same)))

theorem Modifies.sendSync {port hops cls : Nat} (h : Modifies B s t) : Modifies B s (t.sendSync port hops cls) :=
  h.sendLocal

theorem Modifies.timeFault {event : Nat} {offset : Int} {upNode : Nat} (h : Modifies B s t) :
    Modifies B s (t.timeFault event offset upNode) :=
  h.logNotify

theorem Modifies.departForTime (h : Modifies B s t) : Modifies B s t.departForTime :=
  h.same

theorem Modifies.takeOffset {o : Int} (h : Modifies B s t) : Modifies B s (t.takeOffset o) :=
  h.same

theorem Modifies.steer {port tx ns : Nat} (h : Modifies B s t) (_ : Covers B [.fabTime] := by simp_all) :
    Modifies B s (t.steer port tx ns) := by
  unfold State.steer
  dsimp only
  have h1 {o : Int} : Modifies B s
      { t with tm.fab := some ((clockNs t : Int) - o).toNat, fab.syncSince := none, fab.stepped := true } :=
    .same (h.setFabTime (x := some ((clockNs t : Int) - o).toNat))
  have h2 {o : Int} {n : Nat} : Modifies B s { t.takeOffset o with fab.outOfTol := n } := .same (h.takeOffset (o := o))
  exact .ite (.ite (.same h1.timeFault.anchor) h.takeOffset)
    (.ite h.takeOffset.timeFault.departForTime (.ite h2.timeFault.departForTime h2))

theorem Modifies.onSync {port : Nat} {f : Frame} {ns : Nat} (h : Modifies B s t) (_ : Covers B [.fabTime] := by simp_all) :
    Modifies B s (t.onSync port f ns) :=
  .ite h (.ite (.foldl (.steer (.same h.setPort)) fun _ _ h => h.sendSync) (.same h.setPort))

theorem Modifies.startFabric (h : Modifies B s t) (_ : Covers B [.fabTime] := by simp_all) : Modifies B s t.startFabric := by
  unfold State.startFabric
  dsimp only
  have h1 {n : Nat} : Modifies B s { t with tm.fab := some n, fab.syncSince := none } := .same (h.setFabTime (x := some n))
  exact .anchor (.logNotify (.same h1.setMaster))

theorem Modifies.linkEvent {p : Nat} {new old : PortState} {cause : Nat} (h : Modifies B s t) :
    Modifies B s (t.linkEvent p new old cause) :=
  h.logEvent

theorem Modifies.abandon {result : Nat} (h : Modifies B s t) : Modifies B s (t.abandon result) := by
  unfold State.abandon
  split
  · exact h
  · exact .ite (.log (.same (.foldl h fun _ _ h => h.sendLocal))) (.log (.same (.foldl h fun _ _ h => h.sendLocal)))

theorem Modifies.transferLost {p : Nat} (h : Modifies B s t) : Modifies B s (t.transferLost p) := by
  unfold State.transferLost
  split
  · exact .ite h.abandon h
  · exact h

theorem Modifies.portTo {p : Nat} {new : PortState} {cause : Nat} (h : Modifies B s t) :
    Modifies B s (t.portTo p new cause) := by
  unfold State.portTo
  dsimp only
  have h1 {f : FabPort → FabPort} : Modifies B s (if new = .up then
      { t.setPort p f with fab.firstUp := some ((t.setPort p f).fab.firstUp.getD t.tm.now) } else t.setPort p f) :=
    .ite (.same h.setPort) h.setPort
  refine .ite h (.ite (.linkEvent (.setPort ?_)) (.ite (.linkEvent (.setPort ?_)) ?_)) <;>
    exact .ite (.transferLost h1.linkEvent) h1.linkEvent

theorem Modifies.refreshPorts (h : Modifies B s t) : Modifies B s t.refreshPorts := by
  unfold State.refreshPorts
  refine .foldl h fun u _ h => ?_
  dsimp only [State.takeFree]
  exact .ite (.portTo h.same) (.ite (.portTo h.same) h)

theorem Modifies.loseSync (h : Modifies B s t) : Modifies B s t.loseSync := by
  unfold State.loseSync
  refine .foldl h fun _ _ h => ?_
  dsimp only
  split
  all_goals first | exact h.setPort.portTo | exact h.setPort

theorem Modifies.onHello {port : Nat} {f : Frame} (h : Modifies B s t) : Modifies B s (t.onHello port f) := by
  unfold State.onHello
  refine .ite h (.ite h.setPort (.ite h.setPort.portTo (.ite ?_ h.setPort)))
  dsimp only
  split
  · exact h.setPort.portTo
  · exact h.setPort.portTo
  · exact h.setPort

theorem Modifies.quietPort {ms p : Nat} (h : Modifies B s t) : Modifies B s (t.quietPort ms p) :=
  .ite (.ite h.portTo.setPort h) (.ite h.setPort (.ite (.ite h.portTo h.portTo) h))

theorem Modifies.headError {port : Nat} (h : Modifies B s t) : Modifies B s (t.headError port) :=
  h.setPort

/-! ### Frames of the epoch, transfers and founding (chapters 07 and 08) -/

theorem Modifies.onSeal {f : Frame} (h : Modifies B s t) : Modifies B s (t.onSeal f) :=
  .ite h.same (.ite h.same h.same)

theorem Modifies.onAggregate {f : Frame} (h : Modifies B s t) : Modifies B s (t.onAggregate f) :=
  .ite h.same (.ite h.same (.ite (.membershipFault h.same) h.same))

theorem Modifies.onVote {f : Frame} (h : Modifies B s t) : Modifies B s (t.onVote f) :=
  .ite h (.ite h h.same)

theorem Modifies.onJoin {f : Frame} (h : Modifies B s t) : Modifies B s (t.onJoin f) :=
  .ite h h.placeCounted

theorem Modifies.placeLogged {f : CFrame} (h : Modifies B s t) : Modifies B s (t.placeLogged f) :=
  .ite h.placeCounted.abandon h.placeCounted

theorem Modifies.onTagUpdate {port : Nat} {f : Frame} (h : Modifies B s t) : Modifies B s (t.onTagUpdate port f) := by
  unfold State.onTagUpdate
  dsimp only
  split
  · exact h.headError
  · exact .ite h.headError h.placeLogged

theorem Modifies.onAction {f : Frame} (h : Modifies B s t) : Modifies B s (t.onAction f) :=
  .ite h h.placeLogged

theorem Modifies.onDigest {f : Frame} (h : Modifies B s t) : Modifies B s (t.onDigest f) :=
  .ite h h.same

theorem Modifies.fileWitness {origin inc num : Nat} {bs : Bytes} (h : Modifies B s t) :
    Modifies B s (t.fileWitness origin inc num bs) :=
  .ite h (.ite h.ackWitness (.ite h h.enqueue))

theorem Modifies.onWitness {f : Frame} (h : Modifies B s t) : Modifies B s (t.onWitness f) :=
  .ite h (.ite (.fileWitness h.same) h.same)

theorem Modifies.onWitnessAck {f : Frame} (h : Modifies B s t) : Modifies B s (t.onWitnessAck f) :=
  .ite h h.same

theorem Modifies.witnessUnfiled {w : WitnessOut} {side holder : Nat} (h : Modifies B s t) :
    Modifies B s (t.witnessUnfiled w side holder) :=
  h.logNotify

theorem Modifies.resendOne {w : WitnessOut} (h : Modifies B s t) : Modifies B s (t.resendOne w) :=
  .ite h.same (.ite (.same (.foldl h fun _ _ h => h.sendParts)) (.foldl h fun _ _ h => h.witnessUnfiled))

theorem Modifies.sendTransfer {reseed : Bool} {port : Nat} {body : Bytes} (h : Modifies B s t) :
    Modifies B s (t.sendTransfer reseed port body) :=
  h.sendLocal

theorem Modifies.abortProvider {reason : Nat} (h : Modifies B s t) : Modifies B s (t.abortProvider reason) := by
  unfold State.abortProvider
  split
  · exact .sendTransfer h.same
  · exact h

theorem Modifies.onRequest {port : Nat} {f : Frame} (h : Modifies B s t) : Modifies B s (t.onRequest port f) :=
  .ite h.same h.sendTransfer

theorem Modifies.freezeImage {e : Nat} (h : Modifies B s t) : Modifies B s (t.freezeImage e) := by
  unfold State.freezeImage
  split
  · exact .ite h.same h
  · exact h

theorem Modifies.sendBlock (h : Modifies B s t) : Modifies B s t.sendBlock := by
  unfold State.sendBlock
  split
  · split
    · exact .ite h (.ite (.sendTransfer h.same) (.sendTransfer h.same))
    · exact h
  · exact h

theorem Modifies.requestTransfer (h : Modifies B s t) : Modifies B s t.requestTransfer :=
  .ite h.same (.foldl (.ite (.log h.same) h.same) fun _ _ h => h.sendTransfer)

theorem Modifies.search {due : Nat} (h : Modifies B s t) : Modifies B s (t.search due) :=
  .ite h.requestTransfer h

theorem Modifies.onBlock {port : Nat} {f : Frame} (h : Modifies B s t) : Modifies B s (t.onBlock port f) := by
  unfold State.onBlock
  split
  · exact .ite h.same h
  · exact h

theorem Modifies.activateMatching {ctx : Bytes} (h : Modifies B s t) (_ : Covers B [.cfg] := by simp_all) :
    Modifies B s (t.activateMatching ctx) :=
  .foldl h fun _ _ h => .ite h.activateRegion h

theorem Modifies.assemble {r : Requester} (h : Modifies B s t) (_ : Covers B [.cfg] := by simp_all) :
    Modifies B s (t.assemble r) := by
  have h1 {b : Nat × Nat} {n : Nat} : Modifies B s { t with cfg := { t.cfg with base := b, len := n } } := h.setCfg rfl
  exact .ite h.abandon (.ite (.ite (.missEarlier h1.same) (.log (.missEarlier h1.same))) (.activateMatching (.abandon h.same)))

theorem Modifies.onEnd {port : Nat} {f : Frame} (h : Modifies B s t) (_ : Covers B [.cfg] := by simp_all) :
    Modifies B s (t.onEnd port f) := by
  unfold State.onEnd
  split
  · exact .ite (.ite (.assemble h.same) h.same) h
  · exact h

theorem Modifies.onAbort {port : Nat} {f : Frame} (h : Modifies B s t) : Modifies B s (t.onAbort port f) := by
  unfold State.onAbort
  have h1 {c : Prop} [Decidable c] : Modifies B s (if c then { t with repl.prov := none } else t) := .ite h.same h
  dsimp only
  split
  · exact .ite h1.abandon h1
  · exact h1

theorem Modifies.onReady {f : Frame} (h : Modifies B s t) : Modifies B s (t.onReady f) :=
  .ite h.same h

theorem Modifies.onTransfer {port : Nat} {f : Frame} (h : Modifies B s t) (_ : Covers B [.cfg] := by simp_all) :
    Modifies B s (t.onTransfer port f) := by
  unfold State.onTransfer
  refine .ite h ?_
  split
  · exact h.onRequest
  · exact h.onBlock
  · exact h.onEnd
  · exact h.onReady
  · exact h.onAbort
  · exact h

theorem Modifies.dropInputs {e : Nat} (h : Modifies B s t) : Modifies B s (t.dropInputs e) :=
  h.same

theorem Modifies.sendReady {r : Requester} (h : Modifies B s t) : Modifies B s (t.sendReady r) := by
  unfold State.sendReady
  dsimp only
  split
  · exact .sendTransfer h.same
  · exact h

theorem Modifies.caughtUp {r : Requester} (h : Modifies B s t) : Modifies B s (t.caughtUp r) :=
  .ite h.same (.sendReady h.same)

theorem Modifies.resume (h : Modifies B s t) : Modifies B s t.resume := by
  unfold State.resume
  split
  · exact .ite (.answerReseeded (.logNotify h.same)) h
  · exact h

theorem Modifies.take {e : Nat} {i : EpochIn} {v : Evald} (h : Modifies B s v.st) : Modifies B s (t.take e i v) := h.same

theorem Modifies.absentReplay {e : Nat} {members declared : List Nat} (h : Modifies B s t) :
    Modifies B s (t.absentReplay e members declared) :=
  .ite h (.same h.missSnapshots)

theorem Modifies.foundBase (h : Modifies B s t) (_ : Covers B [.cfg, .epoch] := by simp_all) : Modifies B s t.foundBase := by
  have h1 : Modifies B s { t with cfg := { t.cfg with base := (0, 0), prev := (0, 0, t.cfg.len) } } := h.setCfg rfl
  exact h1.setCur

theorem Modifies.onFoundingAnnounce {f : Frame} (h : Modifies B s t) (_ : Covers B [.cfg, .epoch] := by simp_all) :
    Modifies B s (t.onFoundingAnnounce f) :=
  .ite (.same (.foundBase h.same)) h.same

theorem Modifies.onFoundingReady {f : Frame} (h : Modifies B s t) : Modifies B s (t.onFoundingReady f) := by
  unfold State.onFoundingReady
  split
  · exact .ite h.same h
  · exact h

theorem Modifies.onFoundingRoster {f : Frame} (h : Modifies B s t) : Modifies B s (t.onFoundingRoster f) := by
  unfold State.onFoundingRoster
  dsimp only
  split
  · exact .ite h.same h
  · exact h

theorem Modifies.sendRoster {ef : Nat} (h : Modifies B s t) : Modifies B s (t.sendRoster ef) :=
  .foldl h.same fun _ _ h => h.originate

theorem Modifies.foundingStart {ef : Nat} (h : Modifies B s t) : Modifies B s (t.foundingStart ef) :=
  .ite h.same h

theorem Modifies.foundingJoin {ef : Nat} (h : Modifies B s t) (_ : Covers B [.op] := by simp_all) :
    Modifies B s (t.foundingJoin ef) :=
  .ite (.enterGuard (.log h.same)) h.same

theorem Modifies.foundingBoundary {e : Nat} (h : Modifies B s t) (_ : Covers B [.op] := by simp_all) :
    Modifies B s (t.foundingBoundary e) := by
  unfold State.foundingBoundary
  split
  · have h1 {c : Prop} [Decidable c] {n : Nat} : Modifies B s (if c then t.sendRoster n else t) := .ite h.sendRoster h
    exact .ite h (.ite h1.foundingStart (.ite h1.foundingJoin h1))
  · exact h

/-! ### Commands: authority, rings and relay (chapters 02 and 03) -/

theorem Modifies.setSec {x : Security} (h : Modifies B s t) (hx : x.fuses.length = t.sec.fuses.length)
    (_ : Covers B [.sec] := by simp_all) :
    Modifies B s { t with sec := x } :=
  h.update (modifies_only [.sec] (fun k => k.of_sizes (by simp [State.sizes, hx])) (by rintro ⟨⟩ <;> simp [Aspect.Same]))

theorem Modifies.setInj {l : List (Option InjArm)} (h : Modifies B s t) (hl : l.length = t.inj.length)
    (_ : Covers B [.inj] := by simp_all) :
    Modifies B s { t with inj := l } :=
  h.update (modifies_only [.inj] (fun k => k.of_sizes (by simp [State.sizes, hl])) (by rintro ⟨⟩ <;> simp [Aspect.Same]))

theorem Modifies.deriveAuthority (h : Modifies B s t) (_ : Covers B [.sec] := by simp_all) :
    Modifies B s t.deriveAuthority :=
  h.setSec rfl

theorem Modifies.countRefusal {port status : Nat} (h : Modifies B s t) : Modifies B s (t.countRefusal port status) :=
  .ite (.ports h (by simp [Ports.sizes])) (.ite (.ports h (by simp [Ports.sizes])) h)

theorem Modifies.refusePkt {port : Nat} {i : InPkt} {status : Nat} (h : Modifies B s t) :
    Modifies B s (t.refusePkt port i status) :=
  h.pushOut

theorem Modifies.refuseEntered {port : Nat} {i : InPkt} {status : Nat} (h : Modifies B s t) :
    Modifies B s (t.refuseEntered port i status) :=
  h.storeReply.refusePkt

theorem Modifies.placePkt {port : Nat} {i : InPkt} (h : Modifies B s t) : Modifies B s (t.placePkt port i) := by
  unfold State.placePkt
  dsimp only
  have h1 : Modifies B s (t.ringDrop port) := h.ringDrop
  exact .ite (.ringUsed (.ports h (by simp [Ports.sizes]))) (.ite (.ite (.ports h1 (by simp [Ports.sizes])) h1) h1.pushOut)

theorem Modifies.dropDatagram (h : Modifies B s t) : Modifies B s t.dropDatagram :=
  h.same

theorem Modifies.svcScan {n : Nat} {buf : Bytes} (h : Modifies B s t) : Modifies B s (State.svcScan n t buf) := by
  induction n generalizing t buf with
  | zero => exact h.same
  | succ n ih =>
    unfold State.svcScan
    split
    · exact h.same
    · exact h.same
    · exact .ite (ih h) (.ite h.same (.ite (ih h.refusePkt) (.ite h.same (.ite (ih h.refusePkt) (ih h.placePkt)))))

theorem Modifies.expireWindows (h : Modifies B s t) : Modifies B s t.expireWindows :=
  h.same

theorem Modifies.markWindow {port : Nat} {o : Originator} (h : Modifies B s t) : Modifies B s (t.markWindow port o) :=
  h.same

theorem Modifies.touchWindow {port : Nat} {o : Originator} (h : Modifies B s t) : Modifies B s (t.touchWindow port o) :=
  .ite h.markWindow h.same

theorem Modifies.enterWindow {port : Nat} {o : Originator} {e : WinEntry} (h : Modifies B s t) :
    Modifies B s (t.enterWindow port o e) :=
  h.same

theorem Modifies.sendRelay {dest tag dir : Nat} {body : Bytes} (h : Modifies B s t) :
    Modifies B s (t.sendRelay dest tag dir body) :=
  .foldl h fun _ _ h => h.originate

theorem Modifies.noteTag {port : Nat} {i : InPkt} {tag : Nat} (h : Modifies B s t) : Modifies B s (t.noteTag port i tag) :=
  h.same

theorem Modifies.relay {i : InPkt} {port target : Nat} {known : Option Nat} (h : Modifies B s t) :
    Modifies B s (t.relay i port target known) := by
  unfold State.relay
  refine .ite h.refuseEntered (.ite h.refuseEntered (.ite h.refuseEntered.ringDrop ?_))
  dsimp only
  generalize numbered : (if known.isSome = true then t else _) = u
  have h1 : Modifies B s u := numbered ▸ .ite h h.same
  exact .sendRelay (.noteTag h1.same)

theorem Modifies.relayReply {tag : Nat} {p : Bytes} (h : Modifies B s t) : Modifies B s (t.relayReply tag p) := by
  unfold State.relayReply
  split
  · exact h
  · exact .pushOut h.same

theorem Modifies.relayMessage {inPort origin dir : Nat} {b : Bytes} (h : Modifies B s t) :
    Modifies B s (t.relayMessage inPort origin dir b) :=
  .ite h (.ite (.ite h.placePkt h) (.ite h.relayReply h))

theorem Modifies.onRelaySegment {port : Nat} {f : Frame} (h : Modifies B s t) : Modifies B s (t.onRelaySegment port f) :=
  .ite h (.ite h.same (.ite (.relayMessage h.same) h.same))

theorem Modifies.step8 {port : Nat} {i : InPkt} {relayTag : Option Nat} (h : Modifies B s t) :
    Modifies B s (t.step8 port i relayTag).1 :=
  .ite_fst (.ite_fst h.relay h.refuseEntered) (.ite_fst h.refuseEntered h)

theorem Modifies.admitPacket {port : Nat} {i : InPkt} (h : Modifies B s t) : Modifies B s (t.admitPacket port i).1 := by
  unfold State.admitPacket
  dsimp only
  refine .ite_fst h.refusePkt (.ite_fst h.refusePkt (.ite_fst h.refusePkt (.ite_fst h.refusePkt ?_)))
  split
  · exact h.refusePkt.countRefusal
  refine .ite_fst h.markWindow.step8 ?_
  split
  · refine .ite_fst h.touchWindow.expireWindows.refusePkt (.ite_fst h.touchWindow.expireWindows.step8 ?_)
    split
    · exact h.touchWindow.expireWindows.pushOut
    · exact h.touchWindow.expireWindows
  · exact h.touchWindow.expireWindows.enterWindow.step8

theorem Modifies.intake (h : Modifies B s t) : Modifies B s t.intake.1 := by
  unfold State.intake
  split
  · exact h
  split
  · exact .admitPacket (.ports h (by simp [Ports.sizes]))
  · exact h

/-! ### Reception (chapter 08) -/

theorem Modifies.inject {dir : Nat} {f : RxFrame} (h : Modifies B s t) (_ : Covers B [.inj] := by simp_all) :
    Modifies B s (t.inject dir f).1 := by
  unfold State.inject
  dsimp only
  split
  · exact .setInj h (by simp)
  · exact h

theorem Modifies.deliver {port ns : Nat} {f : Frame} (h : Modifies B s t)
    (_ : Covers B [.cfg, .fabTime, .epoch] := by simp_all) : Modifies B s (t.deliver port ns f) := by
  unfold State.deliver
  refine .ite h ?_
  split
  · exact .ite h.onAggregate h.onSeal
  · exact .ite h.onJoin (.ite h.onVote h)
  · exact h.onDigest
  · split
    · exact h.onFoundingAnnounce
    · exact h.onFoundingReady
    · exact h.onFoundingRoster
    · exact h
  · exact h.onAnnounce
  · exact h.onSync
  · exact h.onDelayReq
  · exact h.onDelayResp
  · exact h.onHello
  · exact h.onTagUpdate
  · exact h.onAction
  · exact .ite h.onWitness (.ite h.onWitnessAck h)
  · exact h.onRelaySegment
  · exact h.onTransfer
  · exact h.onTransfer
  · exact h.headError
  · exact h

theorem Modifies.drainIn (h : Modifies B s t) (_ : Covers B [.cfg, .fabTime, .epoch] := by simp_all) :
    Modifies B s t.drainIn :=
  .foldl (h.keep fun k => { k with fabIn := rfl }) fun _ _ h => h.deliver

theorem Modifies.accept {port ns : Nat} {f : Frame} (h : Modifies B s t) (e : t.accept port ns f = some u)
    (_ : Covers B [.cfg, .fabTime, .epoch] := by simp_all) : Modifies B s u := by
  unfold State.accept at e
  dsimp only at e
  split at e
  · exact Option.some.inj e ▸ h.setPort.deliver
  split at e
  · cases e
  · exact Option.some.inj e ▸ .drainIn (.ringUsed (.fab h.setPort (by simp [Fabric.sizes])))

theorem Modifies.forward {ports : List Nat} {f : Frame} {coded : Bool} (h : Modifies B s t) :
    Modifies B s (t.forward ports f coded) :=
  h.same

theorem Modifies.bridge {port : Nat} {f : Frame} (h : Modifies B s t) : Modifies B s (t.bridge port f) :=
  .ite h (.ite (.ite h.forward h) (.ite h.forward h))

theorem Modifies.switchFrame {rx : RxFrame} {f : Frame} {good : Bool} (h : Modifies B s t)
    (_ : Covers B [.cfg, .fabTime, .epoch] := by simp_all) : Modifies B s (t.switchFrame rx f good) := by
  unfold State.switchFrame
  refine .ite h ?_
  dsimp only
  have h1 {c : Prop} [Decidable c] {ps : List Nat} {g : Frame} {b : Bool} :
      Modifies B s (if c then t.forward ps g b else t) := .ite h.forward h
  have h2 {c : Prop} [Decidable c] {ps : List Nat} {g : Frame} {b : Bool} {os : List OriginEntry} :
      Modifies B s { (if c then t.forward ps g b else t) with fab.origins := os } :=
    (h1 (c := c) (ps := ps) (g := g) (b := b)).same
  split
  · exact h1
  refine .ite h1 (.ite h1.bridge (.ite ?_ (.ite h2.bridge h1)))
  split
  · exact h2.bridge.accept ‹_›
  · exact h1.ringDrop

theorem Modifies.receive {rx : RxFrame} (h : Modifies B s t) (_ : Covers B [.cfg, .fabTime, .epoch] := by simp_all) :
    Modifies B s (t.receive rx) := by
  unfold State.receive
  dsimp only
  have h1 {c : Prop} [Decidable c] {g : FabPort → FabPort} : Modifies B s (if c then t.setPort rx.port g else t) :=
    .ite h.setPort h
  have h2 {c d : Prop} [Decidable c] [Decidable d] {g k : FabPort → FabPort} : Modifies B s
      (if d then (if c then t.setPort rx.port g else t).setPort rx.port k else (if c then t.setPort rx.port g else t)) :=
    .ite h1.setPort h1
  refine .ite h (.ite (.ite h1 h1.headError) (.ite h2 (.ite (.ite ?_ h2) h2.switchFrame)))
  split
  · exact h2.accept ‹_›
  · exact h2.ringDrop

theorem Modifies.arrive {rx : RxFrame} (h : Modifies B s t) (_ : Covers B [.cfg, .fabTime, .epoch, .inj] := by simp_all) :
    Modifies B s (t.arrive rx) :=
  .ite h (.foldl h.inject fun _ _ h => h.receive)

theorem Modifies.releaseFrames {i : Nat} {fs : List RxFrame} (h : Modifies B s t)
    (_ : Covers B [.cfg, .fabTime, .epoch] := by simp_all) : Modifies B s (t.releaseFrames i fs) :=
  .ite (.foldl h fun _ _ h => h.receive) h

theorem Modifies.disarm {i cause : Nat} (h : Modifies B s t) (_ : Covers B [.cfg, .fabTime, .epoch, .inj] := by simp_all) :
    Modifies B s (t.disarm i cause) := by
  unfold State.disarm
  split
  · exact .releaseFrames (.logNotify (.setInj h (by simp)))
  · exact h

theorem Modifies.disarmAll {cause : Nat} (h : Modifies B s t) (_ : Covers B [.cfg, .fabTime, .epoch, .inj] := by simp_all) :
    Modifies B s (t.disarmAll cause) :=
  .foldl h fun _ _ h => h.disarm

theorem Modifies.blow {w : Nat} {mask : Word} (h : Modifies B s t) (_ : Covers B [.sec] := by simp_all) :
    Modifies B s (t.blow w mask) := by
  unfold State.blow
  dsimp only [State.takeFree]
  exact .setSec h.takeFree (by simp [State.takeFree])

/-! ### The aging ledger (chapter 16) -/

theorem Modifies.setEntry {m : Nat} {f : LedgerEntry → LedgerEntry} (h : Modifies B s t) : Modifies B s (t.setEntry m f) := by
  unfold State.setEntry
  exact h.same (hs := by simp [State.sizes])

theorem Modifies.marginEvent {ev a site d : Nat} {x y : Int} (h : Modifies B s t) :
    Modifies B s (t.marginEvent ev a site d x y) :=
  h.logEvent

theorem Modifies.marginState {m : Nat} (h : Modifies B s t) : Modifies B s (t.marginState m) :=
  .marginEvent h.diagnostic

theorem Modifies.keepMeasure {m site : Nat} {v : Word} (h : Modifies B s t) : Modifies B s (t.keepMeasure m site v) :=
  .setEntry h.same

theorem Modifies.refreshEntry {m : Nat} (h : Modifies B s t) : Modifies B s (t.refreshEntry m) := by
  unfold State.refreshEntry
  split <;> exact h.setEntry

theorem Modifies.noteState {m was : Nat} (h : Modifies B s t) : Modifies B s (t.noteState m was) :=
  .ite h h.marginState

theorem Modifies.judgeEntry {m : Nat} (h : Modifies B s t) : Modifies B s (t.judgeEntry m) :=
  h.refreshEntry.noteState

theorem Modifies.measure {m site : Nat} {v : Word} (h : Modifies B s t) : Modifies B s (t.measure m site v) :=
  .ite h.judgeEntry (.ite h h.keepMeasure.refreshEntry.noteState)

theorem Modifies.judgePorts (h : Modifies B s t) : Modifies B s t.judgePorts :=
  h.refreshPorts.judgeEntry

/-! ### Channels, slices and banks (chapters 10 and 11) -/

theorem Modifies.ana {a : Analog} (h : Modifies B s t) (ha : a.sizes = t.ana.sizes) : Modifies B s { t with ana := a } :=
  h.same (hs := by simp [State.sizes, ha])

theorem Modifies.setSlice {b k : Nat} {f : Slice → Slice} (h : Modifies B s t) : Modifies B s (t.setSlice b k f) :=
  .ana h (by simp [Analog.sizes])

theorem Modifies.setChan {c : Nat} {f : Chan → Chan} (h : Modifies B s t) : Modifies B s (t.setChan c f) :=
  .ana h (by simp [Analog.sizes])

theorem Modifies.setBank {b : Nat} {f : BankState → BankState} (h : Modifies B s t) : Modifies B s (t.setBank b f) :=
  .ana h (by simp [Analog.sizes])

theorem Modifies.setLoop {c : Nat} {f : Loop → Loop} (h : Modifies B s t) : Modifies B s (t.setLoop c f) :=
  .ana h (by simp [Analog.sizes])

theorem Modifies.dropVisit {b k : Nat} (h : Modifies B s t) : Modifies B s (t.dropVisit b k) :=
  h.setBank.setSlice

theorem Modifies.endVisit {b k : Nat} (h : Modifies B s t) : Modifies B s (t.endVisit b k) :=
  h.dropVisit.setSlice

theorem Modifies.putVisit {b : Nat} {v : Visit} (h : Modifies B s t) : Modifies B s (t.putVisit b v) :=
  h.setBank

theorem Modifies.chanEvent {ev bank ch sl sl2 detail : Nat} {a b : Int} (h : Modifies B s t) :
    Modifies B s (t.chanEvent ev bank ch sl sl2 detail a b) :=
  h.logEvent

theorem Modifies.ite_st {c : Prop} [Decidable c] {x y : Answer} (hx : Modifies B s x.st) (hy : Modifies B s y.st) :
    Modifies B s (if c then x else y).st := by split <;> assumption

theorem Modifies.clearClamps {c : Nat} (h : Modifies B s t) : Modifies B s (t.clearClamps c) :=
  h.setBank.setChan

theorem Modifies.startFilter {c n : Nat} (h : Modifies B s t) : Modifies B s (t.startFilter c n) :=
  h.setSlice.clearClamps

theorem Modifies.idleOrLead {c n : Nat} (h : Modifies B s t) : Modifies B s (t.idleOrLead c n) :=
  .ite h.setChan.setSlice h.setSlice

theorem Modifies.startConversion {c : Nat} (h : Modifies B s t) : Modifies B s (t.startConversion c) := by
  unfold State.startConversion
  split
  · exact .ite h.setChan.setSlice (.ite h.setChan.idleOrLead h.setChan.setSlice)
  · exact h

theorem Modifies.startSchedules {c : Nat} (h : Modifies B s t) : Modifies B s (t.startSchedules c) :=
  h.setChan

theorem Modifies.breakWindow {c : Nat} (h : Modifies B s t) : Modifies B s (t.breakWindow c) :=
  .ite h.setChan h

theorem Modifies.publishChan {c : Nat} {q : BitVec 8} {v : Word} (h : Modifies B s t) : Modifies B s (t.publishChan c q v) :=
  h.setChan.publishSource

theorem Modifies.publishHeld {tr : Nat} {q : BitVec 8} (h : Modifies B s t) : Modifies B s (t.publishHeld tr q) :=
  h.publish

theorem Modifies.publishBad {c : Nat} {q : BitVec 8} (h : Modifies B s t) : Modifies B s (t.publishBad c q) :=
  .foldl h.setChan fun _ _ h => h.publishHeld

theorem Modifies.publishValid {c : Nat} {k : ChanCfg} {q : BitVec 8} {v : Word} (h : Modifies B s t) :
    Modifies B s (t.publishValid c k q v) := by
  unfold State.publishValid
  split
  · exact .ite h.publishChan h
  · exact h.publishChan

theorem Modifies.publishVar {slot i : Nat} {q : BitVec 8} {v : Word} (h : Modifies B s t) :
    Modifies B s (t.publishVar slot i q v) :=
  .foldl h fun _ _ h => h.publish

theorem Modifies.instBad {c slot : Nat} (h : Modifies B s t) : Modifies B s (t.instBad c slot) :=
  .setLoop (.foldl h fun _ _ h => h.publishHeld)

theorem Modifies.loopUnavailable {c : Nat} (h : Modifies B s t) : Modifies B s (t.loopUnavailable c) :=
  .foldl (.setLoop h.same) fun _ _ h => h.complete

theorem Modifies.suspendFsk {c : Nat} (h : Modifies B s t) : Modifies B s (t.suspendFsk c) :=
  .ite (.foldl h.loopUnavailable fun _ _ h => h.instBad) h

theorem Modifies.readInstruments {c : Nat} (h : Modifies B s t) : Modifies B s (t.readInstruments c) :=
  h.setLoop

theorem Modifies.forceEvent {c detail ua : Nat} (h : Modifies B s t) : Modifies B s (t.forceEvent c detail ua) :=
  h.chanEvent

theorem Modifies.endLoopForce {c detail : Nat} (h : Modifies B s t) : Modifies B s (t.endLoopForce c detail) := by
  unfold State.endLoopForce
  split
  · exact h.setLoop.forceEvent
  · exact h

theorem Modifies.stopDriver {c : Nat} (h : Modifies B s t) : Modifies B s (t.stopDriver c) :=
  h.setLoop

theorem Modifies.tryComplete {c : Nat} (h : Modifies B s t) : Modifies B s (t.tryComplete c) := by
  unfold State.tryComplete
  split
  · split
    · exact h.setChan.complete
    · exact h
  · exact h

theorem Modifies.noteCheck {c : Nat} {f : ChanCheck → ChanCheck} (h : Modifies B s t) : Modifies B s (t.noteCheck c f) :=
  h.setChan.tryComplete

theorem Modifies.noteSelfCheck {c v : Nat} (h : Modifies B s t) : Modifies B s (t.noteSelfCheck c v) :=
  h.noteCheck

theorem Modifies.noVisit {c : Nat} (h : Modifies B s t) : Modifies B s (t.noVisit c) :=
  h.noteCheck

theorem Modifies.endCheck {c : Nat} (h : Modifies B s t) : Modifies B s (t.endCheck c) :=
  h.setBank.noVisit.noteCheck

theorem Modifies.loseVisit {b : Nat} {v : Visit} (h : Modifies B s t) : Modifies B s (t.loseVisit b v) :=
  .ite h.dropVisit.noVisit h.dropVisit

theorem Modifies.checkRovers {b : Nat} (h : Modifies B s t) : Modifies B s (t.checkRovers b) :=
  .ite (.foldl h.setBank fun _ _ h => h.noVisit) h

theorem Modifies.takeRover {b k : Nat} (h : Modifies B s t) : Modifies B s (t.takeRover b k) := by
  unfold State.takeRover
  dsimp only
  split
  · exact .ite h.dropVisit (.ite h.dropVisit.noVisit (.ite h.dropVisit.setBank h.dropVisit))
  · exact h.dropVisit

theorem Modifies.retireChan {c kind : Nat} (h : Modifies B s t) : Modifies B s (t.retireChan c kind) := by
  unfold State.retireChan
  extract_lets x s1 s2 s3 s4 s5
  have h1 : Modifies B s s1 := by
    dsimp only [s1]
    split
    · exact h.setSlice
    · exact h
  have h5 : Modifies B s s5 := h1.setChan.publishBad.chanEvent.suspendFsk.endLoopForce.stopDriver
  exact .endCheck (.elim h5 fun _ => h5.endVisit)

theorem Modifies.remapChan {b c old : Nat} (h : Modifies B s t) : Modifies B s (t.remapChan b c old) := by
  unfold State.remapChan
  extract_lets s0
  have h0 : Modifies B s s0 := h.breakWindow.setChan
  split
  · exact h0.retireChan
  · exact .checkRovers (.setChan (.setLoop (.ite (.elim h0 fun _ => h0.loseVisit) h0.takeRover)))

theorem Modifies.assignSlice {c : Nat} (h : Modifies B s t) : Modifies B s (t.assignSlice c) := by
  unfold State.assignSlice
  dsimp only
  refine .ite h ?_
  split
  · exact h.takeRover.setChan.checkRovers
  · exact h.retireChan

theorem Modifies.releaseSlice {c : Nat} (h : Modifies B s t) : Modifies B s (t.releaseSlice c) := by
  unfold State.releaseSlice
  extract_lets b s1 s2
  have h1 : Modifies B s s1 := by
    dsimp only [s1]
    split
    · exact h.setSlice
    · exact h
  have h2 : Modifies B s s2 := h1.setChan
  exact .endCheck (.elim h2 fun _ => h2.endVisit)

theorem Modifies.retireSlice {b k reason : Nat} {d : Int} (h : Modifies B s t) : Modifies B s (t.retireSlice b k reason d) := by
  unfold State.retireSlice
  extract_lets c s1 s2 s3
  clear_value c
  have h3 : Modifies B s s3 := .foldl (.setBank (.chanEvent h.setSlice)) fun _ _ h => h.judgeEntry
  split
  · exact h3.remapChan
  · exact h3.checkRovers

theorem Modifies.checkSlice {b k : Nat} (h : Modifies B s t) : Modifies B s (t.checkSlice b k) :=
  .setSlice (.elim h fun _ => h.breakWindow)

theorem Modifies.restartVisit {c : Nat} (h : Modifies B s t) : Modifies B s (t.restartVisit c) := by
  unfold State.restartVisit
  split
  · exact .ite h.putVisit h
  · exact h

theorem Modifies.checkInPlace {c k : Nat} (h : Modifies B s t) : Modifies B s (t.checkInPlace c k) :=
  .ite h.setChan h.checkSlice

theorem Modifies.checkNow {c : Nat} (h : Modifies B s t) : Modifies B s (t.checkNow c) := by
  unfold State.checkNow
  split
  · exact .ite h h.setChan.checkInPlace.restartVisit
  · exact h

theorem Modifies.judgeVisit {b : Nat} {v : Visit} {diffs : List Int} (h : Modifies B s t) :
    Modifies B s (t.judgeVisit b v diffs) := by
  unfold State.judgeVisit
  extract_lets c k d w u a s1 note z s2 s3
  have h1 : Modifies B s s1 := h.setChan
  have noted {z : State} {r : Nat} (hz : Modifies B s z) : Modifies B s (note z r) := .ite hz.noteCheck hz
  refine .ite ?_ (noted h1).putVisit.checkSlice
  have h2 : Modifies B s s2 := .ite (.measure (.setSlice h1.chanEvent)) h1
  exact .ite (noted h2).endVisit.checkInPlace (noted h2).putVisit.checkSlice

theorem Modifies.pairCode {b : Nat} {v : Visit} {rover : Bool} {code : Int} {endUs : Nat} (h : Modifies B s t) :
    Modifies B s (t.pairCode b v rover code endUs) := by
  unfold State.pairCode
  dsimp only
  split
  · exact .ite h.judgeVisit h.putVisit
  · exact h.putVisit

theorem Modifies.selfCheck {b k : Nat} {off gain : Int} (h : Modifies B s t) : Modifies B s (t.selfCheck b k off gain) := by
  unfold State.selfCheck
  extract_lets bad1 bad2 ok now served s1 fails s2 s3 z s4
  clear_value served
  have h1 : Modifies B s s1 := h.setSlice
  refine .ite ?_ ?_
  · have h2 : Modifies B s s2 := h1.chanEvent
    have h3 : Modifies B s s3 := by
      dsimp only [s3]
      split
      · exact h2.noteSelfCheck
      · exact h2
    have h4 : Modifies B s s4 := by
      dsimp only [s4]
      split
      · exact .ite (.ite h3.setBank.setBank h3.setBank) (.ite (.ite h3.setBank.noVisit h3.setBank) h3)
      · exact h3
    exact .ite h4.retireSlice h4
  split
  · extract_lets q s5 x back declared s6
    have h2 : Modifies B s s5 := h1.noteSelfCheck
    refine .ite ?_ ?_
    · split
      · exact h2.putVisit.startFilter
      · exact h2
    · have h6 : Modifies B s s6 := .setChan (.ite h2.idleOrLead h2.setSlice)
      exact .ite h6.publishBad h6
  · split
    · refine .ite h1.putVisit.setSlice (.ite ?_ h1)
      split
      · exact h1.retireSlice
      · exact h1.dropVisit
    · exact h1.setSlice

theorem Modifies.deliverWord {c : Nat} {w : Word} {endUs : Nat} (h : Modifies B s t) :
    Modifies B s (t.deliverWord c w endUs) :=
  h.setChan

theorem Modifies.ne43 {c cls : Nat} {x : Word} (h : Modifies B s t) : Modifies B s (t.ne43 c cls x) :=
  .ite h.setLoop.chanEvent (.ite h.setLoop.chanEvent h)

theorem Modifies.validResult {c : Nat} {k : ChanCfg} {sl : Slice} {code : Int} {clamp : Bool} {endUs : Nat}
    (h : Modifies B s t) : Modifies B s (t.validResult c k sl code clamp endUs) := by
  unfold State.validResult
  dsimp only [State.takeFree]
  have h0 : Modifies B s (t.setChan c fun y => { y with overrange := false, inRange := true, retry := false }).takeFree.2 :=
    h.setChan.takeFree
  have h1 {p : Prop} [Decidable p] {n : Nat} {w : Word} : Modifies B s
      (if p then (t.setChan c fun y => { y with overrange := false, inRange := true, retry := false }).takeFree.2.ne43 c n w
       else (t.setChan c fun y => { y with overrange := false, inRange := true, retry := false }).takeFree.2) := .ite h0.ne43 h0
  refine .ite h0 ?_
  split
  · exact h1.setChan.publishBad
  · exact .ite h1.setChan.publishBad (.ite h1.setChan.publishValid (.ite h1.setChan.publishValid
      (.ite h1.setChan.publishValid h1.setChan.publishValid)))

theorem Modifies.excitation {c : Nat} {limit : Bool} (h : Modifies B s t) : Modifies B s (t.excitation c limit) :=
  .ite (.ite h.setChan h.setChan.publishBad.chanEvent) (.ite (.ite h.setChan.chanEvent h.setChan) h)

theorem Modifies.remapped {c : Nat} (h : Modifies B s t) : Modifies B s (t.remapped c) := by
  unfold State.remapped
  split
  · exact .ite h.setChan.chanEvent h
  · exact h

theorem Modifies.settleAgain {c n : Nat} (h : Modifies B s t) : Modifies B s (t.settleAgain c n) :=
  .ite h.setChan.startFilter h.setChan

theorem Modifies.channelResult {c n : Nat} {sg : Slice} {r : ConvResult} {cover : Bool} (h : Modifies B s t) :
    Modifies B s (t.channelResult c n sg r cover) := by
  have h1 : Modifies B s ((t.excitation c r.excLimit).remapped c) := h.excitation.remapped
  exact .ite h1.deliverWord.setChan (.ite h1.deliverWord.setChan.settleAgain (.ite (.ite h1.deliverWord (.ite
    (.ite h1.setChan.setSlice h1.setChan) h1.deliverWord.setChan.checkNow)) (.ite h1.deliverWord.validResult.checkNow
    h1.deliverWord.validResult)))

theorem Modifies.afterResult {c n : Nat} (h : Modifies B s t) : Modifies B s (t.afterResult c n) :=
  .ite h (.ite (.ite h.setChan.setSlice.checkSlice h.idleOrLead) (.ite h.setChan.startFilter.restartVisit h.clearClamps))

theorem Modifies.countUpset {c : Nat} {r : ConvResult} (h : Modifies B s t) : Modifies B s (t.countUpset c r) :=
  .ite h h.setChan

theorem Modifies.linkCrc {c n : Nat} {r : ConvResult} {cover : Bool} (h : Modifies B s t) :
    Modifies B s (t.linkCrc c n r cover) :=
  h.deliverWord.setChan

theorem Modifies.coverResult {v : Visit} {r : ConvResult} (h : Modifies B s t) : Modifies B s (t.coverResult v r) := by
  unfold State.coverResult
  extract_lets c s1
  have h1 : Modifies B s s1 := .ite h.channelResult h.linkCrc
  exact .ite h1 (.ite h1.setChan.startFilter h1.clearClamps)

theorem Modifies.settleHeld {v : Visit} {valid : Option Nat} (h : Modifies B s t) : Modifies B s (t.settleHeld v valid) := by
  unfold State.settleHeld
  split
  · exact .ite h.putVisit h.putVisit.coverResult
  · exact h

theorem Modifies.lateResult {c : Nat} {l : LateResult} {r : ConvResult} (h : Modifies B s t) :
    Modifies B s (t.lateResult c l r) := by
  unfold State.lateResult
  extract_lets k sl code x clamp st s1 s2
  have h2 : Modifies B s s2 := .ite h.countUpset.setChan h.countUpset
  exact .ite h2.validResult h2

theorem Modifies.workingResult {c n : Nat} {r : ConvResult} (h : Modifies B s t) : Modifies B s (t.workingResult c n r) := by
  unfold State.workingResult
  extract_lets b s1 sl again s2 s3
  have h1 : Modifies B s s1 := h.setSlice.countUpset
  have h2 {z : State} (hz : Modifies B s z) : Modifies B s (again z) := .ite hz.checkNow hz
  split
  · exact .ite h1.settleHeld.endVisit.channelResult.afterResult h1.settleHeld
  · refine .ite h1.linkCrc.checkNow.afterResult ?_
    have h3 : Modifies B s s3 := by
      dsimp only [s3]
      split
      · exact .ite h1.channelResult.pairCode h1.channelResult
      · exact h1.channelResult
    exact (h2 h3).afterResult

theorem Modifies.roverResult {v : Visit} {r : ConvResult} (h : Modifies B s t) : Modifies B s (t.roverResult v r) := by
  unfold State.roverResult
  extract_lets c b k s1 sl w
  have h1 : Modifies B s s1 := h.setSlice
  exact .ite h1.countUpset.coverResult (.ite (.ite h1.countUpset.settleHeld.putVisit h1.countUpset.settleHeld.coverResult)
    (.ite h1.pairCode h1))

theorem Modifies.openWindow {c : Nat} {early : Bool} (h : Modifies B s t) : Modifies B s (t.openWindow c early) :=
  h.setChan

theorem Modifies.judgeWindow {c ohms : Nat} (h : Modifies B s t) : Modifies B s (t.judgeWindow c ohms) :=
  .ite (.ite (.ite (.ite h.setChan.settleAgain.chanEvent.readInstruments h.setChan.settleAgain.chanEvent) h.setChan) h.setChan)
  (.ite h.setChan.publishBad.chanEvent.suspendFsk h)

theorem Modifies.cjEvent {b ev detail : Nat} (h : Modifies B s t) : Modifies B s (t.cjEvent b ev detail) :=
  h.chanEvent

/-! ### Loops and HART (chapters 12 and 13) -/

theorem Modifies.raiseSupply {c n : Nat} (h : Modifies B s t) : Modifies B s (t.raiseSupply c n) :=
  .ite h.setLoop (.ite h.setLoop h.setLoop)

theorem Modifies.preRaise {c before : Nat} (h : Modifies B s t) : Modifies B s (t.preRaise c before) :=
  .ite (.ite h.raiseSupply h.raiseSupply) h

theorem Modifies.latchSetpoint {c ua : Nat} {failing : Bool} (h : Modifies B s t) :
    Modifies B s (t.latchSetpoint c ua failing) :=
  h.setLoop.preRaise

theorem Modifies.outputSetpoint {c : Nat} (h : Modifies B s t) : Modifies B s (t.outputSetpoint c) :=
  .ite h.latchSetpoint (.ite h.takeFree.latchSetpoint h.latchSetpoint)

theorem Modifies.outputSetpoints (h : Modifies B s t) : Modifies B s t.outputSetpoints :=
  .foldl h fun _ _ h => .ite h.outputSetpoint h

theorem Modifies.readLoop {r : LoopReading} (h : Modifies B s t) : Modifies B s (t.readLoop r) :=
  h.setLoop

theorem Modifies.trackSupply {r : LoopReading} (h : Modifies B s t) : Modifies B s (t.trackSupply r) :=
  .ite h.readLoop (.ite h.readLoop.raiseSupply (.ite h.readLoop.setLoop h.readLoop.setLoop))

theorem Modifies.faultTimes {c : Nat} (h : Modifies B s t) : Modifies B s (t.faultTimes c) :=
  h.setLoop

theorem Modifies.compliance {r : LoopReading} (h : Modifies B s t) : Modifies B s (t.compliance r) :=
  h.readLoop.setLoop.faultTimes

theorem Modifies.setInst {c slot : Nat} {f : Inst → Inst} (h : Modifies B s t) : Modifies B s (t.setInst c slot f) :=
  h.setLoop

theorem Modifies.assignInstruments {c : Nat} (h : Modifies B s t) : Modifies B s (t.assignInstruments c) :=
  .foldl h.setLoop fun _ _ h => h.instBad

theorem Modifies.startHost {c : Nat} (h : Modifies B s t) : Modifies B s (t.startHost c) := by
  unfold State.startHost
  split
  · exact h
  · exact .ite (.setLoop h.same) (.complete h.same)

theorem Modifies.endTrans {c kind : Nat} (h : Modifies B s t) : Modifies B s (t.endTrans c kind) :=
  .ite h.setLoop.startHost h.setLoop

theorem Modifies.giveUp {c : Nat} {tr : Trans} (h : Modifies B s t) : Modifies B s (t.giveUp c tr) := by
  unfold State.giveUp
  dsimp only
  split
  · exact h.setInst.endTrans
  · exact h.setInst.instBad.chanEvent.endTrans
  · split
    · exact h.complete.endTrans
    · exact h.endTrans

theorem Modifies.failAttempt {c : Nat} {tr : Trans} (h : Modifies B s t) : Modifies B s (t.failAttempt c tr) :=
  .ite h.setLoop.giveUp h.setLoop.setLoop

theorem Modifies.takeVariables {c slot : Nat} {data : Bytes} (h : Modifies B s t) :
    Modifies B s (t.takeVariables c slot data) :=
  .foldl h.setInst fun _ _ h => .ite h.publishVar h

theorem Modifies.takeResponse {c : Nat} {tr : Trans} {f : HartFrame} (h : Modifies B s t) :
    Modifies B s (t.takeResponse c tr f) := by
  unfold State.takeResponse
  dsimp only
  split
  · exact .endTrans (.ite h.setLoop.setInst.chanEvent.chanEvent h.setLoop.setInst.chanEvent)
  · exact h.setLoop.takeVariables.endTrans
  · split
    · exact h.setLoop.complete.endTrans
    · exact h.setLoop.endTrans

theorem Modifies.loopForce {c : Cmd} {release : Bool} (h : Modifies B s t) : Modifies B s (loopForce c release t).st :=
  .ite_st h (.ite_st h (.ite_st h.endLoopForce.preRaise h.endLoopForce.setLoop.preRaise.forceEvent))

/-! ### Digital cells and the display (chapters 14 and 15) -/

theorem Modifies.setCell {n : Nat} {f : Cell → Cell} (h : Modifies B s t) : Modifies B s (t.setCell n f) := by
  unfold State.setCell
  exact h.same (hs := by simp [State.sizes])

theorem Modifies.dioEvent {ev ch supply detail : Nat} {a b : Int} (h : Modifies B s t) :
    Modifies B s (t.dioEvent ev ch supply detail a b) :=
  h.logEvent

theorem Modifies.cellEvent {ev n detail : Nat} {a b : Int} (h : Modifies B s t) :
    Modifies B s (t.cellEvent ev n detail a b) :=
  h.dioEvent

theorem Modifies.publishDio {n : Nat} (h : Modifies B s t) : Modifies B s (t.publishDio n) :=
  .ite h.setCell.publishSource (.foldl h.setCell fun _ _ h => h.publishHeld)

theorem Modifies.publishNoDio (h : Modifies B s t) : Modifies B s t.publishNoDio :=
  .foldl h fun _ _ h => h.publishHeld

theorem Modifies.showFault {n : Nat} (h : Modifies B s t) : Modifies B s (t.showFault n) :=
  .ite h h.setCell.diagnostic

theorem Modifies.dioEdge {n : Nat} {was : Bool} (h : Modifies B s t) : Modifies B s (t.dioEdge n was) := by
  unfold State.dioEdge
  extract_lets on c now s1 s2 s3 s4
  have h1 : Modifies B s s1 := h.setCell
  have h3 : Modifies B s s3 := .ite (.cellEvent h.setCell) h.setCell
  have h4 : Modifies B s s4 := .ite h3.cellEvent h3
  exact .ite h (.ite (.showFault (.ite h1.cellEvent h1)) (.showFault (.ite h4.cellEvent h4)))

theorem Modifies.couplerFrame {n : Nat} (h : Modifies B s t) : Modifies B s (t.couplerFrame n) :=
  .dioEdge (.ite h.setCell.cellEvent h.setCell)

theorem Modifies.setCommand {n : Nat} {on : Bool} (h : Modifies B s t) : Modifies B s (t.setCommand n on) :=
  .ite h.setCell.couplerFrame h.setCell

theorem Modifies.dioCommands (h : Modifies B s t) : Modifies B s t.dioCommands :=
  .foldl h fun _ _ h => .ite h.setCommand h

theorem Modifies.fsQualities {i : Nat} (h : Modifies B s t) : Modifies B s (t.fsQualities i) :=
  .ite (.foldl h fun _ _ h => .ite h.publishDio h) h

theorem Modifies.setFs {i new mv : Nat} (h : Modifies B s t) : Modifies B s (t.setFs i new mv) := by
  unfold State.setFs
  extract_lets old dio s1
  have h1 : Modifies B s s1 := h.same (hs := by simp [State.sizes, s1, dio])
  exact .ite h1 h1.dioEvent.diagnostic.fsQualities

theorem Modifies.endDioForce {n detail : Nat} (h : Modifies B s t) : Modifies B s (t.endDioForce n detail) := by
  unfold State.endDioForce
  split
  · exact h.setCell.cellEvent.dioEdge
  · exact h

theorem Modifies.setFault {n ev : Nat} {was now : Bool} {f : Cell → Cell} {a b : Int} (h : Modifies B s t) :
    Modifies B s (t.setFault n ev was now f a b) :=
  .ite h h.setCell.cellEvent.showFault

theorem Modifies.setPanel {p : Nat} {f : Panel → Panel} (h : Modifies B s t) : Modifies B s (t.setPanel p f) := by
  unfold State.setPanel
  exact h.same (hs := by simp [State.sizes])

theorem Modifies.dispEvent {ev p detail : Nat} {value : Int} (h : Modifies B s t) :
    Modifies B s (t.dispEvent ev p detail value) :=
  h.logEvent

theorem Modifies.showPanels (h : Modifies B s t) : Modifies B s t.showPanels :=
  .foldl h fun _ _ h => h.diagnostic

theorem Modifies.judgeHoldUp {powerUp : Bool} (h : Modifies B s t) : Modifies B s (t.judgeHoldUp powerUp) := by
  unfold State.judgeHoldUp
  exact .showPanels (.foldl h.same fun _ _ h => .ite h.setPanel.dispEvent (.ite h.setPanel.dispEvent h))

theorem Modifies.noteSeen {e : Nat} (h : Modifies B s t) : Modifies B s (t.noteSeen e) :=
  h.same

theorem Modifies.panelRings (h : Modifies B s t) : Modifies B s t.panelRings :=
  h.ringUsed.ringUsed

theorem Modifies.render {ps : Pages} (h : Modifies B s t) : Modifies B s (t.render ps) :=
  .showPanels (.foldl h fun _ _ h => .ite h h.setPanel.panelRings)

theorem Modifies.renderNow {ps : List Nat} (h : Modifies B s t) : Modifies B s (t.renderNow ps) := by
  unfold State.renderNow
  extract_lets s1
  have h1 : Modifies B s s1 := .foldl h fun _ _ h => h.setPanel
  exact .ite h1 h1.render

theorem Modifies.idleRails (h : Modifies B s t) : Modifies B s t.idleRails :=
  .ite h h.same

theorem Modifies.cutOff {p : Nat} (h : Modifies B s t) : Modifies B s (t.cutOff p) := by
  unfold State.cutOff
  split
  · exact h.setPanel.idleRails.panelRings
  · exact h

theorem Modifies.panelTemp {p : Nat} {tr : Int} {module : Bool} (h : Modifies B s t) :
    Modifies B s (t.panelTemp p tr module) :=
  .ite h.setPanel.setPanel.dispEvent (.ite h.setPanel.setPanel.dispEvent h.setPanel)

theorem Modifies.startUpdate {p : Nat} (h : Modifies B s t) : Modifies B s (t.startUpdate p) := by
  unfold State.startUpdate
  extract_lets x clear kind band now s1
  have h1 : Modifies B s s1 := .ite h.dispEvent h
  split
  exact .panelRings (.same h1.setPanel)

theorem Modifies.railFault {p rail : Nat} {mv : Int} (h : Modifies B s t) : Modifies B s (t.railFault p rail mv) :=
  .showPanels (.dispEvent h.same)

theorem Modifies.tryStart {p rail : Nat} {mv : Int} (h : Modifies B s t) : Modifies B s (t.tryStart p rail mv) := by
  unfold State.tryStart
  split
  · exact .ite h.railFault h.same
  · exact .ite h.railFault (.ite h.startUpdate h)
  · exact h.startUpdate
  · exact h

theorem Modifies.dischargeDisplay (h : Modifies B s t) : Modifies B s t.dischargeDisplay := by
  unfold State.dischargeDisplay
  dsimp only
  generalize clocked : List.foldl State.cutOff t.takeFree.2 _ = u
  have h1 : Modifies B s u := clocked ▸ .foldl h.takeFree fun _ _ h => h.cutOff
  exact .ite (.dispEvent h1.same) h

theorem Modifies.restartDisplay (h : Modifies B s t) : Modifies B s t.restartDisplay := by
  unfold State.restartDisplay
  exact h.same (hs := by simp [State.sizes])

/-! ### Re-plan and derating (chapter 16) -/

theorem Modifies.raiseCore {mv cause : Nat} (h : Modifies B s t) : Modifies B s (t.raiseCore mv cause) :=
  .ite h (.refreshEntry (.keepMeasure (.marginEvent h.same)))

theorem Modifies.recompute (h : Modifies B s t) : Modifies B s t.recompute :=
  .foldl h fun _ _ h => h.setEntry

theorem Modifies.derate {kind base : Nat} {old new : List Int} (h : Modifies B s t) :
    Modifies B s (t.derate kind base old new) :=
  .foldl h fun _ _ h => .ite h h.marginEvent

theorem Modifies.derateAll {old new : Derating} (h : Modifies B s t) : Modifies B s (t.derateAll old new) :=
  h.derate.derate.derate.derate.derate.derate.derate

theorem Modifies.replan {readings : List (Nat × Word)} (h : Modifies B s t) : Modifies B s (t.replan readings) := by
  unfold State.replan
  extract_lets was s1 s2 ana s3 s4 s5 old new n age s6 s7 s8 bad
  have h2 : Modifies B s s2 := .foldl (.foldl h fun _ _ h => .ite h.keepMeasure h) fun _ _ h => h.keepMeasure
  have h3 : Modifies B s s3 := .ana h2 (by simp [Analog.sizes, ana])
  have h5 : Modifies B s s5 := .recompute (.foldl (.foldl h3 fun _ _ h => .ite h.keepMeasure h) fun _ _ h => h.refreshEntry)
  clear_value s5
  have h6 : Modifies B s s6 := h5.same (hs := by simp [State.sizes, s6])
  have h8 : Modifies B s s8 := .foldl h6.raiseCore.derateAll fun _ _ h => h.noteState
  split
  exact .foldl h8.marginEvent fun _ _ h => h.complete

theorem Modifies.startReplan {cause : Nat} {cmds : List Cmd} (h : Modifies B s t) :
    Modifies B s (t.startReplan cause cmds) :=
  h.same

theorem Modifies.openLedger {powerUp : Bool} (h : Modifies B s t) : Modifies B s (t.openLedger powerUp) := by
  unfold State.openLedger
  extract_lets best age s1
  have h1 : Modifies B s s1 := h.same
  refine .ite h1.startReplan ?_
  split <;> exact .ite h1.startReplan h1

/-! ### Snapshots and seals (chapter 07) -/

theorem Modifies.latchSlot {i id target : Nat} (h : Modifies B s t) : Modifies B s (t.latchSlot i id target) :=
  .logNotifyAt h.same

theorem Modifies.latchSnapshots {e : Nat} (h : Modifies B s t) : Modifies B s (t.latchSnapshots e) :=
  .foldl h fun _ _ h => .ite h.latchSlot h

theorem Modifies.judgeActivation {e : Nat} (h : Modifies B s t) : Modifies B s (t.judgeActivation e) := by
  unfold State.judgeActivation
  split
  · exact .logNotifyAt h.same
  · exact h

theorem Modifies.firstSeal {e flags counted : Nat} {ports : List Nat} (h : Modifies B s t) :
    Modifies B s (t.firstSeal e flags counted ports) :=
  .pushFrame h.same

theorem Modifies.prepareSeal {e : Nat} (h : Modifies B s t) : Modifies B s (t.prepareSeal e) := by
  unfold State.prepareSeal
  split
  · exact h.same
  · exact .ite h.same h
  · exact h

theorem Modifies.sealEpoch {e : Nat} (h : Modifies B s t) : Modifies B s (t.sealEpoch e) := by
  unfold State.sealEpoch
  extract_lets s1 fresh
  have h1 : Modifies B s fresh := .ite h h.prepareSeal.judgeActivation.firstSeal.latchSnapshots
  split
  · exact .ite (.ite h (.pushFrame h.same)) (.ite h h1)
  · exact h1

theorem Modifies.departingSeal (h : Modifies B s t) : Modifies B s t.departingSeal := by
  unfold State.departingSeal
  extract_lets e o ports left fab repl s1
  have h1 : Modifies B s s1 := h.same (hs := by simp [State.sizes, Fabric.sizes, s1, fab, repl])
  exact .ite (.ite h1 h1.firstSeal) h

/-! ### Restarts, clocks and power (chapter 16) -/

/-- What a restart of the core drops: no unit, and no key, clock or time. -/
theorem State.dropCore_modifies (t : State) : Modifies (Aspect.only [.core, .op, .inj, .cfg]) t t.dropCore := by
  rintro ⟨⟩ ha
  case units =>
    rintro ⟨⟩
    constructor <;> simp [State.dropCore, Fabric.dropCore, Analog.dropCore, Dio.dropCore, *]
  all_goals simp_all [Aspect.Same, State.dropCore]

theorem Modifies.dropCore (h : Modifies B s t) (_ : Covers B [.core, .op, .inj, .cfg] := by simp_all) :
    Modifies B s t.dropCore :=
  h.update t.dropCore_modifies

theorem State.dropClocks_modifies (t : State) : Modifies (Aspect.only [.fabTime, .ref]) t t.dropClocks := by
  rintro ⟨⟩ ha
  case units =>
    rintro ⟨⟩
    constructor <;> simp [State.dropClocks, *]
  all_goals simp_all [Aspect.Same, State.dropClocks]

theorem Modifies.dropClocks (h : Modifies B s t) (_ : Covers B [.fabTime, .ref] := by simp_all) :
    Modifies B s t.dropClocks :=
  h.update t.dropClocks_modifies

theorem Modifies.clockEvent {ev frm dst port detail : Nat} {measured : Int} {stretch : Nat} (h : Modifies B s t) :
    Modifies B s (t.clockEvent ev frm dst port detail measured stretch) :=
  h.logEvent

theorem Modifies.failBosc {detail : Nat} {measured : Int} (h : Modifies B s t) : Modifies B s (t.failBosc detail measured) :=
  .clockEvent h.same

theorem State.clocklessEntry_modifies (t : State) (x : Word × Nat × Nat × Nat × Nat) :
    Modifies (Aspect.only [.core, .startStep]) t { t with core := .clockless, clk.holdEntry := x, pw.step := 0 } := by
  rintro ⟨⟩ ha
  case units => exact fun h => h.of_sizes rfl
  all_goals simp_all [Aspect.Same]

theorem Modifies.enterClockless {cause : Nat} (h : Modifies B s t)
    (_ : Covers B [.core, .op, .inj, .cfg, .fabTime, .ref, .startStep] := by simp_all) :
    Modifies B s (t.enterClockless cause) := by
  unfold State.enterClockless
  exact h.dropCore.dropClocks.update (State.clocklessEntry_modifies _ _)

theorem Modifies.enterIsland (h : Modifies B s t) (_ : Covers B [.op, .epoch] := by simp_all) : Modifies B s t.enterIsland := by
  unfold State.enterIsland
  extract_lets on kept s1 cur repl s2
  have h1 : Modifies B s s1 := h.leaveTo
  have h2 : Modifies B s s2 := .setRelays (.same (h1.setCur (n := cur)))
  exact .foldl h2.republishAll fun _ _ h => h.suspendFsk

theorem Modifies.leaveIsland (h : Modifies B s t) (_ : Covers B [.op, .startStep] := by simp_all) :
    Modifies B s t.leaveIsland :=
  .foldl h.leaveReplica fun _ _ h => h.readInstruments

theorem State.switchTo_modifies (t : State) (c : Clocks) (x : Fabric) (l : Lanes) (hx : x.sizes = t.fab.sizes)
    (hl : l.inService = t.lanes.inService) : Modifies (Aspect.only [.ref]) t { t with clk := c, fab := x, lanes := l } := by
  rintro ⟨⟩ ha
  case units => exact fun h => h.of_sizes (by simp [State.sizes, hx])
  all_goals simp_all [Aspect.Same]

theorem Modifies.forceSwitch {dst : Option Ref} {detail : Nat} {measured : Int} {stretch : Nat} (h : Modifies B s t)
    (_ : Covers B [.core, .op, .inj, .cfg, .fabTime, .ref, .startStep, .epoch] := by simp_all) :
    Modifies B s (t.forceSwitch dst detail measured stretch) := by
  unfold State.forceSwitch
  split
  · exact h.enterClockless
  extract_lets clk fab lanes s1 s2 s3
  have h1 : Modifies B s s1 := h.update (t.switchTo_modifies _ _ _ rfl rfl)
  have h3 : Modifies B s s3 := .clockEvent (.ite h1.loseSync h1)
  exact .ite h3.enterIsland h3

theorem Modifies.orderlySwitch {r : Ref} {detail : Nat} (h : Modifies B s t) (_ : Covers B [.ref] := by simp_all) :
    Modifies B s (t.orderlySwitch r detail) :=
  .clockEvent (h.update (t.switchTo_modifies _ t.fab t.lanes rfl rfl))

theorem Modifies.followFabricRef (h : Modifies B s t)
    (_ : Covers B [.core, .op, .inj, .cfg, .fabTime, .ref, .startStep, .epoch] := by simp_all) :
    Modifies B s t.followFabricRef := by
  unfold State.followFabricRef
  split
  · split
    · exact .ite h h.orderlySwitch
    · exact h
    · exact h.takeFree.forceSwitch
  · exact h

theorem Modifies.tripRef {detail : Nat} {measured : Int} {stretch : Nat} (h : Modifies B s t)
    (_ : Covers B [.core, .op, .inj, .cfg, .fabTime, .ref, .startStep, .epoch] := by simp_all) :
    Modifies B s (t.tripRef detail measured stretch) := by
  unfold State.tripRef
  split
  · exact .forceSwitch h.same
  · exact h.forceSwitch
  · exact .forceSwitch h.same
  · exact h

theorem Modifies.noteOffset {x : ClockFinding} (h : Modifies B s t) : Modifies B s (t.noteOffset x) := by
  cases x <;> exact h.same

theorem Modifies.supplyEvent {input new old : Nat} {mv : Int} (h : Modifies B s t) :
    Modifies B s (t.supplyEvent input new old mv) :=
  h.logEvent

theorem State.dropCoreKeepOut_modifies (t : State) : Modifies (Aspect.only [.core, .op, .inj, .cfg, .startStep]) t
    { t.dropCore with fab.out := t.fab.out, pw.step := 0 } := by
  rintro ⟨⟩ ha
  case units => exact fun h => { t.dropCore_modifies .units (by simp) h with fabOut := h.fabOut }
  all_goals simp_all [Aspect.Same, State.dropCore]

theorem State.fail_modifies (t : State) : Modifies (Aspect.only [.supply]) t { t with pw.failing := true } := by
  rintro ⟨⟩ ha
  case units => exact fun h => h.of_sizes rfl
  all_goals simp_all [Aspect.Same]

theorem Modifies.powerFail {slope : Bool} (h : Modifies B s t)
    (_ : Covers B [.core, .op, .inj, .cfg, .fabTime, .startStep, .epoch, .supply, .persist] := by simp_all) :
    Modifies B s (t.powerFail slope) := by
  unfold State.powerFail
  extract_lets down pw s1 s2 kept rcd s3 s4 rcd' s5 s6 pw' fab
  have h2 : Modifies B s s2 := .dischargeDisplay (.dropRelays (.disarmAll (h.update t.fail_modifies)))
  clear_value s2
  have h3 : Modifies B s s3 := .commitRec h2.same
  have h4 : Modifies B s s4 := h3.departingSeal.persistTime.commitAll fun _ _ h => h
  clear_value s4
  have h5 : Modifies B s s5 := .thaw h4.same
  exact h5.update s5.dropCoreKeepOut_modifies

theorem State.oscillatorsOff_modifies (t : State) : Modifies (Aspect.only [.supply, .startStep]) t t.oscillatorsOff := by
  rintro ⟨⟩ ha
  case units => exact fun h => h.of_sizes rfl
  all_goals simp_all [Aspect.Same, State.oscillatorsOff]

theorem Modifies.oscillatorsOff (h : Modifies B s t) (_ : Covers B [.supply, .startStep] := by simp_all) :
    Modifies B s t.oscillatorsOff :=
  h.update t.oscillatorsOff_modifies

theorem Modifies.banksOff (h : Modifies B s t) : Modifies B s t.banksOff :=
  .ana h (by simp [Analog.sizes])

theorem Modifies.coreRestart {cause : Nat} (h : Modifies B s t)
    (_ : Covers B [.core, .op, .inj, .cfg, .startStep] := by simp_all) : Modifies B s (t.coreRestart cause) := by
  unfold State.coreRestart
  extract_lets staged counted s1
  exact .same ((h.dropCore : Modifies B s s1).setStep (n := 4))

theorem Modifies.startFailed {step reason : Nat} (h : Modifies B s t) : Modifies B s (t.startFailed step reason) :=
  h.log

theorem State.openCycle_modifies (t : State) (op n : Nat) : Modifies (Aspect.only [.core, .op, .opTime, .powerCount]) t
    { t with core := .running, op := .start, tm.op := op, tm.opSub := 0, tm.powerCount := n } := by
  rintro ⟨⟩ ha
  case units => exact fun h => h.of_sizes rfl
  all_goals simp_all [Aspect.Same]

theorem Recorder.sizes_openAreas (r : Recorder) (l : List AreaId) (n : Nat) :
    (l.foldl (fun (r : Recorder) i => r.openArea i n) r).sizes = r.sizes := by
  induction l generalizing r with
  | nil => rfl
  | cons i l ih => exact (ih _).trans (by simp)

theorem Modifies.openRecorder (h : Modifies B s t)
    (_ : Covers B [.core, .op, .opTime, .powerCount, .persist] := by simp_all) : Modifies B s t.openRecorder := by
  unfold State.openRecorder
  extract_lets op tm s1 areas rcd
  have h1 : Modifies B s s1 := h.update (t.openCycle_modifies _ _)
  refine .persistTime (.rcd h1 ((Recorder.sizes_openAreas _ areas s1.tm.powerCount).trans ?_))
  split <;> simp

theorem Modifies.powerUp {r : StartReport} (h : Modifies B s t) : Modifies B s (t.powerUp r) :=
  h.log

theorem Modifies.firstRecords {r : StartReport} {undone : Bool} (h : Modifies B s t) :
    Modifies B s (t.firstRecords r undone) := by
  unfold State.firstRecords
  extract_lets s1 rcd s2 s3 s4 clk
  have h2 : Modifies B s s2 := .ite (.log (.same (h.powerUp : Modifies B s s1))) h.powerUp
  have h4 : Modifies B s s4 := .anchor (.ite h2.log h2)
  split
  exact .ite (.clockEvent (.ite (.log h4.same) h4)) (.ite (.log h4.same) h4)

theorem Modifies.holdUpTest {r : StartReport} (h : Modifies B s t) : Modifies B s (t.holdUpTest r) := by
  unfold State.holdUpTest
  extract_lets r' bad cfg large v pw s1 s2
  have h1 : Modifies B s s1 := .log h.same
  have h2 : Modifies B s s2 := h1.measure.measure
  exact .ite h2 h2.measure

theorem Modifies.repairSelectors (h : Modifies B s t) (_ : Covers B [.cfg] := by simp_all) :
    Modifies B s t.repairSelectors :=
  h.setCfg (by simp [Cfg.sizes])

theorem Modifies.loadFirmware (h : Modifies B s t) (_ : Covers B [.cfg] := by simp_all) : Modifies B s t.loadFirmware := by
  unfold State.loadFirmware
  extract_lets b
  split
  refine .log (h.setCfg ?_)
  split
  · exact Cfg.sizes_flip t.cfg 88
  · rfl

theorem Modifies.readFuses (h : Modifies B s t) (_ : Covers B [.sec] := by simp_all) : Modifies B s t.readFuses :=
  .ite h.deriveAuthority (.log h.deriveAuthority)

theorem Modifies.unsealedRecord (h : Modifies B s t) : Modifies B s t.unsealedRecord :=
  .ite h h.log

theorem Modifies.endForces (h : Modifies B s t) : Modifies B s t.endForces := by
  unfold State.endForces
  refine .foldl (.foldl h fun _ _ h => h.endLoopForce) fun _ _ h => ?_
  split
  · exact h.setCell.cellEvent
  · exact h

theorem Modifies.startField (h : Modifies B s t) : Modifies B s t.startField :=
  .publishNoDio (.foldl (.foldl h fun _ _ h => .ite h.releaseSlice h.assignSlice) fun _ _ h =>
    .ite h.startSchedules.startConversion.assignInstruments.publishBad h.startSchedules.startConversion.assignInstruments)

theorem Modifies.startDiagnostics (h : Modifies B s t) : Modifies B s t.startDiagnostics := by
  unfold State.startDiagnostics
  extract_lets s1 s2 s3 s4
  have h2 : Modifies B s s2 := .foldl h.diagnostic.diagnostic.diagnostic fun _ _ h => h.diagnostic
  have h4 : Modifies B s s4 := .foldl (.foldl h2 fun _ _ h => h.diagnostic) fun _ _ h => h.setCell.diagnostic
  exact h4.diagnostic.diagnostic.showPanels

theorem Modifies.runImage (h : Modifies B s t) (_ : Covers B [.op, .epoch, .startStep] := by simp_all) :
    Modifies B s t.runImage := by
  unfold State.runImage
  extract_lets prof lanes0 lanes s1 s2 founding0 founding repl0 repl pw0 pw s3
  have h1 : Modifies B s s1 := h.same
  have h2 : Modifies B s s2 := h1.startField.startDiagnostics.judgeHoldUp.judgePorts
  clear_value s2
  have h3 : Modifies B s s3 := .same (h2.setStep (n := 7))
  exact .ite h3.enterIsland h3

theorem Modifies.startLanes {fail : Nat} (h : Modifies B s t) (_ : Covers B [.lanes] := by simp_all) :
    Modifies B s (t.startLanes fail) :=
  .ite (.startFailed (.foldl h.setInService fun _ _ h => h.logNotify)) (.foldl h fun _ _ h => h.retireNext)

/-! ### Configuration (chapter 17) -/

@[simp] theorem map_length_upd_upd {α : Type} (l : List (List α)) (b r : Nat) (f : α → α) :
    (upd l b fun m => upd m r f).map List.length = l.map List.length := by
  induction l generalizing b with
  | nil => rfl
  | cons m l ih => cases b <;> simp [upd, ih]

theorem Modifies.setDir {bank r : Nat} {f : DirEntry → DirEntry} (h : Modifies B s t) (_ : Covers B [.cfg] := by simp_all) :
    Modifies B s (t.setDir bank r f) :=
  h.setCfg (by simp [Cfg.sizes])

theorem Modifies.eraseRegion {bank r : Nat} (h : Modifies B s t) (_ : Covers B [.cfg] := by simp_all) :
    Modifies B s (t.eraseRegion bank r) :=
  h.setCfg (by simp [Cfg.sizes])

theorem Modifies.writeSession {x : Session} {off : Nat} {data : Bytes} (h : Modifies B s t)
    (_ : Covers B [.cfg] := by simp_all) : Modifies B s (t.writeSession x off data) := by
  unfold State.writeSession
  extract_lets content x' cfg s1 cfg'
  have h1 : Modifies B s s1 := h.setCfg rfl
  exact .ite (h1.setCfg (by simp [Cfg.sizes, cfg'])) h1

theorem Modifies.programmed {x : Session} (h : Modifies B s t) (_ : Covers B [.cfg] := by simp_all) :
    Modifies B s (t.programmed x) := by
  unfold State.programmed
  extract_lets b m s0 cfg s1
  have h0 : Modifies B s s0 := h.eraseRegion
  have h1 : Modifies B s s1 := .ite h (h0.setCfg (by simp [Cfg.sizes, cfg, s0]))
  exact h1.setDir

theorem Modifies.refuseCommit {k : Commit} {b : Breach} (h : Modifies B s t) : Modifies B s (t.refuseCommit k b) :=
  h.logNotify.complete

theorem Modifies.runCommit {k : Commit} (h : Modifies B s t) (_ : Covers B [.cfg] := by simp_all) :
    Modifies B s (t.runCommit k) := by
  unfold State.runCommit
  split
  · exact h.refuseCommit
  · exact .setDir (h.setCfg rfl)

theorem Modifies.promote (h : Modifies B s t) (_ : Covers B [.cfg] := by simp_all) : Modifies B s t.promote :=
  .foldl h fun _ _ h => .ite h (.runCommit (h.setCfg rfl))

theorem Modifies.supersede {k : Commit} (h : Modifies B s t) (_ : Covers B [.cfg] := by simp_all) :
    Modifies B s (t.supersede k) :=
  .notify (.complete (h.setCfg rfl))

theorem Modifies.interrupt {c n status : Nat} {old : Bytes} (h : Modifies B s t) :
    Modifies B s (t.interrupt c n status old) :=
  h.deliverWord.setChan

theorem Modifies.exciteAnew {c : Nat} {old : Bytes} (h : Modifies B s t) : Modifies B s (t.exciteAnew c old) := by
  unfold State.exciteAnew
  split
  · exact h
  extract_lets y k s1 s2
  have h1 : Modifies B s s1 := .ite h.interrupt h
  have h2 : Modifies B s s2 := .ite h1.setSlice.setChan h1
  exact h2.restartVisit

theorem Modifies.restartChannel {c : Nat} {old : Bytes} (h : Modifies B s t) : Modifies B s (t.restartChannel c old) := by
  unfold State.restartChannel
  extract_lets b s0 k s1 s2 s3
  have h0 : Modifies B s s0 := by
    dsimp only [s0]
    split
    · exact .ite h.interrupt h
    · exact h
  have h1 : Modifies B s s1 := h0.assignSlice
  have h2 : Modifies B s s2 := .ite (.elim h1 fun _ => h1.loseVisit) h1.restartVisit
  have h3 : Modifies B s s3 := h2.startSchedules.startConversion
  refine .ite h0.releaseSlice.publishBad ?_
  split
  · exact .ite h3.setChan.setSlice h3
  · exact h3

theorem Modifies.applyChannel {c : Nat} {old new : Bytes} (h : Modifies B s t) : Modifies B s (t.applyChannel c old new) := by
  unfold State.applyChannel
  extract_lets changed s1 quiet exc s2 s3 s4
  have h1 : Modifies B s s1 := h.endLoopForce
  have h2 : Modifies B s s2 := .ite h1.setChan h1
  have h3 : Modifies B s s3 := .ite h2 (.ite h2.exciteAnew h2.restartChannel)
  have h4 : Modifies B s s4 := .ite h3.stopDriver h3
  exact .ite h (.ite h4.loopUnavailable.assignInstruments h4)

theorem Modifies.applyBank {bank : Nat} {old : List Bytes} (h : Modifies B s t) : Modifies B s (t.applyBank bank old) :=
  .foldl h fun _ _ h => h.applyChannel

theorem Modifies.applyDioChannel {n : Nat} {old new : Bytes} (h : Modifies B s t) :
    Modifies B s (t.applyDioChannel n old new) := by
  unfold State.applyDioChannel
  extract_lets s1 c k s2 s3
  have h1 : Modifies B s s1 := h.endDioForce
  have h2 : Modifies B s s2 := .ite h1.setCell h1.setCell
  have h3 : Modifies B s s3 := .ite h2.cellEvent h2
  exact .ite h (.showFault (.ite h3 h3.publishDio))

theorem Modifies.applyDio {old : List Bytes} (h : Modifies B s t) : Modifies B s (t.applyDio old) :=
  .judgeEntry (.judgeEntry (.publishNoDio (.foldl h fun _ _ h => h.applyDioChannel)))

theorem Modifies.applyDisplay {old : List Bytes} (h : Modifies B s t) : Modifies B s (t.applyDisplay old) :=
  .judgeEntry (.judgeEntry (.renderNow (.judgeHoldUp (.foldl h fun _ _ h => .ite h h.setPanel))))

theorem Modifies.activateLocal {k : Commit} (h : Modifies B s t) (_ : Covers B [.cfg] := by simp_all) :
    Modifies B s (t.activateLocal k) := by
  unfold State.activateLocal
  extract_lets r old s1 s2 s3 cfg
  have h1 : Modifies B s s1 := h.setCfg (by simp)
  have h3 : Modifies B s s3 := h1.logNotify.complete
  exact .ite h3.applyBank (.ite h3.applyDio (.ite h3.applyDisplay (h3.setCfg rfl)))

theorem Modifies.activateInStart {r : Nat} (h : Modifies B s t)
    (_ : Covers B [.cfg, .op, .epoch, .startStep] := by simp_all) : Modifies B s (t.activateInStart r) := by
  unfold State.activateInStart
  extract_lets a s1 cfg s2
  have h1 : Modifies B s s1 := .foldl h.activateRegion fun _ _ h => h.enqueue
  have h2 : Modifies B s s2 := h1.setCfg rfl
  exact .ite (.ite h2.runImage h2.judgePorts) h1

/-! ### The epoch (chapter 07) -/

theorem Modifies.faultOne {e : Nat} (h : Modifies B s t) : Modifies B s (t.faultOne e) :=
  .startReseed (.same h.missSnapshots)

theorem Modifies.leaveAbsent {e : Nat} (h : Modifies B s t) (_ : Covers B [.op, .startStep] := by simp_all) :
    Modifies B s (t.leaveAbsent e) :=
  h.membershipFault.leaveReplica

theorem Modifies.judgeOwn (h : Modifies B s t) (_ : Covers B [.op, .startStep] := by simp_all) : Modifies B s t.judgeOwn := by
  unfold State.judgeOwn
  refine .ite ?_ h
  split
  · exact h.leaveAbsent
  · exact h

theorem Modifies.judgeSealed (h : Modifies B s t) : Modifies B s t.judgeSealed := by
  unfold State.judgeSealed
  refine .ite ?_ h
  split
  · exact h.membershipFault.faultOne
  · exact h

theorem Modifies.displayOff (h : Modifies B s t) : Modifies B s t.displayOff :=
  .ite h.same h

theorem Modifies.writePrepareOff {cs : List Cmd} {e1 : Option Nat} {was : Bool} (h : Modifies B s t)
    (_ : Covers B [.persist] := by simp_all) : Modifies B s (t.writePrepareOff cs e1 was) :=
  h.persistTime.log.log.commitAll fun _ _ h => h.render

theorem Modifies.enterStopping {cs : List Cmd} {e1 : Option Nat} {was : Bool} (h : Modifies B s t)
    (_ : Covers B [.op, .persist] := by simp_all) : Modifies B s (t.enterStopping cs e1 was) := by
  unfold State.enterStopping
  extract_lets s1 pw
  have h1 : Modifies B s s1 := (h.leaveTo (o := .stopping)).writePrepareOff
  clear_value s1
  exact h1.same

theorem Modifies.prepareStep (h : Modifies B s t) (_ : Covers B [.op, .persist] := by simp_all) :
    Modifies B s t.prepareStep := by
  unfold State.prepareStep
  extract_lets s0
  have h0 : Modifies B s s0 := h.displayOff
  clear_value s0
  split
  · refine .ite h0 ?_
    extract_lets s1 pw
    have h1 : Modifies B s s1 := .ite h0.enterStopping h0
    clear_value s1
    split
    · exact .foldl h1.same fun _ _ h => h.complete
    · exact h1.same
  · exact h0

theorem Modifies.changeLength {ea : Nat} (h : Modifies B s t) (_ : Covers B [.cfg] := by simp_all) :
    Modifies B s (t.changeLength ea) := by
  unfold State.changeLength
  split
  · exact .ite (.ite h (h.setCfg rfl)) h
  · exact h

theorem Modifies.sponsor {e : Nat} (h : Modifies B s t) : Modifies B s (t.sponsor e) :=
  .ite (.foldl h.same fun _ _ h => h.originate.countOwn.log) h.same

theorem Modifies.checkProvider {e : Nat} (h : Modifies B s t) : Modifies B s (t.checkProvider e) :=
  .ite h (.ite h.abortProvider (.ite h.abortProvider h))

theorem Modifies.departUnevaluated {e : Nat} (h : Modifies B s t) (_ : Covers B [.op, .startStep] := by simp_all) :
    Modifies B s (t.departUnevaluated e) := by
  unfold State.departUnevaluated
  split
  · exact .ite h.leaveReplica h
  · exact h

theorem Modifies.releaseRelays {e : Nat} (h : Modifies B s t) : Modifies B s (t.releaseRelays e) := by
  unfold State.releaseRelays
  split
  · exact .ite (.setRelays h.same) h
  · exact h

theorem Modifies.endEpoch {e : Nat} (h : Modifies B s t)
    (_ : Covers B [.op, .persist, .startStep, .lanes, .cfg, .epoch] := by simp_all) : Modifies B s (t.endEpoch e) := by
  unfold State.endEpoch
  extract_lets repl s0 s0' repl' s1 s3
  have h0 : Modifies B s s0' := .changeLength (h.same : Modifies B s s0)
  have h1 : Modifies B s s1 := .restamp h0.setCur
  have h3 : Modifies B s s3 := h1.resume.guardBoundary.sponsor.foundingBoundary
  exact h3.checkProvider.departUnevaluated.releaseRelays.judgeOwn.prepareStep

theorem Modifies.sendAggregate (h : Modifies B s t) : Modifies B s t.sendAggregate := by
  unfold State.sendAggregate
  split
  · exact .originateTrunk h.same
  · exact h

theorem Modifies.castVote {e kind port : Nat} {run banned : List Nat} (h : Modifies B s t) :
    Modifies B s (t.castVote e kind port run banned) := by
  unfold State.castVote
  split
  · exact h
  · exact .originate h.same

theorem Modifies.fieldOutputs (h : Modifies B s t) : Modifies B s t.fieldOutputs :=
  .dioCommands (.outputSetpoints h.same)

theorem Modifies.outputsOf {r : Replica} (h : Modifies B s t) : Modifies B s (t.outputsOf r) := by
  unfold State.outputsOf
  extract_lets repl s1 repl'
  have h1 : Modifies B s s1 := .fieldOutputs h.same
  clear_value s1
  exact h1.same

theorem Modifies.superviseCoils {e : Nat} {r : EvalReport} (h : Modifies B s t) : Modifies B s (t.superviseCoils e r) :=
  .ite (.same h.coilStep.coilStep) h

theorem Modifies.idleCoils {r : EvalReport} (h : Modifies B s t) : Modifies B s (t.idleCoils r) :=
  .ite h.superviseCoils h

theorem Modifies.reseedTest {r : EvalReport} (h : Modifies B s t) : Modifies B s (t.reseedTest r) :=
  .ite h.failIdle h

theorem Modifies.afterEval {e : Nat} {r : EvalReport} {v : Evald} {absent : Bool} (h : Modifies B s t) :
    Modifies B s (t.afterEval e r v absent) := by
  unfold State.afterEval
  extract_lets s1 held s2 s3 s4 waiting s5
  have h2 : Modifies B s s2 := h.markEmitted.noteSeen.laneReport.emit fun _ _ h => h.render
  have h4 : Modifies B s s4 := h2.driveRelays.superviseCoils.answerAll
  have h5 : Modifies B s s5 := h4.sendDigest.compareDigest fun _ _ h => h.render
  refine .ite ?_ (h4.fieldOutputs.sendDigest.compareDigest fun _ _ h => h.render)
  split
  · exact .ite h5.outputsOf h5
  · exact h5

theorem Modifies.afterActivation {before : State} (h : Modifies B s t) (_ : Covers B [.cfg] := by simp_all) :
    Modifies B s (t.afterActivation before) := by
  unfold State.afterActivation
  split
  · exact .ite (h.setCfg rfl) h
  · exact .promote (.ite (.judgePorts (h.setCfg rfl)) h)
  · exact h

theorem Modifies.becomeMember {e : Nat} (h : Modifies B s t) (_ : Covers B [.cfg] := by simp_all) :
    Modifies B s (t.becomeMember e) := by
  unfold State.becomeMember
  extract_lets repl lanes cfg s1 kept rcd
  have h1 : Modifies B s s1 := .same (h.setCfg (c := { t.cfg with joined := true }) rfl)
  exact .foldl (.same (h1.rcd (r := rcd) rfl)) fun _ _ h => h.witness

theorem Modifies.afterMembership {e : Nat} {wasIn absent : Bool} (h : Modifies B s t)
    (_ : Covers B [.cfg, .op, .persist, .startStep] := by simp_all) : Modifies B s (t.afterMembership e wasIn absent) := by
  unfold State.afterMembership
  extract_lets isIn s1 cfg s2 repl
  have h1 : Modifies B s s1 := .ite h.missSnapshots h
  have h2 : Modifies B s s2 := h1.setCfg rfl
  refine .ite (.ite (.ite h1 h1.becomeMember) (.ite h2.same h2)) (.ite ?_ ?_)
  · split
    · exact .ite h1.enterStopping.prepareStep h1.leaveAbsent
    · exact .ite h1.leaveReplica h1.leaveAbsent
  · split
    · exact .ite h1.sendReady h1
    · exact h1

theorem Modifies.evalEpoch {e : Nat} {report : EvalReport} (h : Modifies B s t)
    (_ : Covers B [.cfg, .op, .persist, .startStep, .inj, .fabTime, .epoch] := by simp_all) :
    Modifies B s (t.evalEpoch e report) := by
  unfold State.evalEpoch
  extract_lets r founding repl rep s0 i wasIn absent s1 v s2 s3 s4
  have h0 : Modifies B s s0 := .ite h.same h
  have h3 : Modifies B s s3 := .dropInputs (.freezeImage (.afterActivation (.afterEval (.take h0.evalCore))))
  have h4 : Modifies B s s4 := .ite h3.disarmAll h3
  exact .ite h.laneNoMajority.superviseCoils.startReseed (.ite (.ite h.membershipFault.leaveAbsent h.membershipFault.faultOne)
    h4.afterMembership.prepareStep)

theorem Modifies.evalIsland {e : Nat} {report : EvalReport} (h : Modifies B s t)
    (_ : Covers B [.cfg, .op, .persist] := by simp_all) : Modifies B s (t.evalIsland e report) := by
  unfold State.evalIsland
  extract_lets r own repl s0 s0' repl' v st repl'' s1
  have h0 : Modifies B s s0' := h.laneNoMajority.superviseCoils
  have hv : Modifies B s st := .evalCore (h.same : Modifies B s s0)
  clear_value s0' st
  have h1 : Modifies B s s1 := hv.same
  exact .ite h0.same h1.afterEval.prepareStep

theorem Modifies.failReseed (h : Modifies B s t) : Modifies B s t.failReseed := by
  unfold State.failReseed
  split
  · exact .ite (.log h.same) h
  · exact h

/-! ### What leaves and what passes in a microsecond (chapters 02, 08 and 16) -/

theorem State.advanceTime_modifies (t : State) : Modifies (Aspect.only [.fabTime, .opTime]) t t.advanceTime := by
  rintro ⟨⟩ ha
  case units => exact fun h => h.of_sizes (by
    unfold State.advanceTime
    cases switchRuns t <;> simp [State.sizes, Fabric.sizes, measured])
  all_goals simp_all [Aspect.Same, State.advanceTime]

theorem Modifies.advanceTime (h : Modifies B s t) (_ : Covers B [.fabTime, .opTime] := by simp_all) :
    Modifies B s t.advanceTime :=
  h.update t.advanceTime_modifies

theorem Modifies.sendRelayed {o : OutPkt} (h : Modifies B s t) (e : t.sendRelayed o = some u) : Modifies B s u := by
  unfold State.sendRelayed at e
  split at e
  · dsimp only at e
    split at e
    · cases e
    · exact Option.some.inj e ▸ h.sendRelay
  · exact Option.some.inj e ▸ h

theorem Modifies.leaves {dest : Originator} (h : Modifies B s t) : Modifies B s (t.leaves dest) := by
  unfold State.leaves
  split
  · exact h.same
  · exact h

@[simp] theorem State.leaves_reserve (t : State) (o : Originator) : (t.leaves o).ports.reserve = t.ports.reserve := by
  cases o <;> rfl

@[simp] theorem State.leaves_notifs (t : State) (o : Originator) : (t.leaves o).ports.notifs = t.ports.notifs := by
  cases o <;> rfl

theorem Modifies.sendReply {port : Nat} (h : Modifies B s t) : Modifies B s (t.sendReply port) := by
  unfold State.sendReply
  split
  · refine .ite ?_ (.ite (.ports h.leaves (by simp [Ports.sizes])) h)
    split
    · exact .ports (h.sendRelayed ‹_›) (by simp [Ports.sizes])
    · exact h
  · refine .ite ?_ h
    split
    · exact .ite (.ports h.leaves (by simp [Ports.sizes])) h
    · exact h

theorem Modifies.sendNotifs (h : Modifies B s t) : Modifies B s t.sendNotifs := by
  unfold State.sendNotifs
  extract_lets due s1
  have h1 : Modifies B s s1 := .foldl h fun _ _ h => h.leaves
  exact h1.same

theorem Modifies.sendLapsed (h : Modifies B s t) : Modifies B s t.sendLapsed := by
  unfold State.sendLapsed
  dsimp only
  split
  · split
    · exact .ite (.ports h.leaves (by simp [Ports.sizes])) h
    · exact h
  · exact h

theorem Modifies.releaseNotifs (h : Modifies B s t) : Modifies B s t.releaseNotifs :=
  .ports h (by simp [Ports.sizes])

theorem Modifies.takeFrame {p : Nat} {w : Option Nat × TxFrame} (h : Modifies B s t) : Modifies B s (t.takeFrame p w) := by
  unfold State.takeFrame
  split
  · exact h.same
  · exact .fab h (by simp [Fabric.sizes])

theorem Modifies.countLeft {p : Nat} {f : Frame} (h : Modifies B s t) : Modifies B s (t.countLeft p f) := by
  unfold State.countLeft
  refine .ite h ?_
  split
  · exact h.setOwn
  split
  · exact .ite h.setOwn h
  · exact h

theorem Modifies.sendFrame {p : Nat} (h : Modifies B s t) (_ : Covers B [.inj] := by simp_all) :
    Modifies B s (t.sendFrame p) := by
  unfold State.sendFrame
  dsimp only
  split
  · exact h
  · exact .ite h.takeFrame.countLeft.delayLeft.inject h.takeFrame

theorem Modifies.traffic (h : Modifies B s t) (_ : Covers B [.inj] := by simp_all) : Modifies B s t.traffic := by
  unfold State.traffic
  extract_lets s1
  have h1 : Modifies B s s1 := .ite (.releaseNotifs (.sendLapsed (.sendNotifs (.foldl h fun _ _ h => h.sendReply)))) h
  exact .ite (.foldl h1 fun _ _ h => h.sendFrame) h1

theorem Modifies.firmwareStep (h : Modifies B s t) (_ : Covers B [.core, .op, .inj, .cfg, .startStep] := by simp_all) :
    Modifies B s t.firmwareStep :=
  .ite h.coreRestart h

theorem Modifies.consequences (h : Modifies B s t)
    (_ : Covers B [.core, .op, .inj, .cfg, .fabTime, .ref, .startStep, .epoch, .persist] := by simp_all) :
    Modifies B s t.consequences :=
  .ite h.frameWitness.followFabricRef.judgeSealed.judgeOwn.prepareStep.promote.firmwareStep (.ite h.followFabricRef h)

/-! ### Instructions -/

/-- Every part but the counts of units: what differs there has as many units. -/
def Aspect.others : Set Aspect := {a | a ≠ .units}

@[simp] theorem Aspect.mem_others (a : Aspect) : a ∈ Aspect.others ↔ a ≠ .units := Iff.rfl

theorem modifies_others_iff : Modifies Aspect.others s t ↔ (Units s → Units t) := by
  constructor
  · exact fun h => h .units (by simp)
  · intro h a ha
    obtain rfl : a = .units := not_not.1 ha
    exact h

theorem Modifies.resize (h : Modifies Aspect.others s t) (hs : u.sizes = t.sizes := by unfold State.sizes; rfl) :
    Modifies Aspect.others s u :=
  h.trans (modifies_others_iff.2 fun k => k.of_sizes hs)

/-- Each next state that a step or an instruction answers has the property. -/
def Leads (P : State → Prop) (o : Out) : Prop := ∀ t, o = .next t → P t

@[simp] theorem leads_next {P : State → Prop} : Leads P (.next t) ↔ P t :=
  ⟨fun h => h t rfl, fun h _ e => Host.Outcome.next.inj e ▸ h⟩

theorem Modifies.next (h : Modifies B s t) : Leads (Modifies B s) (.next t) := leads_next.2 h

theorem Modifies.fault_or {c : Prop} [Decidable c] {f : Fault} {o : Out} (h : Leads (Modifies B s) o) :
    Leads (Modifies B s) (if c then .fault f else o) := by
  split
  · rintro _ ⟨⟩
  · exact h

theorem Modifies.runOpcode {op : Nat} {c : Cmd} {f : State → Answer} (h : Modifies B s t) (hf : Modifies B s (f t).st) :
    Leads (Modifies B s) (Machine.runOpcode op c t f) := by
  unfold Machine.runOpcode
  split
  · split
    · exact .next hf.replyF
    · exact .next h.reply
  · exact .next h

theorem Modifies.runSilent {op : Nat} {c : Cmd} {f : State → State} (h : Modifies B s t) (hf : Modifies B s (f t)) :
    Leads (Modifies B s) (Machine.runSilent op c t f) := by
  unfold Machine.runSilent
  split
  · split
    · exact .next hf
    · exact .next h.reply
  · exact .next h

theorem Modifies.runPlain {op : Nat} {c : Cmd} {f : State → Bytes} (h : Modifies B s t) :
    Leads (Modifies B s) (Machine.runPlain op c t f) :=
  h.runOpcode (.ite_st h h)

theorem Modifies.runAction {op : Nat} {c : Cmd} {f : Bytes → Bool} {k : State → Option Nat} (h : Modifies B s t) :
    Leads (Modifies B s) (Machine.runAction op c t f k) := by
  refine h.runSilent (.ite h.reply (.ite h.reply ?_))
  split
  · exact h.reply
  · exact h.publishAction

theorem Modifies.frameRow {l : List Nat} {k : Option Nat} {rx : RxFrame} (h : Modifies Aspect.others s t) :
    Leads (Modifies Aspect.others s) (Machine.frameRow l k rx t) :=
  .next (.ite h.arrive h)

theorem Modifies.refuseAuthority {c : Cmd} {n : Nat} (h : Modifies B s t) : Modifies B s (Machine.refuseAuthority t c n).st :=
  h.countRefusal

theorem Modifies.dioWrite {n : Nat} {c : Cmd} {f : Nat → Bool → Nat → Answer} (h : Modifies B s t)
    (hf : ∀ n b d, Modifies B s (f n b d).st) : Modifies B s (Machine.dioWrite n c t f).st :=
  .ite_st h (.ite_st h (hf _ _ _))

/-! ### Instructions of the recorder, the alarms and the node (chapters 01 to 05 and 14) -/

theorem Modifies.execRecRead {c : Cmd} (h : Modifies Aspect.others s t) :
    Leads (Modifies Aspect.others s) (Machine.execRecRead c t) := by
  refine h.runOpcode ?_
  dsimp only
  refine .ite_st h (.ite_st h ?_)
  split
  · exact h
  · exact h

theorem Modifies.execRecFreeze {c : Cmd} (h : Modifies Aspect.others s t) :
    Leads (Modifies Aspect.others s) (Machine.execRecFreeze c t) :=
  h.runOpcode (.ite_st h (.ite_st h (.ite_st h (.ite_st h (.commitRec h.same)))))

theorem Modifies.execRecClear {c : Cmd} (h : Modifies Aspect.others s t) :
    Leads (Modifies Aspect.others s) (Machine.execRecClear c t) := by
  refine h.runOpcode ?_
  dsimp only
  refine .ite_st h (.ite_st h (.ite_st h (.ite_st h ?_)))
  have h1 {r : Recorder} (hr : r.sizes = t.rcd.sizes) : Modifies Aspect.others s { t with rcd := r } := h.rcd hr
  exact .ite (.anchor (.placeNotif (h1 (by simp)))) (.placeNotif (h1 (by simp)))

theorem Modifies.execTimeSetWallmap {c : Cmd} (h : Modifies Aspect.others s t) :
    Leads (Modifies Aspect.others s) (Machine.execTimeSetWallmap c t) := by
  refine h.runOpcode (.ite_st h ?_)
  dsimp only
  split
  · exact h
  · exact .log h.same

theorem Modifies.execFreezeExpiry (h : Modifies Aspect.others s t) :
    Leads (Modifies Aspect.others s) (Machine.execFreezeExpiry t) := by
  refine .next ?_
  split
  · exact .ite h.thaw h
  · exact h

theorem Modifies.execNodeSubscribe {c : Cmd} (h : Modifies Aspect.others s t) :
    Leads (Modifies Aspect.others s) (Machine.execNodeSubscribe c t) :=
  h.runOpcode (.ite_st h (.ite_st h.same (.ite_st h (.ite_st h.same (.ite_st h h.same)))))

theorem Modifies.execNodeSetProfile {c : Cmd} (h : Modifies Aspect.others s t) :
    Leads (Modifies Aspect.others s) (Machine.execNodeSetProfile c t) := by
  refine h.runOpcode ?_
  dsimp only
  split
  · exact h
  · refine .ite_st h (.ite_st h ?_)
    generalize recorded : (if _ = t.lanes.profile then t else _) = u
    have h1 : Modifies Aspect.others s u := recorded ▸ .ite h h.profileRecord
    exact .ite_st h1.same h1.same

theorem Modifies.execCallRelayTest {c : Cmd} (h : Modifies Aspect.others s t) :
    Leads (Modifies Aspect.others s) (Machine.execCallRelayTest c t) :=
  h.runOpcode (.ite_st h (.ite_st h (.relays h (by simp))))

theorem Modifies.execRelayTestEnd {relay : Nat} (h : Modifies Aspect.others s t) :
    Leads (Modifies Aspect.others s) (Machine.execRelayTestEnd relay t) := by
  refine .next ?_
  dsimp only
  split
  · exact .ite (.relayTestRecord (.relays h (by simp))) h
  · exact h

/-! ### Instructions of the fabric (chapters 07 and 08) -/

theorem Modifies.execDelayMeasure (h : Modifies Aspect.others s t) :
    Leads (Modifies Aspect.others s) (Machine.execDelayMeasure t) :=
  .next (.ite (.foldl h fun _ _ h => .ite h (.ite h.setPort.setPort.sendLocal h.setPort)) h)

theorem Modifies.execUpstreamTimeout (h : Modifies Aspect.others s t) :
    Leads (Modifies Aspect.others s) (Machine.execUpstreamTimeout t) := by
  refine .next (.ite ?_ h)
  split <;> exact h.same

theorem Modifies.execColdCandidateTimer (h : Modifies Aspect.others s t) :
    Leads (Modifies Aspect.others s) (Machine.execColdCandidateTimer t) := by
  refine .next ?_
  split
  · refine .ite h.same ?_
    split
    · exact .ite h.startFabric h
    · exact h
  · exact h

theorem Modifies.execSnapRead {c : Cmd} (h : Modifies Aspect.others s t) :
    Leads (Modifies Aspect.others s) (Machine.execSnapRead c t) := by
  refine h.runOpcode ?_
  dsimp only
  refine .ite_st h ?_
  split
  · exact h
  · exact .ite_st h h

theorem Modifies.execTransferTimeout (h : Modifies Aspect.others s t) :
    Leads (Modifies Aspect.others s) (Machine.execTransferTimeout t) := by
  refine .next ?_
  split
  · exact .ite h.abandon h
  · exact h

theorem Modifies.execLoggedEpochReplay (h : Modifies Aspect.others s t) :
    Leads (Modifies Aspect.others s) (Machine.execLoggedEpochReplay t) := by
  refine .next ?_
  split
  · extract_lets e near i v r1 v' repl s1
    have hv : Modifies Aspect.others s v' := .take h.evalCore
    clear_value v'
    have h1 : Modifies Aspect.others s s1 := .dropInputs (.absentReplay hv.same)
    exact .ite (.ite h.caughtUp (.ite h1.answerReseeded.answerAll h)) h
  · exact h

theorem Modifies.execFounderTimer (h : Modifies Aspect.others s t) :
    Leads (Modifies Aspect.others s) (Machine.execFounderTimer t) :=
  .next (.ite (.same h.foundBase) h)

theorem Modifies.execFoundingAnnounceSend (h : Modifies Aspect.others s t) :
    Leads (Modifies Aspect.others s) (Machine.execFoundingAnnounceSend t) := by
  refine .next ?_
  split
  · exact .ite (.originate h.same) h
  · exact h

theorem Modifies.execFoundingReadySend (h : Modifies Aspect.others s t) :
    Leads (Modifies Aspect.others s) (Machine.execFoundingReadySend t) := by
  refine .next ?_
  split
  · exact .ite (.originate h.same) h
  · exact h

/-! ### Instructions of the ports, keys and injectors (chapters 02, 03, 06 and 18) -/

theorem Modifies.execHostDatagramReceived {d : Datagram} (h : Modifies Aspect.others s t) :
    Leads (Modifies Aspect.others s) (Machine.execHostDatagramReceived d t) :=
  .next (.ite h (.ite h.dropDatagram (.ite h.same h.placePkt)))

theorem Modifies.execArpRequest {port : Nat} {targetIp : Word} (h : Modifies Aspect.others s t) :
    Leads (Modifies Aspect.others s) (Machine.execArpRequest port targetIp t) :=
  .next (.ite (.ports h (by simp [Ports.sizes])) h)

/-- The echo budget of a port, for any period `k`: the kernel would count the second's microseconds out. -/
theorem Modifies.answerEcho {port k : Nat} {x : Nat × Nat} (h : Modifies B s t) : Modifies B s
    (match x with
    | (n, since) => match (if since + k ≤ t.tm.now then (0, t.tm.now) else (n, since)) with
    | (n, since) =>
      if n < 100 then
        { t with
          ports.echo := upd t.ports.echo port fun _ => (n + 1, since)
          ports.echoSent := upd t.ports.echoSent port (· + 1) }
      else { t with ports.echo := upd t.ports.echo port fun _ => (n, since) }.dropDatagram) := by
  split
  split
  exact .ite (.ports h (by simp [Ports.sizes])) (.dropDatagram (.ports h (by simp [Ports.sizes])))

theorem Modifies.execIcmpEchoRequest {port : Nat} {targetIp : Word} {ipLen : Nat} (h : Modifies Aspect.others s t) :
    Leads (Modifies Aspect.others s) (Machine.execIcmpEchoRequest port targetIp ipLen t) :=
  .next (.ite h (.ite h.answerEcho h.dropDatagram))

theorem Modifies.execHostLinkChange {port speed : Nat} (h : Modifies Aspect.others s t) :
    Leads (Modifies Aspect.others s) (Machine.execHostLinkChange port speed t) :=
  .next (.ite (.ports h (by simp [Ports.sizes])) h)

theorem Modifies.execUsbEnumeration (h : Modifies Aspect.others s t) :
    Leads (Modifies Aspect.others s) (Machine.execUsbEnumeration t) :=
  .next (.ite (.ports h (by simp [Ports.sizes])) h)

theorem Modifies.execInjDurationExpiry {injector : Nat} (h : Modifies Aspect.others s t) :
    Leads (Modifies Aspect.others s) (Machine.execInjDurationExpiry injector t) := by
  refine .next ?_
  split
  · exact .ite h.disarm h
  · exact h

theorem Modifies.execInjHoldRelease {injector : Nat} (h : Modifies Aspect.others s t) :
    Leads (Modifies Aspect.others s) (Machine.execInjHoldRelease injector t) := by
  refine .next ?_
  split
  · exact .ite (.releaseFrames (.setInj h (by simp))) h
  · exact h

theorem Modifies.execInjArm {c : Cmd} (h : Modifies Aspect.others s t) :
    Leads (Modifies Aspect.others s) (Machine.execInjArm c t) :=
  h.runOpcode (.ite_st h.refuseAuthority (.ite_st h.refuseAuthority (.ite_st h (.ite_st h (.ite_st h
    (.logNotify (.setInj h.disarm (by simp))))))))

theorem Modifies.execInjDisarm {c : Cmd} (h : Modifies Aspect.others s t) :
    Leads (Modifies Aspect.others s) (Machine.execInjDisarm c t) :=
  h.runOpcode (.ite_st h (.foldl h fun _ _ h => .ite h.disarm h))

theorem Modifies.execSecProgram {c : Cmd} (h : Modifies Aspect.others s t) :
    Leads (Modifies Aspect.others s) (Machine.execSecProgram c t) := by
  refine h.runOpcode ?_
  dsimp only
  split
  · exact h.refuseAuthority
  · exact .ite_st h (.ite_st h (.ite_st h (.ite h.blow.blow h.blow.blow.log)))

theorem Modifies.execSecSeal {c : Cmd} (h : Modifies Aspect.others s t) :
    Leads (Modifies Aspect.others s) (Machine.execSecSeal c t) := by
  refine h.runOpcode ?_
  dsimp only
  split
  · exact h.refuseAuthority
  · exact .ite_st h (.ite_st h (.ite_st h (.ite_st h (.log (.ite h.blow.blow.blow.deriveAuthority h.blow.blow.blow)))))

theorem Modifies.execSecWithdrawInj {c : Cmd} (h : Modifies Aspect.others s t) :
    Leads (Modifies Aspect.others s) (Machine.execSecWithdrawInj c t) := by
  refine h.runOpcode ?_
  extract_lets n s1 sec s2 s3
  split
  · exact h.refuseAuthority
  have h1 : Modifies Aspect.others s s1 := h.disarmAll.blow
  clear_value s1
  have h2 : Modifies Aspect.others s s2 := h1.resize
  exact .ite_st h (.ite_st h h2.log)

theorem Modifies.execSvcKeyChange {ohms heldUs : Nat} (h : Modifies Aspect.others s t) :
    Leads (Modifies Aspect.others s) (Machine.execSvcKeyChange ohms heldUs t) :=
  .next (.ite h (.ite (.log (.setSec h rfl)) (.disarmAll (.log (.setSec h rfl)))))

/-! ### Instructions of the channels, loops and cells (chapters 10 to 13) -/

theorem Modifies.execRemapHandover {channel : Nat} (h : Modifies Aspect.others s t) :
    Leads (Modifies Aspect.others s) (Machine.execRemapHandover channel t) := by
  refine .next ?_
  split
  · exact .ite h.setChan.startConversion.setLoop h
  · exact h

theorem Modifies.execRoveVisitStart {bank slice_ : Nat} (h : Modifies Aspect.others s t) :
    Leads (Modifies Aspect.others s) (Machine.execRoveVisitStart bank slice_ t) := by
  refine .next (.ite ?_ h)
  dsimp only
  split
  · exact h.checkSlice.setBank
  · exact h.checkSlice

theorem Modifies.execInPlaceCheckTimer {channel : Nat} (h : Modifies Aspect.others s t) :
    Leads (Modifies Aspect.others s) (Machine.execInPlaceCheckTimer channel t) := by
  refine .next ?_
  dsimp only
  refine .ite ?_ h
  split
  · exact .ite h h.setChan.checkNow
  · exact h

theorem Modifies.execConversionResult {bank slice_ : Nat} {r : ConvResult} (h : Modifies Aspect.others s t) :
    Leads (Modifies Aspect.others s) (Machine.execConversionResult bank slice_ r t) := by
  refine .next ?_
  dsimp only
  refine .ite h ?_
  split
  · split
    · exact .ite h h.lateResult
    · exact .ite h h.workingResult
  split
  · exact .ite h h.roverResult
  · exact h

theorem Modifies.execPulsedRequest {channel : Nat} (h : Modifies Aspect.others s t) :
    Leads (Modifies Aspect.others s) (Machine.execPulsedRequest channel t) := by
  refine .next ?_
  dsimp only
  split
  · exact .ite (.ite h.setChan.setSlice h.setChan.setChan) h
  · exact h

theorem Modifies.execLeadTimeExpiry {bank slice_ : Nat} (h : Modifies Aspect.others s t) :
    Leads (Modifies Aspect.others s) (Machine.execLeadTimeExpiry bank slice_ t) :=
  .next (.ite (.elim h fun _ => h.startFilter) h)

theorem Modifies.execWireCheckWindowStart {channel : Nat} (h : Modifies Aspect.others s t) :
    Leads (Modifies Aspect.others s) (Machine.execWireCheckWindowStart channel t) := by
  refine .next ?_
  extract_lets k x asked l busy
  split
  · exact .ite (.ite h.setChan h.openWindow) h
  · exact h

theorem Modifies.execWireCheckWindowEnd {channel : Nat} {ohms : Nat} (h : Modifies Aspect.others s t) :
    Leads (Modifies Aspect.others s) (Machine.execWireCheckWindowEnd channel ohms t) :=
  .next (.ite (.noteCheck (.ite h.setChan.judgeWindow h.setChan)) h)

theorem Modifies.execClampConduction {bank terminal : Nat} {conducting : Bool} (h : Modifies Aspect.others s t) :
    Leads (Modifies Aspect.others s) (Machine.execClampConduction bank terminal conducting t) := by
  refine .next ?_
  extract_lets i k now owner report s1 s2
  have h1 : Modifies Aspect.others s s1 := h.setBank
  have h2 : Modifies Aspect.others s s2 := by
    clear_value owner
    dsimp only [s2]
    split
    · exact h1.setChan
    · exact h1
  exact .ite h (.ite h.setBank (.ite h2.chanEvent h2))

theorem Modifies.execHousekeepingReading {bank : Nat} {tA tB : Option Word} {bankTemp : Word} {supplyMv : Nat} (h : Modifies Aspect.others s t) :
    Leads (Modifies Aspect.others s) (Machine.execHousekeepingReading bank tA tB bankTemp supplyMv t) := by
  refine .next ?_
  extract_lets x ga gb na nb fa fb gap both apart together dis s1 s2 s3
  have h1 : Modifies Aspect.others s s1 := h.setBank
  have h2 : Modifies Aspect.others s s2 := .ite h1.cjEvent (.ite h1.cjEvent h1)
  have h3 : Modifies Aspect.others s s3 := .ite h2.cjEvent (.ite h2.cjEvent h2)
  exact .ite h (.ite h3.cjEvent (.ite h3.cjEvent h3))

theorem Modifies.execChanRestore {c : Cmd} (h : Modifies Aspect.others s t) :
    Leads (Modifies Aspect.others s) (Machine.execChanRestore c t) := by
  refine h.runOpcode ?_
  extract_lets ch b free k
  clear_value free
  refine .ite_st h (.ite_st h ?_)
  split
  · exact h
  extract_lets s1 s2 s3
  have h1 : Modifies Aspect.others s s1 := h.takeRover.setChan.checkRovers
  have h3 : Modifies Aspect.others s s3 := h1.startSchedules.startConversion.setChan.setSlice
  clear_value s3
  exact h3.readInstruments.chanEvent

theorem Modifies.execChanCheck {c : Cmd} (h : Modifies Aspect.others s t) :
    Leads (Modifies Aspect.others s) (Machine.execChanCheck c t) :=
  h.runSilent (.ite h.reply (.ite h.reply (.ite h.reply (.ite h.reply.setChan.noVisit h.reply.setChan.setBank))))

theorem Modifies.execLoopFault {channel : Nat} (h : Modifies Aspect.others s t) :
    Leads (Modifies Aspect.others s) (Machine.execLoopFault channel t) :=
  .next (.ite h (.ite h.setLoop.diagnostic.chanEvent (.ite h.setLoop.diagnostic.chanEvent h)))

theorem Modifies.execSetpointRefresh {bank : Nat} {frame : BitVec 64} (h : Modifies Aspect.others s t) :
    Leads (Modifies Aspect.others s) (Machine.execSetpointRefresh bank frame t) := by
  refine .next ?_
  extract_lets b now s1 s2
  have h2 : Modifies Aspect.others s s2 := .foldl h.setBank fun _ _ h => .ite h.setLoop.preRaise h
  exact .ite h (.ite h2.chanEvent h2)

theorem Modifies.execHoldExpired {bank : Nat} (h : Modifies Aspect.others s t) :
    Leads (Modifies Aspect.others s) (Machine.execHoldExpired bank t) := by
  refine .next ?_
  dsimp only
  split
  · exact .ite (.foldl h.setBank fun _ _ h => h.preRaise) h
  · exact h

theorem Modifies.execNselRead {bank : Nat} {ohms : Nat} (h : Modifies Aspect.others s t) :
    Leads (Modifies Aspect.others s) (Machine.execNselRead bank ohms t) :=
  .next (.ite h (.ite (.chanEvent (.foldl h.setBank.setBank fun _ _ h => h.preRaise)) h.setBank))

theorem Modifies.execHartPoll {channel : Nat} (h : Modifies Aspect.others s t) :
    Leads (Modifies Aspect.others s) (Machine.execHartPoll channel t) := by
  refine .next ?_
  dsimp only
  refine .ite ?_ h
  split
  · exact h.setLoop
  · exact h.startHost

theorem Modifies.execCarrierFreeWait {channel : Nat} (h : Modifies Aspect.others s t) :
    Leads (Modifies Aspect.others s) (Machine.execCarrierFreeWait channel t) := by
  refine .next ?_
  dsimp only
  split
  · exact .ite (.ite h.openWindow h.setLoop) h
  · exact h

theorem Modifies.execHartResponseReceived {channel : Nat} {bytes : Bytes} {parityOk : Bool} (h : Modifies Aspect.others s t) :
    Leads (Modifies Aspect.others s) (Machine.execHartResponseReceived channel bytes parityOk t) := by
  refine .next (.ite h ?_)
  dsimp only
  split
  · exact .ite h.setLoop.setLoop (.ite h.setLoop (.ite h.setLoop.takeResponse h.setLoop.failAttempt))
  · exact .ite h.setLoop.setLoop h.setLoop
  · exact h.setLoop.failAttempt
  · exact h.setLoop

theorem Modifies.execHartResponseTimeout {channel : Nat} (h : Modifies Aspect.others s t) :
    Leads (Modifies Aspect.others s) (Machine.execHartResponseTimeout channel t) := by
  refine .next ?_
  split
  · exact .ite h.failAttempt h
  · exact h

theorem Modifies.execLoopTransact {c : Cmd} (h : Modifies Aspect.others s t) :
    Leads (Modifies Aspect.others s) (Machine.execLoopTransact c t) := by
  refine .next ?_
  dsimp only
  refine .ite h ?_
  split
  · exact h.reply
  · exact .ite h.reply (.ite h.reply (.ite h.reply.ringDrop (.reply (.ringUsed h.same))))

theorem Modifies.execLoopForceExpiry {channel : Nat} (h : Modifies Aspect.others s t) :
    Leads (Modifies Aspect.others s) (Machine.execLoopForceExpiry channel t) := by
  refine .next ?_
  split
  · exact .ite h.endLoopForce.preRaise h
  · exact h

theorem Modifies.execDioFilterCount {channel : Nat} {high : Bool} (h : Modifies Aspect.others s t) :
    Leads (Modifies Aspect.others s) (Machine.execDioFilterCount channel high t) := by
  refine .next ?_
  extract_lets k c n st s1 s2
  have h2 : Modifies Aspect.others s s2 := .ite h.setCell h.setCell.setCell
  exact .ite h (.ite h2.publishDio h2)

theorem Modifies.execDioHoldExpired {channel : Nat} (h : Modifies Aspect.others s t) :
    Leads (Modifies Aspect.others s) (Machine.execDioHoldExpired channel t) := by
  refine .next ?_
  dsimp only
  split
  · exact .ite h.setCell.dioEdge h
  · exact h

theorem Modifies.execHostLeaseExpiry {channel : Nat} (h : Modifies Aspect.others s t) :
    Leads (Modifies Aspect.others s) (Machine.execHostLeaseExpiry channel t) := by
  refine .next ?_
  dsimp only
  split
  · exact .ite h.setCell.setCommand.cellEvent h
  · exact h

theorem Modifies.fieldSupply {i : Nat} {f : FieldSupply → FieldSupply} (h : Modifies B s t) :
    Modifies B s { t with dio.fs := upd t.dio.fs i f } :=
  h.same (hs := by simp [State.sizes])

theorem Modifies.execFsRestore {supply : Nat} {mv : Nat} (h : Modifies Aspect.others s t) :
    Leads (Modifies Aspect.others s) (Machine.execFsRestore supply mv t) := by
  refine .fault_or (.next ?_)
  exact .ite h (.setFs (.foldl h.fieldSupply fun _ _ h => .ite h.setCell h))

theorem Modifies.execFsChannelResume {channel : Nat} (h : Modifies Aspect.others s t) :
    Leads (Modifies Aspect.others s) (Machine.execFsChannelResume channel t) := by
  refine .next ?_
  split
  · exact .ite h.setCell h
  · exact h

theorem Modifies.execCellReset {channel : Nat} (h : Modifies Aspect.others s t) :
    Leads (Modifies Aspect.others s) (Machine.execCellReset channel t) :=
  .next (.ite h (.showFault (.ite h.setCell.cellEvent h.setCell)))

theorem Modifies.execOutputOverload {channel ma : Nat} {thermal : Bool} (h : Modifies Aspect.others s t) :
    Leads (Modifies Aspect.others s) (Machine.execOutputOverload channel ma thermal t) :=
  .next (.ite h (.ite h.setCell.cellEvent.setCell.cellEvent.endDioForce.showFault h.setCell.cellEvent.showFault))

theorem Modifies.execOverloadRetry {channel : Nat} (h : Modifies Aspect.others s t) :
    Leads (Modifies Aspect.others s) (Machine.execOverloadRetry channel t) := by
  refine .next ?_
  dsimp only
  refine .ite h ?_
  split
  · exact .ite h.setCell h
  · exact .ite h.setCell.cellEvent.showFault h

theorem Modifies.execOffPulse {channel mv : Nat} (h : Modifies Aspect.others s t) :
    Leads (Modifies Aspect.others s) (Machine.execOffPulse channel mv t) :=
  .fault_or (.next (.ite h (.ite (.ite h.setCell.setCell.cellEvent.showFault h.setCell) h.setCell.cellEvent.showFault)))

theorem Modifies.execDioForceExpiry {channel : Nat} (h : Modifies Aspect.others s t) :
    Leads (Modifies Aspect.others s) (Machine.execDioForceExpiry channel t) := by
  refine .next ?_
  split
  · exact .ite h.endDioForce h
  · exact h

theorem Modifies.execDioWriteHostSet {c : Cmd} (h : Modifies Aspect.others s t) :
    Leads (Modifies Aspect.others s) (Machine.execDioWriteHostSet c t) :=
  h.runOpcode (h.dioWrite fun _ _ _ => .ite_st h h.setCell.setCommand)

theorem Modifies.execDioWriteForce {c : Cmd} (h : Modifies Aspect.others s t) :
    Leads (Modifies Aspect.others s) (Machine.execDioWriteForce c t) :=
  h.runOpcode (h.dioWrite fun _ _ _ => h.endDioForce.setCell.cellEvent.dioEdge)

theorem Modifies.execDioWriteRelease {c : Cmd} (h : Modifies Aspect.others s t) :
    Leads (Modifies Aspect.others s) (Machine.execDioWriteRelease c t) :=
  h.runOpcode (h.dioWrite fun _ _ _ => h.endDioForce)

theorem Modifies.execDioRestore {c : Cmd} (h : Modifies Aspect.others s t) :
    Leads (Modifies Aspect.others s) (Machine.execDioRestore c t) :=
  h.runOpcode (.ite_st h (.ite_st h h.setCell.cellEvent.showFault))

/-! ### Instructions of the display and the ledger (chapters 15 and 16) -/

theorem Modifies.execPanelIdentityRead {p : Nat} {id : Option PanelId} (h : Modifies Aspect.others s t) :
    Leads (Modifies Aspect.others s) (Machine.execPanelIdentityRead p id t) := by
  refine .next (.ite h ?_)
  split
  · exact .ite h.setPanel.cutOff.dispEvent.showPanels h.setPanel
  · extract_lets other bad s0 s1 s2 s3 s4 s5
    have h1 : Modifies Aspect.others s s1 := .setPanel (.ite h.cutOff h)
    have h2 : Modifies Aspect.others s s2 := .ite h1.dispEvent h1
    have h3 : Modifies Aspect.others s s3 := .ite h2.dispEvent h2
    have h4 : Modifies Aspect.others s s4 := .ite h3.dispEvent h3
    have h5 : Modifies Aspect.others s s5 := .ite h4.cutOff h4
    split <;> exact h5.panelTemp.showPanels

theorem Modifies.execRailFaultRetry {p : Nat} {railFault : Nat} {railMv : Int} (h : Modifies Aspect.others s t) :
    Leads (Modifies Aspect.others s) (Machine.execRailFaultRetry p railFault railMv t) := by
  refine .next ?_
  split
  · exact .ite (.ite h.railFault (.showPanels (.tryStart h.same))) h
  · exact h

theorem Modifies.execDisplayUpdateEnd {p : Nat} (h : Modifies Aspect.others s t) :
    Leads (Modifies Aspect.others s) (Machine.execDisplayUpdateEnd p t) := by
  refine .next ?_
  split
  · exact .ite h.setPanel.measure.idleRails h
  · exact h

theorem Modifies.execRailOffTimer (h : Modifies Aspect.others s t) :
    Leads (Modifies Aspect.others s) (Machine.execRailOffTimer t) := by
  refine .next ?_
  split
  · exact .ite h.same h
  · exact h

theorem Modifies.execPageHoldExpiry {p : Nat} (h : Modifies Aspect.others s t) :
    Leads (Modifies Aspect.others s) (Machine.execPageHoldExpiry p t) := by
  refine .next ?_
  split
  · exact .ite h.setPanel.renderNow h
  · exact h

theorem Modifies.execAgeMeasurement {entry site : Nat} {value : Word} (h : Modifies Aspect.others s t) :
    Leads (Modifies Aspect.others s) (Machine.execAgeMeasurement entry site value t) := by
  refine .next (.ite h ?_)
  split
  · dsimp only
    split
    · exact h.measure.raiseCore.noteState
    · exact h.measure
  · exact h.measure
  · exact h.measure
  · dsimp only
    split
    · exact h.measure.measure
    · exact h.measure
  · exact h
  · dsimp only
    split
    · exact .ite (.measure h.same) h
    · exact h
  · exact h.measure
  · exact h.measure

theorem Modifies.execHistorySample (h : Modifies Aspect.others s t) :
    Leads (Modifies Aspect.others s) (Machine.execHistorySample t) := by
  refine .next ?_
  extract_lets h0 last row hist biases age s1
  have h1 : Modifies Aspect.others s s1 := h.resize (by simp [State.sizes, s1])
  exact .ite h1.recompute h

/-! ### Instructions of the clocks and supplies (chapter 16) -/

theorem Modifies.execOscillatorStable {bosc : Bool} {runs : List (Nat × Nat)} (h : Modifies Aspect.others s t) :
    Leads (Modifies Aspect.others s) (Machine.execOscillatorStable bosc runs t) :=
  .next (.ite h (.ite (.ite h.resize h) (.ite h.resize h)))

theorem Modifies.execBoscAttemptTimer (h : Modifies Aspect.others s t) :
    Leads (Modifies Aspect.others s) (Machine.execBoscAttemptTimer t) :=
  .next (.ite (.ite h.failBosc h.resize) h)

theorem Modifies.execClockStartDecision (h : Modifies Aspect.others s t) :
    Leads (Modifies Aspect.others s) (Machine.execClockStartDecision t) :=
  .next (.ite h (.ite h.resize (.ite h (.ite h.resize h.enterClockless))))

theorem Modifies.execClockMonitorTrip {f : ClockFinding} {stretchNs : Nat} (h : Modifies Aspect.others s t) :
    Leads (Modifies Aspect.others s) (Machine.execClockMonitorTrip f stretchNs t) := by
  refine .next (.ite h ?_)
  extract_lets s0 clk s1 clk'
  have h0 : Modifies Aspect.others s s0 := h.noteOffset
  split
  · exact h0
  extract_lets trip
  have h1 : Modifies Aspect.others s s1 := h0.resize
  split
  · exact .ite h0 (.ite h1.tripRef h1.resize)
  · exact .ite h0 (.ite h1.tripRef (.failBosc h1.resize))
  · exact .ite h1.tripRef h0

theorem Modifies.execXoRetry {runs windows : List (Nat × Nat)} {offsets : List (Nat × Int)} (h : Modifies Aspect.others s t) :
    Leads (Modifies Aspect.others s) (Machine.execXoRetry runs windows offsets t) := by
  refine .next (.ite h ?_)
  extract_lets clk s1 onFabric clk' s2
  have h1 : Modifies Aspect.others s s1 := h.resize
  have h2 : Modifies Aspect.others s s2 := h1.resize
  refine .ite (.ite h2.orderlySwitch ?_) h1
  dsimp only [State.takeFree]
  exact .ite (.leaveIsland (.forceSwitch h2.takeFree)) (.forceSwitch h2.takeFree)

theorem Modifies.execBoscRetry {runs : List (Nat × Nat)} (h : Modifies Aspect.others s t) :
    Leads (Modifies Aspect.others s) (Machine.execBoscRetry runs t) :=
  .next (.ite h (.ite (.clockEvent h.resize) h.resize))

theorem Modifies.execWoscCheck {khz : Nat} (h : Modifies Aspect.others s t) :
    Leads (Modifies Aspect.others s) (Machine.execWoscCheck khz t) :=
  .next (.ite h (.ite (.ite h.resize (.clockEvent h.resize)) (.ite h.resize (.ite h.resize (.clockEvent h.resize)))))

theorem Modifies.execSupplyEvent {input : Nat} {mv : Int} {heldMs : Nat} (h : Modifies Aspect.others s t) :
    Leads (Modifies Aspect.others s) (Machine.execSupplyEvent input mv heldMs t) :=
  .fault_or (.next (.ite h (.ite h.resize (.diagnostic (.supplyEvent h.resize)))))

theorem Modifies.execSupplyWarning {mv heldMs : Nat} (h : Modifies Aspect.others s t) :
    Leads (Modifies Aspect.others s) (Machine.execSupplyWarning mv heldMs t) :=
  .next (.ite h (.ite (.supplyEvent h.resize) (.ite (.supplyEvent h.resize) h)))

theorem Modifies.execSupplyLoss {mv fallMv : Nat} (h : Modifies Aspect.others s t) :
    Leads (Modifies Aspect.others s) (Machine.execSupplyLoss mv fallMv t) := by
  have h1 : Modifies Aspect.others s { t with pw.mvOr := mv } := h.resize
  exact .next (.ite h (.ite h1.powerFail (.ite h1.oscillatorsOff (.ite h1.resize h1.dropClocks.oscillatorsOff))))

theorem Modifies.execHoldUpSpent (h : Modifies Aspect.others s t) :
    Leads (Modifies Aspect.others s) (Machine.execHoldUpSpent t) :=
  .next (.ite (.same h.dropClocks.oscillatorsOff.banksOff) h)

theorem Modifies.execStoppingTimeout (h : Modifies Aspect.others s t) :
    Leads (Modifies Aspect.others s) (Machine.execStoppingTimeout t) := by
  refine .next ?_
  split
  · exact .ite h.coreRestart h
  · exact h

theorem Modifies.execDramUncorrectable {address : Word} (h : Modifies Aspect.others s t) :
    Leads (Modifies Aspect.others s) (Machine.execDramUncorrectable address t) := by
  refine .next ?_
  split
  · exact h
  extract_lets location action pw s1 s2 s3
  have h2 : Modifies Aspect.others s s2 := .commitRec (h.resize : Modifies Aspect.others s s1)
  exact .ite h (.ite h2.coreRestart (.ite h2.abandon.startReseed h2.abandon))

theorem Modifies.execCoreStartUp {r : StartReport} (h : Modifies Aspect.others s t) :
    Leads (Modifies Aspect.others s) (Machine.execCoreStartUp r t) := by
  refine .next ?_
  extract_lets fail s1 again s1' s2 pw2 cfg2 s3 cfg3 repaired cfg4 s4 s6 pw6
  have h1 : Modifies Aspect.others s s1' := .foldl h.openRecorder.firstRecords fun _ _ h => .ite h h.loseDie
  have h2 : Modifies Aspect.others s s2 := .endForces (.readFuses (.ite h1 h1.holdUpTest))
  have h3 : Modifies Aspect.others s s3 := h2.startLanes
  clear_value s2
  clear_value s3
  have hr : Modifies Aspect.others s repaired := h3.repairSelectors
  clear_value repaired
  have h4 : Modifies Aspect.others s s4 := hr.resize
  have h6 : Modifies Aspect.others s s6 := h4.unsealedRecord.openLedger.loadFirmware.restartDisplay
  clear_value s6
  exact .ite h (.ite h2.resize (.ite h3.resize (.ite (.startFailed h3.resize) (.ite h6.runImage
    (.startFailed (.judgePorts h6.resize))))))

/-! ### Instructions of the configuration and the epoch (chapters 07 and 17) -/

theorem Modifies.execCfgBegin {c : Cmd} (h : Modifies Aspect.others s t) :
    Leads (Modifies Aspect.others s) (Machine.execCfgBegin c t) := by
  refine h.runOpcode ?_
  extract_lets p r x cfg s1 next cfg2 s2 s3
  have h2 : Modifies Aspect.others s s2 := h.resize
  have h3 : Modifies Aspect.others s s3 := .ite h2.eraseRegion.setDir h2
  exact .ite_st h (.ite_st h (.ite_st h (.ite_st h (.ite_st h h3))))

theorem Modifies.execCfgWrite {c : Cmd} (h : Modifies Aspect.others s t) :
    Leads (Modifies Aspect.others s) (Machine.execCfgWrite c t) := by
  refine h.runOpcode ?_
  dsimp only
  refine .ite_st h ?_
  split
  · exact h
  · exact .ite_st h h.writeSession

theorem Modifies.execCfgCommit {c : Cmd} (h : Modifies Aspect.others s t) :
    Leads (Modifies Aspect.others s) (Machine.execCfgCommit c t) := by
  refine h.runSilent ?_
  dsimp only
  refine .ite h.reply ?_
  split
  · exact h.reply
  refine .ite h.reply ?_
  have h1 {l : List Session} : Modifies Aspect.others s { t with cfg.sessions := l } := h.resize
  refine .ite ?_ h1.reply.runCommit
  split
  · exact .resize h1.reply.supersede
  · exact .resize h1.reply

theorem Modifies.execCfgAbandon {c : Cmd} (h : Modifies Aspect.others s t) :
    Leads (Modifies Aspect.others s) (Machine.execCfgAbandon c t) := by
  refine h.runOpcode ?_
  dsimp only
  refine .ite_st h (.ite_st h.resize ?_)
  split
  · exact h.supersede
  · exact .ite_st h h

theorem Modifies.execFlashProgramDone {region : Nat} (h : Modifies Aspect.others s t) :
    Leads (Modifies Aspect.others s) (Machine.execFlashProgramDone region t) := by
  refine .next (.ite h ?_)
  split
  · exact h
  extract_lets cfg s1 cfg1 s2
  have h1 : Modifies Aspect.others s s1 := .programmed h.resize
  have h2 : Modifies Aspect.others s s2 :=
    .ite h1.activateLocal (.ite h1.activateInStart.complete (.complete (.notify h1.resize)))
  exact h2.promote

theorem Modifies.execNodePrepareOff {c : Cmd} (h : Modifies Aspect.others s t) :
    Leads (Modifies Aspect.others s) (Machine.execNodePrepareOff c t) := by
  refine h.runSilent (.ite h.reply ?_)
  extract_lets s1 pw
  have h1 : Modifies Aspect.others s s1 := h.reply
  clear_value s1
  split
  · exact h1.complete
  · exact h1.same
  · exact .prepareStep (.disarmAll (.thaw h1.resize))

theorem Modifies.execPrepareOffStopTimer (h : Modifies Aspect.others s t) :
    Leads (Modifies Aspect.others s) (Machine.execPrepareOffStopTimer t) := by
  refine .next ?_
  split
  · exact .ite h.enterStopping.prepareStep h
  · exact h

theorem Modifies.execEpochEnd (h : Modifies Aspect.others s t) :
    Leads (Modifies Aspect.others s) (Machine.execEpochEnd t) := by
  refine .next ?_
  split
  · exact .ite h (.ite h.resize h.endEpoch)
  · exact h

theorem Modifies.execSegmentVote (h : Modifies Aspect.others s t) :
    Leads (Modifies Aspect.others s) (Machine.execSegmentVote t) := by
  refine .next ?_
  split
  · exact .ite (.judgeOwn (.castVote (.castVote h.same))) h
  · exact h

theorem Modifies.execTrunkVote (h : Modifies Aspect.others s t) :
    Leads (Modifies Aspect.others s) (Machine.execTrunkVote t) := by
  refine .next ?_
  split
  · exact .ite (.judgeOwn (.castVote (.castVote h.same))) h
  · exact h

theorem Modifies.execEpochEvaluate {r : EvalReport} (h : Modifies Aspect.others s t) :
    Leads (Modifies Aspect.others s) (Machine.execEpochEvaluate r t) := by
  refine .next (.ite h ?_)
  split
  · exact h.idleCoils
  · exact .ite (.ite h.evalIsland h) (.ite h.judgeOwn.idleCoils.reseedTest
      (.ite h.sendAggregate.evalEpoch h.sendAggregate.idleCoils))

theorem Modifies.execInputIncomplete (h : Modifies Aspect.others s t) :
    Leads (Modifies Aspect.others s) (Machine.execInputIncomplete t) := by
  refine .next ?_
  split
  · exact h
  dsimp only
  split
  · have h1 {a b : Nat} {bs bs' : Bytes} {l e : Nat} : Modifies Aspect.others s
        (({ t with repl.incomplete := a } : State).logNotifyAt b bs l e bs') := .logNotifyAt h.same
    exact .ite (.ite h1.failReseed.startReseed h1.same) h
  · exact h

theorem Modifies.execNoEvaluationTimeout (h : Modifies Aspect.others s t) :
    Leads (Modifies Aspect.others s) (Machine.execNoEvaluationTimeout t) :=
  .next (.ite (.ite (.startReseed (.membershipFault h.same)) (.membershipFault h.same)) h)

/-! ### Every instruction and every step keeps the units -/

theorem Modifies.setWatchCmd {n : Nat} {c : Cmd} (h : Modifies B s t) : Leads (Modifies B s) (Machine.setWatchCmd n c t) :=
  h.runAction

theorem Modifies.exec (h : Modifies Aspect.others s t) (i : Instr) : Leads (Modifies Aspect.others s) (Machine.exec i t) := by
  unfold Machine.exec
  cases i with
  | nodeIdentify | nodeRingStatus | nodeLanes | callStatus | fabStatus | timeRead | chanCj | dispStatus | nodeClocks | nodeStatus
  | ageLedger | cfgStatus | injStatus | secPorts | secFuses => exact h.runPlain
  | tagRead | tagReadRange | alarmList | alarmGroupList | alarmBundle | alarmEdges | fabMembers | chanRead | chanMap | loopStatus
  | dioRead | recInfo => exact h.runOpcode (.ite_st h h)
  | alarmAck | alarmShelve | alarmUnshelve | alarmSetOos | alarmClearOos | alarmReset | alarmAckBundle | callDeadman
  | timeSetSystem | snapSchedule | cfgActivate => exact h.runAction
  | callSetWatchOffer | callSetWatchAccept | callSetWatchWithdraw => exact h.setWatchCmd
  | relaySegmentReceived | sealReceived | segmentAggregateReceived | segmentVoteReceived | trunkVoteReceived
  | membershipJoinReceived | tagUpdateReceived | actionReceived | digestReceived | witnessRecordReceived | witnessAckReceived
  | transferRequestReceived | transferBlockReceived | transferEndReceived | transferAbortReceived | transferReadyReceived
  | snapshotFrameReceived | linkHelloReceived | delayReqReceived | delayRespReceived | timeAnnounceReceived | timeSyncReceived
  | foundingAnnounceReceived | foundingReadyReceived | foundingRosterReceived => exact h.frameRow
  | nodeSubscribe => exact h.execNodeSubscribe
  | nodeSetProfile => exact h.execNodeSetProfile
  | callRelayTest => exact h.execCallRelayTest
  | snapRead => exact h.execSnapRead
  | chanRetire => exact h.runOpcode (.ite_st h (.ite_st h h.retireChan))
  | chanRestore => exact h.execChanRestore
  | chanCheck => exact h.execChanCheck
  | loopTransact => exact h.execLoopTransact
  | loopForce => exact h.runOpcode h.loopForce
  | loopForceRelease => exact h.runOpcode h.loopForce
  | dioWriteHostSet => exact h.execDioWriteHostSet
  | dioWriteForce => exact h.execDioWriteForce
  | dioWriteRelease => exact h.execDioWriteRelease
  | dioRestore => exact h.execDioRestore
  | recRead => exact h.execRecRead
  | recFreeze => exact h.execRecFreeze
  | recThaw => exact h.runOpcode (.ite_st h h.thaw)
  | recClear => exact h.execRecClear
  | timeSetWallmap => exact h.execTimeSetWallmap
  | dispShowPage => exact h.runOpcode (.ite_st h (.ite_st h (.ite_st h h.setPanel.renderNow)))
  | dispClear => exact h.runOpcode (.ite_st h (.ite_st h h.setPanel))
  | nodePrepareOff => exact h.execNodePrepareOff
  | ageReplan => exact h.runSilent (.ite h.reply h.reply.startReplan)
  | cfgBegin => exact h.execCfgBegin
  | cfgWrite => exact h.execCfgWrite
  | cfgCommit => exact h.execCfgCommit
  | cfgAbandon => exact h.execCfgAbandon
  | injArm => exact h.execInjArm
  | injDisarm => exact h.execInjDisarm
  | secProgram => exact h.execSecProgram
  | secSeal => exact h.execSecSeal
  | secWithdrawInj => exact h.execSecWithdrawInj
  | hostDatagramReceived => exact h.execHostDatagramReceived
  | arpRequest => exact h.execArpRequest
  | icmpEchoRequest => exact h.execIcmpEchoRequest
  | svcBytesReceived => exact .next (.ite (.svcScan h.same) h)
  | svcPacketTimeout => exact .next (.ite (.svcScan h.same) h)
  | usbEnumeration => exact h.execUsbEnumeration
  | duplicateWindowExpiry => exact .next (.ite h.expireWindows h)
  | subscriptionLapsed => exact .next (.ite (.foldl h.same fun _ _ h => h.pushNotif) h)
  | relayReassemblyTimeout => exact .next (.ite h.same h)
  | relayReplyTimeout => exact .next (.ite (.foldl h.same fun _ _ h => h.refusePkt) h)
  | epochEnd => exact h.execEpochEnd
  | sealSend => exact .next (.ite h.sealEpoch h)
  | tagUpdateFraming => exact .next (.ite h.frameAll h)
  | segmentAggregateSend => exact .next (.ite h.sendAggregate h)
  | segmentVote => exact h.execSegmentVote
  | trunkVote => exact h.execTrunkVote
  | epochEvaluate => exact h.execEpochEvaluate
  | inputIncomplete => exact h.execInputIncomplete
  | noEvaluationTimeout => exact h.execNoEvaluationTimeout
  | alarmActionPending => exact .next (.ite (.foldl h.same fun _ _ h => h.reply) h)
  | witnessResend => exact .next (.ite (.foldl h.same fun _ _ h => h.resendOne) h)
  | transferBlockSend => exact .next (.ite (.ite (.foldl h fun _ _ h => h.sendBlock) h.abortProvider) h)
  | providerSearch => exact .next h.search
  | transferRetry => exact .next h.search
  | transferTimeout => exact h.execTransferTimeout
  | loggedEpochReplay => exact h.execLoggedEpochReplay
  | unknownFrameReceived => exact .next (.ite h.arrive h)
  | linkSyncAcquired => exact .next (.ite h (.ite h.setPort.portTo h.setPort))
  | linkSyncLost => exact .next (.ite h.setPort.portTo h.setPort)
  | linkHelloSend => exact .next (.ite (.foldl h fun _ _ h => .ite h.setPort.sendLocal h) h)
  | helloLossTimeout => exact .next (.ite h.portTo h)
  | portHoldExpiry => exact .next (.ite h.portTo h)
  | quietPhaseBoundary => exact .next (.ite (.foldl h.same fun _ _ h => h.quietPort) h)
  | delayMeasure => exact h.execDelayMeasure
  | timeAnnounceSend => exact .next (.ite (.originate h.same) h)
  | announceExpiry => exact .next (.ite (.chooseMaster h.same) h)
  | timeSyncSend => exact .next (.ite (.foldl h fun _ _ h => .ite h.setPort.sendSync h) h)
  | upstreamTimeout => exact h.execUpstreamTimeout
  | coldCandidateTimer => exact h.execColdCandidateTimer
  | operatingTimePersist => exact .next (.ite h.persistTime h)
  | timeAnchor => exact .next (.ite h.anchor h)
  | founderTimer => exact h.execFounderTimer
  | foundingAnnounceSend => exact h.execFoundingAnnounceSend
  | foundingReadySend => exact h.execFoundingReadySend
  | conversionResult => exact h.execConversionResult
  | pulsedRequest => exact h.execPulsedRequest
  | leadTimeExpiry => exact h.execLeadTimeExpiry
  | wireCheckWindowStart => exact h.execWireCheckWindowStart
  | wireCheckWindowEnd => exact h.execWireCheckWindowEnd
  | clampConduction => exact h.execClampConduction
  | clampFlagTimeout => exact .next (.ite h.setBank h)
  | selfCheckDone => exact .next (.ite h.selfCheck h)
  | inPlaceCheckTimer => exact h.execInPlaceCheckTimer
  | roveVisitStart => exact h.execRoveVisitStart
  | remapHandover => exact h.execRemapHandover
  | housekeepingReading => exact h.execHousekeepingReading
  | loopSupplyTrack => exact .next (.ite (.foldl h fun _ _ h => h.trackSupply) h)
  | loopComplianceCheck => exact .next (.ite (.foldl h fun _ _ h => h.compliance) h)
  | loopFault => exact h.execLoopFault
  | driverThermalLimit => exact .next (.ite h h.readLoop.setLoop.faultTimes)
  | setpointRefresh => exact h.execSetpointRefresh
  | holdExpired => exact h.execHoldExpired
  | nselRead => exact h.execNselRead
  | instrumentRead => exact .next (.ite h.setLoop h)
  | hartPoll => exact h.execHartPoll
  | carrierFreeWait => exact h.execCarrierFreeWait
  | hartResponseReceived => exact h.execHartResponseReceived
  | hartResponseTimeout => exact h.execHartResponseTimeout
  | windowPreemption => exact .next (.ite h.openWindow.setLoop h)
  | loopForceExpiry => exact h.execLoopForceExpiry
  | dioFilterCount => exact h.execDioFilterCount
  | fsState => exact .fault_or (.next (.ite h h.setFs))
  | fsOff => exact .next (.ite h h.fieldSupply.setFs)
  | fsRestore => exact h.execFsRestore
  | fsChannelResume => exact h.execFsChannelResume
  | cellReset => exact h.execCellReset
  | couplerRefresh => exact .next (.ite h.couplerFrame h)
  | dioHoldExpired => exact h.execDioHoldExpired
  | hostLeaseExpiry => exact h.execHostLeaseExpiry
  | outputOverload => exact h.execOutputOverload
  | overloadRetry => exact h.execOverloadRetry
  | stuckOff => exact .next (.ite h.setCell.setFault h)
  | backfeed => exact .fault_or (.next (.ite h.setFault h))
  | openLoad => exact .next (.ite h.setCell.setFault h)
  | offPulse => exact h.execOffPulse
  | dioForceExpiry => exact h.execDioForceExpiry
  | recordWrite => exact .next (.ite (h.recordWrite fun _ _ h => h.render) h)
  | freezeExpiry => exact h.execFreezeExpiry
  | panelIdentityRead => exact h.execPanelIdentityRead
  | displayUpdateStart => exact .next (.ite h.tryStart h)
  | displayUpdateEnd => exact h.execDisplayUpdateEnd
  | railOffTimer => exact h.execRailOffTimer
  | railFaultRetry => exact h.execRailFaultRetry
  | pageHoldExpiry => exact h.execPageHoldExpiry
  | supplyValid => exact .next (.ite h h.resize)
  | oscillatorStable => exact h.execOscillatorStable
  | boscAttemptTimer => exact h.execBoscAttemptTimer
  | clockStartDecision => exact h.execClockStartDecision
  | coreStartUp => exact h.execCoreStartUp
  | startMembershipTimeout => exact .next (.ite (.startFailed h.same) h)
  | clockMonitorTrip => exact h.execClockMonitorTrip
  | xoRetry => exact h.execXoRetry
  | boscRetry => exact h.execBoscRetry
  | woscCheck => exact h.execWoscCheck
  | supplyEvent => exact h.execSupplyEvent
  | supplyWarning => exact h.execSupplyWarning
  | supplyLoss => exact h.execSupplyLoss
  | supplyRestart => exact .next (.ite h.resize h)
  | watchdogTimeout => exact .next (.ite h.coreRestart h)
  | stoppingTimeout => exact h.execStoppingTimeout
  | prepareOffStopTimer => exact h.execPrepareOffStopTimer
  | svcKeyChange => exact h.execSvcKeyChange
  | dramUncorrectable => exact h.execDramUncorrectable
  | dramScrub => exact .next (.ite h.same h)
  | ageMeasurement => exact h.execAgeMeasurement
  | historySample => exact h.execHistorySample
  | replan => exact .next (.ite h.replan h)
  | flashProgramDone => exact h.execFlashProgramDone
  | injDurationExpiry => exact h.execInjDurationExpiry
  | injHoldRelease => exact h.execInjHoldRelease
  | relayTestEnd => exact h.execRelayTestEnd
  | hostLinkChange => exact h.execHostLinkChange
  | holdUpSpent => exact h.execHoldUpSpent
  | uncontainedInternalFault => exact .next (.ite h.coreRestart h)

theorem Modifies.tick (h : Modifies Aspect.others s t) : Leads (Modifies Aspect.others s) (Machine.tick t) := by
  have h1 : Modifies Aspect.others s t.advanceTime.traffic.consequences := h.advanceTime.traffic.consequences
  have h2 : Modifies Aspect.others s t.advanceTime.traffic.consequences.intake.1 := h1.intake
  unfold Machine.tick
  dsimp only
  split
  · split
    · next e => exact .exec (by rwa [e] at h2) _
    · next e => exact .next (by rwa [e] at h2)
  · exact .next h1

/-- No step adds or removes a unit (R24, R78, R209, R280, R372). -/
theorem step_keeps_units (t : State) : Leads (Modifies Aspect.others t) (step t) := by
  unfold step
  split
  · exact (Modifies.refl _ t).tick
  · exact .exec (Modifies.refl _ t).same _

end Sys2Proof.Machine

/-- Settles O4: every instruction and every consequence keeps the counts of units (`step_keeps_units`). -/
theorem stepKeepsUnits : Obligations.StepKeepsUnits := by
  intro s t hs e
  exact Sys2Proof.Machine.modifies_others_iff.1 (Sys2Proof.Machine.step_keeps_units s t e) hs
end

section
set_option Elab.async false
/-! ### NODE.SET_PROFILE -/

namespace Sys2Proof.Machine

/-- The state in which NODE.SET_PROFILE leaves the node where the profile is available (R183, R186). -/
def withProfile (s : State) (p : Profile) : State :=
  { if p = s.lanes.profile then s else s.profileRecord p s.lanes.profile 1 with
    lanes := { s.lanes with profile := p, next := if s.op = .guard then none else some p } }

theorem Admitted.ring {s : State} {c : Cmd} (ha : Admitted s c) : c.port < s.ports.outRings.length :=
  ha.units.outRings ▸ ha.port

/-- A record queued leaves everything but the recorder. -/
theorem State.enqueue_frame (s : State) (i : QItem) : s.enqueue i = { s with rcd := (s.enqueue i).rcd } := by
  unfold State.enqueue; split <;> rfl

theorem withProfile_frame (s : State) (p : Profile) :
    withProfile s p = { s with rcd := (withProfile s p).rcd, lanes := (withProfile s p).lanes } := by
  unfold withProfile; split
  · rfl
  · rw [State.profileRecord, State.log_eq, State.enqueue_frame]

theorem withProfile_lanes (s : State) (p : Profile) :
    (withProfile s p).lanes = { s.lanes with profile := p, next := if s.op = .guard then none else some p } := rfl

theorem withProfile_logs (s : State) (p : Profile) (h : s.core = .running) :
    Logs s (withProfile s p) (if p = s.lanes.profile then [] else [0x0034]) := by
  unfold withProfile; split
  · exact .nil_of_eq rfl
  · exact State.log_logs _ _ _ h

theorem State.profileRecord_lanes (s : State) (new old : Profile) (reason : Nat) :
    (s.profileRecord new old reason).lanes = s.lanes := by simp [State.profileRecord]

theorem execNodeSetProfile_available {s : State} {c : Cmd} {p : Profile} (ha : Admitted s c) (hl : c.payload.length = 4)
    (hp : Profile.ofCode (u8 c.payload 0) = some p) (hz : allZero c.payload 1 3 = true) (hv : profileAvailable s p = true) :
    execNodeSetProfile c s =
      .next ((withProfile s p).replyF c 0x0140 (if s.op = .guard then Status.guardActive else Status.ok) [] 0) := by
  unfold execNodeSetProfile
  rw [runOpcode_admitted ha]
  simp only [hp, hl, hz, hv, ne_eq, not_true_eq_false, Bool.not_true, Bool.false_eq_true, or_self, if_false]
  by_cases hg : s.op = .guard <;>
    simp only [hg, if_true, if_false, withProfile, apply_ite State.lanes, State.profileRecord_lanes, ite_self]

theorem execNodeSetProfile_unavailable {s : State} {c : Cmd} {p : Profile} (ha : Admitted s c) (hl : c.payload.length = 4)
    (hp : Profile.ofCode (u8 c.payload 0) = some p) (hz : allZero c.payload 1 3 = true) (hv : profileAvailable s p = false) :
    execNodeSetProfile c s = .next (s.replyF c 0x0140 Status.profileUnavailable [] 0) := by
  unfold execNodeSetProfile
  rw [runOpcode_admitted ha]
  simp [hp, hl, hz, hv, refuse]

end Sys2Proof.Machine

open Sys2Proof.Machine in
/-- Settles O14: an available profile is taken over by `withProfile`, and a refusal is a reply alone. -/
theorem setProfileReplacesTheConfiguredProfile : Obligations.SetProfileReplacesTheConfiguredProfile := by
  intro s c p ha hl hp hz
  refine ⟨fun hv => ?_, fun hv => ?_⟩
  · have hf := withProfile_frame s p
    refine ⟨_, execNodeSetProfile_available ha hl hp hz hv, ?_, withProfile_lanes s p, ?_, ?_⟩
    · exact State.replyF_answers_of _ _ _ _ _ _ _ ha.ring (by rw [hf]) (by rw [hf])
    · exact withProfile_logs s p ha.running
    · rw [hf]; rfl
  · obtain ⟨answers, frame⟩ := State.replyF_answers s c 0x0140 Status.profileUnavailable [] 0 ha.ring
    exact ⟨_, execNodeSetProfile_unavailable ha hl hp hz hv, answers, frame⟩
end

section
set_option Elab.async false
/-! ### The end of an epoch -/

namespace Sys2Proof.Machine

/-- An activation changes nothing but the epoch length, from where it holds, and the length before (R521). -/
theorem State.changeLength_frame (s : State) (ea : Nat) :
    s.changeLength ea = { s with cfg.len := (s.changeLength ea).cfg.len, cfg.base := (s.changeLength ea).cfg.base
                                 cfg.prev := (s.changeLength ea).cfg.prev } := by
  unfold State.changeLength
  split
  · split
    · dsimp only; split <;> rfl
    · rfl
  · rfl

theorem State.changeLength_none {s : State} {ea : Nat} (h : s.repl.rep.scheduled = none) : s.changeLength ea = s := by
  simp [State.changeLength, h]

/-- The activation that is due brings the length at the head of its copy of region 0, from its epoch on (R521). -/
theorem State.changeLength_due {s : State} {ea : Nat} {rs : List (Nat × Nat)} {x : Nat × Nat}
    (h : s.repl.rep.scheduled = some (ea, rs, x)) (h0 : ∃ p ∈ rs, p.1 = 0) :
    (s.changeLength ea).cfg.len = max 1 (u32 (copyBytes s (inactive s 0) 0 0 4) 0)
      ∧ ((s.changeLength ea).cfg.len ≠ s.cfg.len → (s.changeLength ea).cfg.base = (ea, epochStart s ea)) := by
  have hany : rs.any (fun p => p.1 == 0) = true := by simpa [List.any_eq_true] using h0
  unfold State.changeLength
  simp only [h, hany, and_self, if_true]
  split
  · next he => exact ⟨he.symm, fun hn => absurd rfl hn⟩
  · exact ⟨rfl, fun _ => rfl⟩

/-- The state in which an epoch begins, before the work of the boundary: the run of eligibility counted, the length
taken from the activation that is due, the updates of the epoch ended stamped anew. -/
def State.nextEpoch (s : State) (e : Nat) : State :=
  { ({ s with repl.eligRun := if eligibleNow s then min 500 (s.repl.eligRun + 1) else 0 } : State).changeLength (e + 1) with
    repl.cur := e + 1 }.restamp e

/-- The work of the boundary leaves the epoch, the core, the security state, the injectors, fabric time and the
configuration. -/
theorem State.endEpoch_modifies (s : State) (e : Nat) :
    Modifies (Aspect.only [.op, .persist, .startStep, .lanes]) (s.nextEpoch e) (s.endEpoch e) := by
  have h3 : Modifies (Aspect.only [.op, .persist, .startStep, .lanes]) (s.nextEpoch e)
      (((s.nextEpoch e).resume.guardBoundary.sponsor (e + 1)).foundingBoundary (e + 1)) :=
    (Modifies.refl _ _).resume.guardBoundary.sponsor.foundingBoundary
  exact h3.checkProvider.departUnevaluated.releaseRelays.judgeOwn.prepareStep

theorem execEpochEnd_jump {s : State} {now : Nat} (hc : s.core = .running) (hf : s.pw.failing = false)
    (ht : timeUs s = some now) (hn : epochStart s (s.repl.cur + 1) ≤ now) (hj : s.repl.cur + 8 < epochOf s now) :
    execEpochEnd s = .next { s with repl.cur := epochOf s now } := by
  simp [execEpochEnd, hc, hf, ht, hj, Nat.not_lt.2 hn]

theorem execEpochEnd_next {s : State} {now : Nat} (hc : s.core = .running) (hf : s.pw.failing = false)
    (ht : timeUs s = some now) (hn : epochStart s (s.repl.cur + 1) ≤ now) (hj : epochOf s now ≤ s.repl.cur + 8) :
    execEpochEnd s = .next (s.endEpoch s.repl.cur) := by
  simp [execEpochEnd, hc, hf, ht, Nat.not_lt.2 hj, Nat.not_lt.2 hn]

end Sys2Proof.Machine

open Sys2Proof.Machine in
/-- Settles O39: the work of the boundary keeps what the statement names (`endEpoch_modifies`), so that the epoch and
the configuration are those of `nextEpoch`. -/
theorem epochsFollowOneAnother : Obligations.EpochsFollowOneAnother := by
  intro s now hc hf ht hn
  refine ⟨execEpochEnd_jump hc hf ht hn, fun hj => ⟨_, execEpochEnd_next hc hf ht hn hj, ?_⟩⟩
  have work := s.endEpoch_modifies s.repl.cur
  set s0 : State := { s with repl.eligRun := if eligibleNow s then min 500 (s.repl.eligRun + 1) else 0 } with hs0
  have hcfg : (s.endEpoch s.repl.cur).cfg = (s0.changeLength (s.repl.cur + 1)).cfg := work .cfg (by simp)
  have frame := s0.changeLength_frame (s.repl.cur + 1)
  refine ⟨work .epoch (by simp), Eq.trans (work .core (by simp)) ?_, Eq.trans (work .sec (by simp)) ?_
    , Eq.trans (work .inj (by simp)) ?_, Eq.trans (work .fabTime (by simp)) ?_, ?_, ?_, ?_⟩
  · exact (congrArg State.core frame).trans hc
  · exact (congrArg State.sec frame).trans rfl
  · exact (congrArg State.inj frame).trans rfl
  · exact congrArg (fun u => u.tm.fab) frame
  · rintro ea rs x hr rfl h0
    rw [hcfg]
    exact State.changeLength_due (s := s0) hr h0
  · intro hr
    rw [hcfg, State.changeLength_none (s := s0) hr]
    exact ⟨rfl, rfl⟩
  · rw [hcfg]
    exact congrArg State.cfg frame
end

section
set_option Elab.async false
/-! ### What commits and sends -/

namespace Sys2Proof.Machine

/-- `t` differs from `s` at most at the ports, in the recorder and in the frames that the fabric is to send. -/
def Sends (s t : State) : Prop :=
  t = { s with ports := t.ports, rcd := t.rcd
               fab := { s.fab with out := t.fab.out, frameSeq := t.fab.frameSeq, transit := t.fab.transit } }

section
variable {s t u : State}

theorem Sends.refl (s : State) : Sends s s := rfl

theorem Sends.trans (h : Sends s t) (k : Sends t u) : Sends s u := by
  unfold Sends at *
  rw [h] at k
  exact k

theorem Sends.ite {c : Prop} [Decidable c] (ht : Sends s t) (hu : Sends s u) : Sends s (if c then t else u) := by
  split <;> assumption

theorem Sends.foldl {α : Type} {l : List α} {f : State → α → State} (h : Sends s t)
    (hf : ∀ u x, Sends s u → Sends s (f u x)) : Sends s (l.foldl f t) := by
  induction l generalizing t with
  | nil => exact h
  | cons x l ih => exact ih (hf t x h)

theorem Sends.ports {p : Ports} (h : Sends s t) : Sends s { t with ports := p } := h.trans rfl
theorem Sends.rcd {r : Recorder} (h : Sends s t) : Sends s { t with rcd := r } := h.trans rfl
theorem Sends.frameSeq {n : Nat} (h : Sends s t) : Sends s { t with fab.frameSeq := n } := h.trans rfl
theorem Sends.transit {l : List TxFrame} (h : Sends s t) : Sends s { t with fab.transit := l } := h.trans rfl
theorem Sends.enqueue {i : QItem} (h : Sends s t) : Sends s (t.enqueue i) := .ite h.rcd h
theorem Sends.log {type : Nat} {body : Bytes} (h : Sends s t) : Sends s (t.log type body) := h.enqueue
theorem Sends.pushFrame {cls : Nat} {x : TxFrame} (h : Sends s t) : Sends s (t.pushFrame cls x) := h.trans rfl

theorem Sends.placeNotif {n : Notif} (h : Sends s t) : Sends s (t.placeNotif n) :=
  .ite (h.trans (by unfold Sends; rw [State.pushNotif_frame])) h

theorem Sends.noteOf {r : QRec} {p : Nat} (h : Sends s t) : Sends s (t.noteOf r p) := by
  unfold State.noteOf
  split
  · exact h.placeNotif
  · exact h

theorem Sends.originate {type dest : Nat} {body : Bytes} {trunkToo : Bool} (h : Sends s t) :
    Sends s (t.originate type dest body trunkToo) :=
  .ite h.frameSeq.pushFrame.pushFrame h.frameSeq.pushFrame

theorem Sends.sendLocal {type port : Nat} {body : Bytes} (h : Sends s t) : Sends s (t.sendLocal type port body) :=
  .ite h.frameSeq.transit h.frameSeq.pushFrame

theorem Sends.sendWitness {dest : Nat} {body : Bytes} (h : Sends s t) : Sends s (t.sendWitness dest body) :=
  .ite h.originate h.rcd

theorem Sends.witness {bs : Bytes} (h : Sends s t) : Sends s (t.witness bs) := by
  refine .ite ?_ h.rcd
  dsimp only
  split
  · exact h
  · exact .rcd (.foldl h fun _ _ h => .foldl h fun _ _ h => h.sendWitness)

theorem Sends.commitOwn {r : QRec} (h : Sends s t) : Sends s (t.commitOwn r) := by
  unfold State.commitOwn
  dsimp only
  split
  · exact .ite h.rcd.noteOf (.noteOf (.ite h.rcd.witness h.rcd))
  · exact .noteOf (.ite h.rcd.witness h.rcd)

theorem Sends.place {f : Freeze} {r : QRec} {n : Nat} (h : Sends s t) : Sends s (State.stage.place t f r n) :=
  .ite (.noteOf (.ite h.rcd.witness h.rcd)) (.noteOf (.ite h.rcd.witness h.rcd))

theorem Sends.stage {f : Freeze} {r : QRec} (h : Sends s t) : Sends s (t.stage f r) := by
  unfold State.stage
  split
  · exact .ite h.rcd.noteOf h.place
  · exact h.place

/-- To commit a record changes the recorder, the notifications and the witness frames. -/
theorem Sends.commitRec {r : QRec} (h : Sends s t) : Sends s (t.commitRec r) := by
  unfold State.commitRec
  split
  · exact .ite (.noteOf (.ite h.rcd.witness h.rcd)) h.noteOf
  split
  · exact h.stage
  · exact h.commitOwn

end

/-! ### Core restarts -/

theorem nth_map {α β : Type} [Inhabited α] [Inhabited β] (l : List α) (f : α → β) {i : Nat} (h : i < l.length) :
    nth (l.map f) i = f (nth l i) := by
  simp [nth, List.getD_eq_getElem?_getD, h]

theorem nth_zipIdx_map {α β : Type} [Inhabited α] [Inhabited β] (l : List α) (f : α × Nat → β) {i : Nat}
    (h : i < l.length) : nth (l.zipIdx.map f) i = f (nth l i, i) := by
  simp [nth, List.getD_eq_getElem?_getD, h]

theorem fport_dropCore_state (s : State) (p : Nat) : (fport s.dropCore p).state = (fport s p).state := by
  by_cases h : p < s.fab.ports.length
  · exact (congrArg FabPort.state (nth_map s.fab.ports _ h)).trans rfl
  · simp [fport, State.dropCore, Fabric.dropCore, nth, List.getD_eq_getElem?_getD, h]

/-- The latch of a digital channel holds what was commanded. -/
theorem cell_dropCore_latch {s : State} (hu : Units s) {n : Nat} (hn : isDio n = true) :
    (cell s.dropCore n).latch = commanded s n := by
  have hc := hu.cells
  simp only [isDio, decide_eq_true_eq] at hn
  refine (congrArg Cell.latch (nth_zipIdx_map s.dio.cells _ (by omega : n - 1 < _))).trans ?_
  show commanded s (n - 1 + 1) = _
  rw [show n - 1 + 1 = n by omega]

theorem commanded_of_held {s : State} (h : s.core = .held) (n : Nat) : commanded s n = (cell s n).latch := by
  have off : (s.core == .running) = false := by rw [h]; rfl
  cases hf : (cell s n).forced <;> simp [commanded, off, hf]

theorem commanded_dropCore {s : State} (hu : Units s) {n : Nat} (hn : isDio n = true) : commanded s.dropCore n = commanded s n :=
  (commanded_of_held rfl n).trans (cell_dropCore_latch hu hn)

/-- The latch of a loop holds its forced value, where it has one, and its faults stay. -/
theorem loopSt_dropCore {s : State} {c : Nat} (h : c < s.ana.loops.length) :
    (loopSt s.dropCore c).latched = (((loopSt s c).forced.map (·.1)).getD (loopSt s c).latched)
      ∧ (loopSt s.dropCore c).failing = (loopSt s c).failing ∧ (loopSt s.dropCore c).forced = (loopSt s c).forced := by
  refine ⟨(congrArg Loop.latched (nth_zipIdx_map s.ana.loops _ h)).trans ?_
    , (congrArg Loop.failing (nth_zipIdx_map s.ana.loops _ h)).trans rfl
    , (congrArg Loop.forced (nth_zipIdx_map s.ana.loops _ h)).trans rfl⟩
  show (match (loopSt s c).forced with | some (ua, _) => ua | none => (loopSt s c).latched) = _
  cases (loopSt s c).forced <;> rfl

theorem driven_dropCore {s : State} (hu : Units s) (hr : s.core = .running) {c : Nat} (hc : c < 32)
    (h : (loopSt s c).forced = none ∨ (bankSt s (c / 8)).expired = false ∧ (loopSt s c).failing = false) :
    driven s.dropCore c = driven s c := by
  have hl : c < s.ana.loops.length := by have := hu.loops; omega
  have hch : c < s.ana.chans.length := by have := hu.chans; omega
  have hb : c / 8 < s.ana.banks.length := by have := hu.banks; omega
  obtain ⟨latched, failing, forced⟩ := loopSt_dropCore hl
  have retired : (chan s.dropCore c).retired = (chan s c).retired :=
    (congrArg Chan.retired (nth_map s.ana.chans _ hch)).trans rfl
  have expired : (bankSt s.dropCore (c / 8)).expired = (bankSt s (c / 8)).expired :=
    (congrArg BankState.expired (nth_map s.ana.banks _ hb)).trans rfl
  have strap : (bankSt s.dropCore (c / 8)).strap = (bankSt s (c / 8)).strap :=
    (congrArg BankState.strap (nth_map s.ana.banks _ hb)).trans rfl
  have cfg : chanCfg s.dropCore c = chanCfg s c := rfl
  have high : failureUa s.dropCore c = failureUa s c := by
    unfold failureUa failureHigh; rw [strap, cfg]
  have off : (s.dropCore.core == .running) = false := rfl
  have on : (s.core == .running) = true := by rw [hr]; rfl
  unfold driven
  simp only [cfg, retired, expired, failing, latched, forced, high, off, on]
  cases hf : (loopSt s c).forced with
  | none => simp
  | some x =>
    obtain ⟨he, hg⟩ := h.resolve_left (by simp [hf])
    simp [he, hg, Option.filter]

/-- What a core restart for a cause makes of `s` (R481): the core held and what it held dropped, the field, the fuses, the
flash and the clocks kept. -/
def Restarted (s : State) (cause : Nat) (t : State) : Prop :=
  t.core = .held ∧ t.op = .start ∧ t.pw.step = 4 ∧ t.pw.upCause = 3 ∧ t.pw.restartCause = cause ∧ t.rcd.isOpen = false
    ∧ t.cfg.sessions = [] ∧ t.cfg.flash = s.cfg.flash ∧ t.sec = s.sec ∧ t.clk = { s.clk with orderly := 0 }
    ∧ (∀ p, isUp t p = isUp s p) ∧ t.fab.offset = s.fab.offset ∧ (∀ n, isDio n = true → commanded t n = commanded s n)
    ∧ (∀ c, c < 32 → ((loopSt s c).forced = none ∨ (bankSt s (c / 8)).expired = false ∧ (loopSt s c).failing = false) →
        driven t c = driven s c)
    ∧ t.pw.restarts = recentRestarts s ++ [s.tm.op]

theorem State.coreRestart_restarted {s : State} (hu : Units s) (hr : s.core = .running) {cause : Nat} (hc : cause ≠ 5) :
    Restarted s cause (s.coreRestart cause) := by
  have up (p : Nat) : isUp (s.coreRestart cause) p = isUp s p :=
    congrArg (fun x => decide (x = PortState.up)) (fport_dropCore_state s p)
  have restarts : (s.coreRestart cause).pw.restarts = recentRestarts s ++ [s.tm.op] := by simp [State.coreRestart, hc]
  exact ⟨rfl, rfl, rfl, rfl, rfl, rfl, rfl, rfl, rfl, rfl, up, rfl, fun _ hn => commanded_dropCore hu hn
    , fun _ hc h => driven_dropCore hu hr hc h, restarts⟩

/-- What was sent and recorded first makes no difference to it. -/
theorem Sends.coreRestart_restarted {s u : State} (h : Sends s u) (hU : Units u) (hr : s.core = .running) {cause : Nat}
    (hc : cause ≠ 5) : Restarted s cause (u.coreRestart cause) := by
  have k := State.coreRestart_restarted hU ((congrArg State.core h).trans hr) hc
  rw [h] at k ⊢
  exact k

/-! ### Supplies -/

/-- `t` differs from `s` at most in the results of owned tags and the updates they wait with. -/
def OnlyPublishes (s t : State) : Prop := Publishes s t ∧ t = { s with repl := t.repl }

theorem OnlyPublishes.trans {s t u : State} (h : OnlyPublishes s t) (k : OnlyPublishes t u) : OnlyPublishes s u := by
  obtain ⟨hp, hf⟩ := h
  obtain ⟨kp, kf⟩ := k
  refine ⟨?_, by rw [hf] at kf; exact kf⟩
  unfold Publishes at *
  rw [hp] at kp
  exact kp

theorem State.publishAs_frame (s : State) (tag : Nat) (q : BitVec 8) (v : Word) : OnlyPublishes s (s.publishAs tag q v) := by
  unfold State.publishAs
  dsimp only
  split
  · exact ⟨rfl, rfl⟩
  · split <;> exact ⟨rfl, rfl⟩

theorem State.diagnostic_frame (s : State) (ref v : Nat) : OnlyPublishes s (s.diagnostic ref v) := by
  unfold State.diagnostic State.publishSource
  have publish (l : List Nat) (u : State) :
      OnlyPublishes u (l.foldl (fun acc t => acc.publish t qGood (BitVec.ofNat 32 v)) u) := by
    induction l generalizing u with
    | nil => exact ⟨rfl, rfl⟩
    | cons t l ih => exact (u.publishAs_frame t _ _).trans (ih _)
  exact publish _ _

/-- The flags of the supplies as SUPPLY_EVENT leaves them (R464, R465). -/
def Power.withInput (p : Power) (input new : Nat) (mv : Int) : Power :=
  let q := if input = 1 then { p with sup1 := new, mv1 := mv } else { p with sup2 := new, mv2 := mv }
  { q with mvOr := (max 0 (max q.mv1 q.mv2)).toNat }

/-- The state an input is in, and the one it takes once a voltage has held for a time (R464, R465). -/
def supplyOld (s : State) (input : Nat) : Nat := if input = 1 then s.pw.sup1 else s.pw.sup2
def supplyNew (s : State) (input heldMs : Nat) (mv : Int) : Nat :=
  if (if supplyClass mv = 0 then 100 else 10) ≤ heldMs then supplyClass mv else supplyOld s input

def State.withInput (s : State) (input new : Nat) (mv : Int) : State :=
  if new = supplyOld s input then { s with pw := s.pw.withInput input new mv }
  else (({ s with pw := s.pw.withInput input new mv } : State).supplyEvent input new (supplyOld s input) mv).diagnostic
    (0x000F + input) new

theorem execSupplyEvent_next {s : State} {input heldMs : Nat} {mv : Int} (hr : s.core = .running) (hi : input = 1 ∨ input = 2)
    (hlo : -36000 ≤ mv) (hhi : mv ≤ 40000) :
    execSupplyEvent input mv heldMs s = .next (s.withInput input (supplyNew s input heldMs mv) mv) := by
  have h0 : ¬(40000 < mv ∨ mv < -36000) := by omega
  have h1 : ¬(input ≠ 1 ∧ input ≠ 2) := by omega
  simp only [execSupplyEvent, h0, h1, if_false, hr, ne_eq, not_true, or_false, State.withInput, supplyNew, supplyOld,
    Power.withInput]

theorem Power.withInput_inputs (p : Power) (input new : Nat) (mv : Int) :
    (if input = 1 then (p.withInput input new mv).sup1 else (p.withInput input new mv).sup2) = new
      ∧ (if input = 1 then (p.withInput input new mv).mv1 else (p.withInput input new mv).mv2) = mv
      ∧ (if input = 1 then (p.withInput input new mv).sup2 = p.sup2 else (p.withInput input new mv).sup1 = p.sup1) := by
  by_cases h : input = 1 <;> simp [Power.withInput, h]

theorem State.withInput_frame (s : State) (hr : s.core = .running) (input new : Nat) (mv : Int) :
    (s.withInput input new mv).pw = s.pw.withInput input new mv
      ∧ Logs s (s.withInput input new mv) (if new = supplyOld s input then [] else [0x0003])
      ∧ Publishes s (s.withInput input new mv)
      ∧ s.withInput input new mv = { s with pw := (s.withInput input new mv).pw, rcd := (s.withInput input new mv).rcd
                                            repl := (s.withInput input new mv).repl } := by
  unfold State.withInput
  split
  · exact ⟨rfl, .nil_of_eq rfl, rfl, rfl⟩
  · set u : State := { s with pw := s.pw.withInput input new mv } with hu
    have logged : Logs u (u.supplyEvent input new (supplyOld s input) mv) [0x0003] := State.logNotifyAt_logs _ _ _ _ _ _ hr
    have only : u.supplyEvent input new (supplyOld s input) mv =
        { u with rcd :=
      (u.supplyEvent input new (supplyOld s input) mv).rcd } :=
      u.enqueue_frame _
    generalize u.supplyEvent input new (supplyOld s input) mv = x at logged only ⊢
    obtain ⟨published, frame⟩ := x.diagnostic_frame (0x000F + input) new
    generalize x.diagnostic (0x000F + input) new = y at published frame ⊢
    rw [only] at published frame
    rw [frame]
    refine ⟨rfl, logged, published, rfl⟩

/-! ### The supply warning, the service key and the start's time limit -/

theorem State.enqueue_logs {s : State} {r : QRec} (h : s.core = .running) : Logs s (s.enqueue (.own r)) [r.type] :=
  ⟨[.own r], by simp [h], rfl⟩

/-- A warning, given or withdrawn, is kept and reported (R464, R465). -/
theorem execSupplyWarning_on {s : State} {mv heldMs : Nat} (hr : s.core = .running) (hf : s.pw.failing = false)
    (hw : s.pw.warning = false) (hlo : 16000 ≤ mv) (hhi : mv < 18000) (hh : 10 ≤ heldMs) :
    execSupplyWarning mv heldMs s = .next (({ s with pw.warning := true, pw.mvOr := mv } : State).supplyEvent 3 1 0 mv) := by
  simp [execSupplyWarning, *]

theorem execSupplyWarning_off {s : State} {mv heldMs : Nat} (hr : s.core = .running) (hf : s.pw.failing = false)
    (hw : s.pw.warning = true) (hmv : 18000 ≤ mv) (hh : 100 ≤ heldMs) :
    execSupplyWarning mv heldMs s = .next (({ s with pw.warning := false, pw.mvOr := mv } : State).supplyEvent 3 0 1 mv) := by
  simp [execSupplyWarning, *]

/-- The key closes at 100 ohms or less held for 20 ms (R77). -/
theorem execSvcKeyChange_short (s : State) {ohms heldUs : Nat} (h : heldUs < 20000) :
    execSvcKeyChange ohms heldUs s = .next s := by
  simp [execSvcKeyChange, h]

/-- The state in which the key has another position. -/
def State.keyTurned (s : State) (closed : Bool) : State :=
  ({ s with sec.keyClosed := closed } : State).log 0x0525 (le 4 (epochField s) ++ le 1 (if closed then 1 else 0) ++ zeros 1)

theorem State.keyTurned_logs {s : State} (h : s.core = .running) (closed : Bool) : Logs s (s.keyTurned closed) [0x0525] :=
  State.log_logs { s with sec.keyClosed := closed } _ _ h

theorem State.keyTurned_frame (s : State) (closed : Bool) :
    s.keyTurned closed = { s with sec.keyClosed := closed, rcd := (s.keyTurned closed).rcd } :=
  State.enqueue_frame _ _

theorem execSvcKeyChange_close {s : State} {ohms heldUs : Nat} (ho : s.sec.keyClosed = false) (hk : ohms ≤ 100)
    (hh : 20000 ≤ heldUs) : execSvcKeyChange ohms heldUs s = .next (s.keyTurned true) := by
  simp only [execSvcKeyChange, keyClosure, hk, ho, decide_true, Nat.not_lt.2 hh, or_self, if_false, if_true,
    Bool.false_eq_true, State.keyTurned]

theorem execSvcKeyChange_open {s : State} {ohms heldUs : Nat} (ho : s.sec.keyClosed = true) (hk : 100 < ohms)
    (hh : 20000 ≤ heldUs) : execSvcKeyChange ohms heldUs s = .next ((s.keyTurned false).disarmAll 4) := by
  simp only [execSvcKeyChange, keyClosure, Nat.not_le.2 hk, ho, decide_false, Nat.not_lt.2 hh, or_self, if_false,
    Bool.false_eq_true, Bool.true_eq_false, State.keyTurned]

theorem nth_upd_none {α : Type} (l : List (Option α)) (i j : Nat) :
    nth (upd l i fun _ => none) j = if j = i then none else nth l j := by
  rw [nth_upd]
  by_cases h : j = i
  · subst h
    by_cases hl : j < l.length
    · simp [hl]
    · simp [hl, nth, List.getD_eq_getElem?_getD]; rfl
  · simp [h]

theorem State.releaseFrames_inj (s : State) (i : Nat) (fs : List RxFrame) : (s.releaseFrames i fs).inj = s.inj := by
  have h : Modifies (Aspect.only [.cfg, .fabTime, .epoch]) s (s.releaseFrames i fs) := (Modifies.refl _ s).releaseFrames
  exact h .inj (by simp)

/-- A disarmed injector holds nothing, and the others what they held. -/
theorem State.nth_disarm_inj (s : State) (i cause j : Nat) :
    nth (s.disarm i cause).inj j = if j = i then none else nth s.inj j := by
  unfold State.disarm
  split
  · simp [State.releaseFrames_inj, nth_upd_none]
  · next h => split <;> simp_all

theorem State.disarmAll_inj (s : State) (cause : Nat) {i : Nat} (h : i < 8) : nth (s.disarmAll cause).inj i = none := by
  have disarmed (l : List Nat) (u : State) :
      nth (l.foldl (fun (acc : State) i => acc.disarm i cause) u).inj i = if i ∈ l then none else nth u.inj i := by
    induction l generalizing u with
    | nil => simp
    | cons j l ih =>
      rw [List.foldl_cons, ih, State.nth_disarm_inj]
      by_cases hl : i ∈ l <;> by_cases hj : i = j <;> simp [hl, hj]
  exact (disarmed (List.range 8) s).trans (if_pos (List.mem_range.2 h))

theorem State.disarmAll_of_none (s : State) (cause : Nat) (h : ∀ i, i < 8 → nth s.inj i = none) : s.disarmAll cause = s := by
  have idle (l : List Nat) (hl : ∀ i ∈ l, i < 8) : l.foldl (fun (acc : State) i => acc.disarm i cause) s = s := by
    induction l with
    | nil => rfl
    | cons j l ih =>
      have hj : s.disarm j cause = s := by unfold State.disarm; rw [h j (hl j (by simp))]
      rw [List.foldl_cons, hj, ih fun i hi => hl i (by simp [hi])]
  exact idle _ (by simp)

theorem execStartMembershipTimeout_due {s : State} (hr : s.core = .running) (ho : s.op = .start) (hs : s.pw.step = 7)
    (hm : s.repl.member = false) (hi : hasImage s = true) (hw : s.pw.startFailedWritten = false)
    (ht : s.pw.stepTime + 60000000 ≤ s.tm.now) :
    execStartMembershipTimeout s = .next (({ s with pw.startFailedWritten := true } : State).startFailed 7 4) := by
  simp [execStartMembershipTimeout, *]

/-! ### The loss of the supply -/

/-- The time is persisted in one of its two copies, under the next sequence number (R410). -/
theorem State.persistTime_copies (s : State) :
    s.persistTime.tm.copyA = some (s.tm.op, s.tm.persistSeq + 1, s.tm.powerCount)
      ∨ s.persistTime.tm.copyB = some (s.tm.op, s.tm.persistSeq + 1, s.tm.powerCount) := by
  unfold State.persistTime
  dsimp only
  split
  · exact .inl rfl
  · exact .inr rfl

/-- How the power-fail leaves the node: the core held, the recorder closed, the relays off and the time persisted. -/
structure PoweredDown (s t : State) : Prop where
  core : t.core = .held
  op : t.op = .start
  failing : t.pw.failing = true
  valid : t.pw.valid = s.pw.valid
  closed : t.rcd.isOpen = false
  queue : t.rcd.queue = []
  relays : t.repl.relays.all (!·.on) = true
  time : t.tm.op = s.tm.op
  copies : t.tm.copyA = some (s.tm.op, s.tm.persistSeq + 1, s.tm.powerCount)
    ∨ t.tm.copyB = some (s.tm.op, s.tm.persistSeq + 1, s.tm.powerCount)

theorem State.powerFail_poweredDown (s : State) (slope : Bool) : PoweredDown s (s.powerFail slope) := by
  unfold State.powerFail
  extract_lets down pw s1 s2 kept rcd s3 s4 rcd' s5 s6 pw' fab
  set s0 : State := { s with pw.failing := true } with hs0
  have h2 : Modifies (Aspect.only [.cfg, .fabTime, .epoch, .inj]) s0 s2 :=
    (Modifies.refl _ s0).disarmAll.dropRelays.dischargeDisplay
  clear_value s2
  have h3 : Modifies (Aspect.only [.cfg, .fabTime, .epoch, .inj]) s0 s3 := .commitRec h2.same
  clear_value s3
  replace h3 := h3.departingSeal
  obtain ⟨seq, -, -⟩ := h3 .persist (by simp)
  have op : s3.departingSeal.tm.op = s.tm.op := h3 .opTime (by simp)
  have count : s3.departingSeal.tm.powerCount = s.tm.powerCount := h3 .powerCount (by simp)
  obtain ⟨valid, failing⟩ := h3 .supply (by simp)
  have copies := s3.departingSeal.persistTime_copies
  rw [op, count, seq] at copies
  have time : s3.departingSeal.persistTime.tm.op = s.tm.op := by rw [← op]; unfold State.persistTime; dsimp only; split <;> rfl
  have supply : s3.departingSeal.persistTime.pw = s3.departingSeal.pw := by unfold State.persistTime; dsimp only; split <;> rfl
  have h4 : Modifies ∅ s3.departingSeal.persistTime s4 := .commitAll (.refl _ _) fun _ _ h => h
  clear_value s4
  have h5 : Modifies ∅ s3.departingSeal.persistTime s5 := .thaw h4.same
  obtain ⟨-, copyA, copyB⟩ := h5 .persist (by simp)
  obtain ⟨valid', failing'⟩ := h5 .supply (by simp)
  clear_value s5
  exact { core := rfl, op := rfl, closed := rfl, queue := rfl, relays := rfl
          failing := failing'.trans (supply ▸ failing), valid := valid'.trans (supply ▸ valid)
          time := Eq.trans (h5 .opTime (by simp)) time
          copies := copies.imp (copyA.trans ·) (copyB.trans ·) }

theorem execSupplyLoss_running {s : State} {mv fallMv : Nat} (hr : s.core = .running) (hf : s.pw.failing = false)
    (hv : s.pw.valid = true) (ho : s.rcd.isOpen = true) (hl : mv < 16000 ∨ 1000 < fallMv) :
    execSupplyLoss mv fallMv s = .next (({ s with pw.mvOr := mv } : State).powerFail (decide (16000 ≤ mv))) := by
  have held : ¬(fallMv ≤ 1000 ∧ 16000 ≤ mv) := by omega
  simp [execSupplyLoss, *]

theorem execSupplyLoss_clockless {s : State} {mv : Nat} (hc : s.core = .clockless) (hf : s.pw.failing = false)
    (hv : s.pw.valid = true) (hl : mv < 16000) :
    execSupplyLoss mv 0 s = .next ({ s with pw.mvOr := mv } : State).oscillatorsOff := by
  simp [execSupplyLoss, Nat.not_le.2 hl, *]

/-- From the core held the node starts again from step 4. -/
theorem execSupplyRestart_next {s : State} {mv heldMs : Nat} (hc : s.core = .held) (hf : s.pw.failing = true)
    (hmv : 18000 ≤ mv) (hh : 100 ≤ heldMs) : execSupplyRestart mv heldMs s = .next
      { s with op := .start, tm.cycleStart := s.tm.now
               pw := { s.pw with failing := false, heldStart := false, warning := false, mvOr := mv, step := 4
                                 stepTime := s.tm.now, upCause := 2 } } := by
  simp [execSupplyRestart, *]

theorem execHoldUpSpent_next {s : State}
    (h : s.core = .held ∧ s.pw.failing = true ∨ s.pw.valid = false ∧ s.pw.holdupSpent = false) :
    execHoldUpSpent s = .next { s.dropClocks.oscillatorsOff.banksOff with pw.holdupSpent := true } := by
  have spent : s.pw.failing ∧ s.core = .held ∨ !s.pw.valid ∧ !s.pw.holdupSpent := by simpa [and_comm] using h
  exact congrArg Host.Outcome.next (if_pos spent)

theorem State.banksOff_loopSt (s : State) {c : Nat} (h : c < s.ana.loops.length) :
    (loopSt s.banksOff c).setpoint = 0 ∧ (loopSt s.banksOff c).latched = 0 :=
  ⟨(congrArg Loop.setpoint (nth_map s.ana.loops _ h)).trans rfl, (congrArg Loop.latched (nth_map s.ana.loops _ h)).trans rfl⟩

theorem State.banksOff_bankSt (s : State) {b : Nat} (h : b < s.ana.banks.length) : bankSt s.banksOff b = {} :=
  nth_map s.ana.banks _ h

/-! ### DRAM errors -/

/-- The state in which an uncorrectable error of the DRAM is counted and recorded, with what follows of it. -/
def State.dramRecorded (s : State) (location action address : Nat) : State :=
  let s1 : State := { s with pw.dramUncorrected := s.pw.dramUncorrected + 1 }
  s1.commitRec (mkRec s1 0x0021 (le 4 (epochField s) ++ le 1 location ++ le 1 action ++ zeros 2 ++ le 4 address))

theorem State.dramRecorded_sends (s : State) (location action address : Nat) :
    Sends { s with pw.dramUncorrected := s.pw.dramUncorrected + 1 } (s.dramRecorded location action address) :=
  (Sends.refl _).commitRec

theorem Units.dramRecorded {s : State} (hu : Units s) (location action address : Nat) :
    Units (s.dramRecorded location action address) := by
  have h : Modifies (Aspect.only []) s (s.dramRecorded location action address) := .commitRec (Modifies.refl _ s).same
  exact h .units (by simp) hu

theorem execDramUncorrectable_beyond (s : State) {a : Word} (h : 0x20000000 ≤ a.toNat) :
    execDramUncorrectable a s = .next s := by
  have ends : ∀ p ∈ dramMap, p.1 ≤ 0x20000000 := by decide
  have none : dramBlock a.toNat = none := by
    simp only [dramBlock, Option.map_eq_none_iff, List.find?_eq_none, decide_eq_true_eq]
    exact fun p hp => by have := ends p hp; omega
  simp [execDramUncorrectable, none]

theorem execDramUncorrectable_core {s : State} {a : Word} {b : DramBlock} (hb : dramBlock a.toNat = some b)
    (hl : dramLocation b = 3) (hr : s.core = .running) (hf : s.pw.failing = false) :
    execDramUncorrectable a s = .next ((s.dramRecorded 3 2 a.toNat).coreRestart 2) := by
  simp [execDramUncorrectable, hb, hl, hr, hf, State.dramRecorded]

theorem execDramUncorrectable_store {s : State} {a : Word} {b : DramBlock} (hb : dramBlock a.toNat = some b)
    (hl : dramLocation b ≠ 3) (hr : s.core = .running) (hf : s.pw.failing = false) :
    execDramUncorrectable a s = .next (
      if ((s.dramRecorded (dramLocation b) 1 a.toNat).abandon 4).repl.member ∧
          inReplica ((s.dramRecorded (dramLocation b) 1 a.toNat).abandon 4) then
        ((s.dramRecorded (dramLocation b) 1 a.toNat).abandon 4).startReseed 4
      else (s.dramRecorded (dramLocation b) 1 a.toNat).abandon 4) := by
  simp [execDramUncorrectable, hb, hl, hr, hf, State.dramRecorded]

theorem Sends.keeps_member {s u : State} (h : Sends s u) :
    u.repl = s.repl ∧ u.op = s.op ∧ u.core = s.core ∧ u.pw = s.pw := by
  rw [h]; exact ⟨rfl, rfl, rfl, rfl⟩

/-- A transfer given up leaves the core, the operating state, the supply and the membership. -/
theorem State.abandon_keeps (s : State) (result : Nat) : (s.abandon result).core = s.core ∧ (s.abandon result).op = s.op
    ∧ (s.abandon result).pw = s.pw ∧ (s.abandon result).repl.member = s.repl.member := by
  unfold State.abandon
  split
  · exact ⟨rfl, rfl, rfl, rfl⟩
  · next r _ =>
    extract_lets type s1 repl s2
    have h1 : Sends s s1 := .foldl (.refl _) fun _ _ h => h.sendLocal
    clear_value s1
    obtain ⟨hrepl, hop, hcore, hpw⟩ := h1.keeps_member
    split <;> simp [s2, repl, hrepl, hop, hcore, hpw]

theorem State.endTests_keeps (s : State) (e : Nat) : (s.endTests e).core = s.core ∧ (s.endTests e).pw = s.pw := by
  unfold State.endTests
  extract_lets s1 repl
  have h1 : Sends s s1 := .foldl (.refl _) fun _ _ h => .ite h.log h
  clear_value s1
  obtain ⟨-, -, hcore, hpw⟩ := h1.keeps_member
  exact ⟨hcore, hpw⟩

theorem State.startReseed_keeps (s : State) (cause : Nat) :
    (s.startReseed cause).core = s.core ∧ (s.startReseed cause).pw = s.pw := by
  unfold State.startReseed State.withdraw
  dsimp only
  split
  · exact s.endTests_keeps _
  · exact ⟨rfl, rfl⟩

/-- An error elsewhere than in the core's own memory makes a member re-seed. -/
theorem execDramUncorrectable_reseed {s : State} {a : Word} {b : DramBlock} (hb : dramBlock a.toNat = some b)
    (hl : dramLocation b ≠ 3) (hr : s.core = .running) (hf : s.pw.failing = false) (hm : s.repl.member = true)
    (hi : inReplica s = true) :
    execDramUncorrectable a s = .next (((s.dramRecorded (dramLocation b) 1 a.toNat).abandon 4).startReseed 4) := by
  have h := s.dramRecorded_sends (dramLocation b) 1 a.toNat
  obtain ⟨-, hop, -, hmember⟩ := (s.dramRecorded (dramLocation b) 1 a.toNat).abandon_keeps 4
  obtain ⟨hrepl, hop', -, -⟩ := h.keeps_member
  have member : ((s.dramRecorded (dramLocation b) 1 a.toNat).abandon 4).repl.member = true := by rw [hmember, hrepl]; exact hm
  have replica : inReplica ((s.dramRecorded (dramLocation b) 1 a.toNat).abandon 4) = true := by
    unfold inReplica at hi ⊢; rw [hop, hop']; exact hi
  rw [execDramUncorrectable_store hb hl hr hf, if_pos ⟨member, replica⟩]

theorem State.reseed_after_dram {s : State} (hr : s.core = .running) (location a : Nat) :
    let t := ((s.dramRecorded location 1 a).abandon 4).startReseed 4
    t.core = .running ∧ t.repl.reseed = some 4 ∧ t.lanes.trigger = true
      ∧ t.pw.dramUncorrected = s.pw.dramUncorrected + 1 := by
  obtain ⟨-, -, core1, pw1⟩ := (s.dramRecorded_sends location 1 a).keeps_member
  obtain ⟨core2, -, pw2, -⟩ := (s.dramRecorded location 1 a).abandon_keeps 4
  obtain ⟨core3, pw3⟩ := ((s.dramRecorded location 1 a).abandon 4).startReseed_keeps 4
  exact ⟨core3.trans (core2.trans (core1.trans hr)), rfl, rfl, by rw [pw3, pw2, pw1]⟩

/-! ### The start of the core -/

theorem State.persistTime_keeps (s : State) : s.persistTime.core = s.core ∧ s.persistTime.op = s.op
    ∧ s.persistTime.tm.powerCount = s.tm.powerCount := by
  unfold State.persistTime
  dsimp only
  split <;> exact ⟨rfl, rfl, rfl⟩

/-- The recorder opened, the core runs a new power cycle (R481). -/
theorem State.openRecorder_begins (s : State) : s.openRecorder.core = .running ∧ s.openRecorder.op = .start
    ∧ s.openRecorder.tm.powerCount = (s.tm.powerCount + 1) % 0x100000000 := by
  unfold State.openRecorder
  extract_lets op tm s1 areas rcd
  exact State.persistTime_keeps _

/-- The start as far as the forces' end: the recorder open, its first records made, the dies and the hold-up tested, the
fuses read. -/
def State.startTested (s : State) (r : StartReport) : State :=
  let s1 := s.openRecorder.firstRecords r s.rcd.intent.isSome
  let s1 := (List.range 5).foldl (fun (acc : State) d => if r.diesAnswer.toNat.testBit d then acc else acc.loseDie d 1) s1
  (if decide (s.pw.upCause = 3) then s1 else s1.holdUpTest r).readFuses.endForces

theorem State.startTested_modifies (s : State) (r : StartReport) :
    Modifies (Aspect.only [.sec]) s.openRecorder (s.startTested r) := by
  unfold State.startTested
  extract_lets s1 s1'
  have h1 : Modifies (Aspect.only [.sec]) s.openRecorder s1' :=
    .foldl (.firstRecords (.refl _ _)) fun _ _ h => .ite h h.loseDie
  exact .endForces (.readFuses (.ite h1 h1.holdUpTest))

theorem State.startTested_begins (s : State) (r : StartReport) :
    (s.startTested r).core = .running ∧ (s.startTested r).op = .start
    ∧ (s.startTested r).tm.powerCount = (s.tm.powerCount + 1) % 0x100000000 := by
  obtain ⟨core, op, count⟩ := s.openRecorder_begins
  have h := s.startTested_modifies r
  exact ⟨Eq.trans (h .core (by simp)) core, Eq.trans (h .op (by simp)) op, Eq.trans (h .powerCount (by simp)) count⟩

/-- The tests leave the lanes, the configuration, the reference and the step of the start. -/
theorem State.startTested_keeps (s : State) (r : StartReport) : (s.startTested r).lanes.inService = s.lanes.inService
    ∧ (s.startTested r).pw.step = s.pw.step ∧ (s.startTested r).clk.ref = s.clk.ref := by
  have h0 : Modifies (Aspect.only [.core, .op, .opTime, .powerCount, .persist, .sec]) s s.openRecorder :=
    (Modifies.refl _ s).openRecorder
  have h : Modifies (Aspect.only [.core, .op, .opTime, .powerCount, .persist, .sec]) s (s.startTested r) :=
    h0.update (s.startTested_modifies r)
  exact ⟨h .lanes (by simp), h .startStep (by simp), h .ref (by simp)⟩

/-- Where every lane fails its test, none is left. -/
theorem State.startLanes_all {s : State} {fail : Nat} (h : fail &&& laneMask s = laneMask s) :
    laneMask (s.startLanes fail) = 0 := by
  set s1 : State := { s with lanes.inService := 0 } with hs1
  have h1 : Modifies (Aspect.only []) s1 (s.startLanes fail) := by
    unfold State.startLanes
    rw [if_pos h]
    exact .startFailed (.foldl (.refl _ _) fun _ _ h => h.logNotify)
  have lanes : (s.startLanes fail).lanes.inService = 0 := h1 .lanes (by simp)
  simp [laneMask, lanes]

theorem State.startLanes_some {s : State} {fail : Nat} (h : fail &&& laneMask s ≠ laneMask s) :
    laneMask (s.startLanes fail) = laneMask s := by
  have h1 : Modifies (Aspect.only []) s (s.startLanes fail) := by
    unfold State.startLanes
    rw [if_neg h]
    exact .foldl (.refl _ _) fun _ _ h => h.retireNext
  have lanes : (s.startLanes fail).lanes.inService = s.lanes.inService := h1 .lanes (by simp)
  simp [laneMask, lanes]

/-- The start from the image on: its firmware loaded, its ledger open. -/
def State.startLoaded (s : State) (again : Bool) : State :=
  ((({ s.repairSelectors with cfg.loaded := true } : State).unsealedRecord.openLedger (!again)).loadFirmware).restartDisplay

theorem State.startLoaded_modifies (s : State) (again : Bool) : Modifies (Aspect.only [.cfg]) s (s.startLoaded again) := by
  have h : Modifies (Aspect.only [.cfg]) s { s.repairSelectors with cfg.loaded := true } :=
    (Modifies.refl _ s).repairSelectors.setCfg rfl
  exact h.unsealedRecord.openLedger.loadFirmware.restartDisplay

theorem State.loadFirmware_loaded (s : State) : s.loadFirmware.cfg.loaded = s.cfg.loaded := by
  unfold State.loadFirmware
  extract_lets b
  split
  simp only [State.log_eq, State.enqueue_cfg]
  split <;> rfl

theorem State.startLoaded_loaded (s : State) (again : Bool) : (s.startLoaded again).cfg.loaded = true := by
  set s1 : State := { s.repairSelectors with cfg.loaded := true } with hs1
  have h : Modifies (Aspect.only []) s1 (s1.unsealedRecord.openLedger (!again)) := (Modifies.refl _ s1).unsealedRecord.openLedger
  have cfg : (s1.unsealedRecord.openLedger (!again)).cfg = s1.cfg := h .cfg (by simp)
  exact (State.loadFirmware_loaded _).trans (by rw [cfg])

theorem State.setOp_op (s : State) (o : OpState) : (s.setOp o).op = o := by
  unfold State.setOp
  split
  · assumption
  · have h (u : State) (n : Nat) (b : Bytes) : (u.notify n b).op = u.op := (Modifies.refl ∅ u).notify .op (by simp)
    exact h _ _ _

theorem State.enterIsland_op (s : State) : s.enterIsland.op = .island := by
  unfold State.enterIsland
  extract_lets on kept s1 cur repl s2
  have op : s1.op = .island := State.setOp_op _ _
  clear_value s1
  have h2 : Modifies (Aspect.only [.epoch]) s1 s2 := .setRelays (.same ((Modifies.refl _ s1).setCur (n := cur)))
  clear_value s2
  have h3 : Modifies (Aspect.only [.epoch]) s1
      ((List.range 32).foldl (fun (acc : State) c => acc.suspendFsk c) s2.republishAll) :=
    .foldl h2.republishAll fun _ _ h => h.suspendFsk
  exact Eq.trans (h3 .op (by simp)) op

/-- With an image the start reaches step 7, as an island where the clock is the backup's. -/
theorem State.runImage_ends {s : State} (ho : s.op = .start) :
    s.runImage.core = s.core ∧ s.runImage.tm.powerCount = s.tm.powerCount
    ∧ s.runImage.cfg = s.cfg ∧ s.runImage.pw.step = 7
    ∧ s.runImage.op = if s.clk.ref = some .bosc then .island else .start := by
  have h : Modifies (Aspect.only [.op, .epoch, .startStep]) s s.runImage := (Modifies.refl _ s).runImage
  refine ⟨h .core (by simp), h .powerCount (by simp), h .cfg (by simp), ?_⟩
  unfold State.runImage
  extract_lets prof lanes0 lanes s1 s2 founding0 founding repl0 repl pw0 pw s3
  have h1 : Modifies (Aspect.only []) s s1 := (Modifies.refl _ s).same
  have h2 : Modifies (Aspect.only []) s s2 := h1.startField.startDiagnostics.judgeHoldUp.judgePorts
  clear_value s2
  have op : s3.op = .start := Eq.trans (h2 .op (by simp)) ho
  have ref : s3.clk.ref = s.clk.ref := h2 .ref (by simp)
  have step : s3.pw.step = 7 := rfl
  clear_value s3
  rw [ref]
  split
  · have h3 : Modifies (Aspect.only [.op, .epoch]) s3 s3.enterIsland := (Modifies.refl _ s3).enterIsland
    exact ⟨Eq.trans (h3 .startStep (by simp)) step, s3.enterIsland_op⟩
  · exact ⟨step, op⟩

/-! ### Where the start ends -/

/-- The start once its lanes are tested. -/
def State.startLaned (s : State) (r : StartReport) : State := (s.startTested r).startLanes (7 - r.lanesPass.toNat)

theorem State.startLaned_keeps {s : State} (hs : s.pw.step = 4) (r : StartReport) : (s.startLaned r).core = .running
    ∧ (s.startLaned r).op = .start ∧ (s.startLaned r).tm.powerCount = (s.tm.powerCount + 1) % 0x100000000
    ∧ (s.startLaned r).pw.step = 4 ∧ (s.startLaned r).clk.ref = s.clk.ref := by
  obtain ⟨core, op, count⟩ := s.startTested_begins r
  obtain ⟨-, step, ref⟩ := s.startTested_keeps r
  have h : Modifies (Aspect.only [.lanes]) (s.startTested r) (s.startLaned r) := (Modifies.refl _ _).startLanes
  exact ⟨Eq.trans (h .core (by simp)) core, Eq.trans (h .op (by simp)) op, Eq.trans (h .powerCount (by simp)) count
    , Eq.trans (h .startStep (by simp)) (step.trans hs), Eq.trans (h .ref (by simp)) ref⟩

/-- The lanes that fail their test are the ones retired; none is left where all fail. -/
theorem State.startLaned_laneMask (s : State) (r : StartReport) : laneMask (s.startLaned r) =
    if (7 - r.lanesPass.toNat) &&& laneMask s = laneMask s then 0 else laneMask s := by
  have same : laneMask (s.startTested r) = laneMask s := congrArg BitVec.toNat (s.startTested_keeps r).1
  split
  · next h => exact State.startLanes_all (by rw [same]; exact h)
  · next h => exact (State.startLanes_some (by rw [same]; exact h)).trans same

/-- The start from the image on: with one that is good as far as step 7, without one to step 5. -/
def State.startImage (s : State) (again : Bool) (now : Nat) : State :=
  if hasImage (s.startLoaded again) then (s.startLoaded again).runImage
  else ({ s.startLoaded again with pw := { (s.startLoaded again).pw with step := 5, stepTime := now } } : State).judgePorts.startFailed
    5 3

theorem State.startImage_ends {s : State} (ho : s.op = .start) (again : Bool) (now : Nat) :
    let t := s.startImage again now
    t.core = s.core ∧ t.tm.powerCount = s.tm.powerCount ∧ t.cfg.loaded = true ∧ t.pw.step = (if hasImage t then 7 else 5)
      ∧ t.op = (if hasImage t = true ∧ s.clk.ref = some .bosc then .island else .start) := by
  intro t
  have ht0 : t = s.startImage again now := rfl
  unfold State.startImage at ht0
  have loaded := s.startLoaded_loaded again
  have h6 := s.startLoaded_modifies again
  generalize s.startLoaded again = s6 at loaded h6 ht0
  have core : s6.core = s.core := h6 .core (by simp)
  have op : s6.op = .start := Eq.trans (h6 .op (by simp)) ho
  have count : s6.tm.powerCount = s.tm.powerCount := h6 .powerCount (by simp)
  have ref : s6.clk.ref = s.clk.ref := h6 .ref (by simp)
  have image {u v : State} (e : u.cfg = v.cfg) : hasImage u = hasImage v := by
    unfold hasImage activeBank dirEntry selected; rw [e]
  clear_value t
  by_cases hi : hasImage s6 = true
  · obtain ⟨core', count', cfg, step, op'⟩ := State.runImage_ends op
    have ht : t = s6.runImage := ht0.trans (if_pos hi)
    rw [ht, image cfg, hi, core', count', cfg, step, op', ref]
    exact ⟨core, count, loaded, rfl, by simp⟩
  · have ht : t = ({ s6 with pw := { s6.pw with step := 5, stepTime := now } } : State).judgePorts.startFailed 5 3 :=
      ht0.trans (if_neg hi)
    set s7 : State := { s6 with pw := { s6.pw with step := 5, stepTime := now } } with hs7
    have h7 : Modifies (Aspect.only []) s7 (s7.judgePorts.startFailed 5 3) := (Modifies.refl _ s7).judgePorts.startFailed
    have cfg : (s7.judgePorts.startFailed 5 3).cfg = s6.cfg := h7 .cfg (by simp)
    have step : (s7.judgePorts.startFailed 5 3).pw.step = 5 := h7 .startStep (by simp)
    rw [ht, image cfg, cfg, step]
    rw [if_neg hi, if_neg fun h => hi h.1]
    exact ⟨Eq.trans (h7 .core (by simp)) core, Eq.trans (h7 .powerCount (by simp)) count, loaded, rfl
      , Eq.trans (h7 .op (by simp)) op⟩

/-! ### Supply loss, restart and start, with their ends -/

theorem execSupplyLoss_poweredDown {s : State} {mv fallMv : Nat} (hr : s.core = .running) (hf : s.pw.failing = false)
    (hv : s.pw.valid = true) (ho : s.rcd.isOpen = true) (hl : mv < 16000 ∨ 1000 < fallMv) :
    ∃ t, execSupplyLoss mv fallMv s = .next t ∧ PoweredDown s t := by
  have d := ({ s with pw.mvOr := mv } : State).powerFail_poweredDown (decide (16000 ≤ mv))
  refine ⟨_, execSupplyLoss_running hr hf hv ho hl, ?_⟩
  generalize State.powerFail _ _ = t at d ⊢
  exact { d with }

theorem execWatchdogTimeout_next {s : State} (hr : s.core = .running) (hf : s.pw.failing = false) :
    execWatchdogTimeout s = .next (s.coreRestart 1) := by
  simp [execWatchdogTimeout, hr, hf]

theorem execUncontainedInternalFault_next {s : State} (hr : s.core = .running) (hf : s.pw.failing = false) :
    execUncontainedInternalFault s = .next (s.coreRestart 3) := by
  simp [execUncontainedInternalFault, hr, hf]

theorem execDramUncorrectable_restarted {s : State} {a : Word} {b : DramBlock} (hu : Units s) (hb : dramBlock a.toNat = some b)
    (hl : dramLocation b = 3) (hr : s.core = .running) (hf : s.pw.failing = false) :
    ∃ t, execDramUncorrectable a s = .next t ∧ Restarted s 2 t ∧ t.pw.dramUncorrected = s.pw.dramUncorrected + 1 := by
  have h := s.dramRecorded_sends 3 2 a.toNat
  have k := h.coreRestart_restarted (hu.dramRecorded 3 2 a.toNat) hr (cause := 2) (by decide)
  obtain ⟨-, -, -, pw⟩ := h.keeps_member
  exact ⟨_, execDramUncorrectable_core hb hl hr hf, k, congrArg Power.dramUncorrected pw⟩

section
variable {s : State} {r : StartReport} (hc : s.core = .held) (hs : s.pw.step = 4) (hp : s.clk.pllLocked = true)
  (hf : s.pw.failing = false)
include hc hs hp hf

/-- Four restarts of a short time hold the node before its lanes (R482). -/
theorem execCoreStartUp_held (hh : restartHeld s = true) :
    execCoreStartUp r s = .next { s.startTested r with pw.heldStart := true, cfg.loaded := false } := by
  simp [execCoreStartUp, hc, hs, hp, hf, hh, State.startTested]

/-- Otherwise the start goes as far as its lanes, its DRAM and its image let it. -/
theorem execCoreStartUp_on (hh : restartHeld s = false) : execCoreStartUp r s = .next (
    if laneMask (s.startLaned r) = 0 then { s.startLaned r with cfg.loaded := false }
    else if s.pw.upCause ≠ 3 ∧ !r.dramPass then ({ s.startLaned r with cfg.loaded := false } : State).startFailed 4 2
    else (s.startLaned r).startImage (decide (s.pw.upCause = 3)) s.tm.now) := by
  simp [execCoreStartUp, hc, hs, hp, hf, hh, State.startTested, State.startLaned, State.startImage, State.startLoaded]

/-- The start's report, its power cycle, and where each of its ways ends. -/
theorem execCoreStartUp_ends :
    let fail := (7 - r.lanesPass.toNat) &&& laneMask s
    ∃ t, execCoreStartUp r s = .next t ∧ t.core = .running ∧ t.tm.powerCount = (s.tm.powerCount + 1) % 0x100000000
      ∧ (restartHeld s = true → t.pw.heldStart = true ∧ t.cfg.loaded = false ∧ t.op = .start)
      ∧ (restartHeld s = false → fail = laneMask s → laneMask t = 0 ∧ t.cfg.loaded = false ∧ t.op = .start)
      ∧ (restartHeld s = false → fail ≠ laneMask s → s.pw.upCause ≠ 3 → r.dramPass = false →
          t.cfg.loaded = false ∧ t.op = .start ∧ t.pw.step = 4)
      ∧ (restartHeld s = false → fail ≠ laneMask s → (s.pw.upCause = 3 ∨ r.dramPass = true) →
          t.cfg.loaded = true ∧ t.pw.step = (if hasImage t then 7 else 5)
            ∧ t.op = (if hasImage t = true ∧ s.clk.ref = some .bosc then .island else .start)) := by
  intro fail
  cases hh : restartHeld s with
  | true =>
    have run := execCoreStartUp_held (r := r) hc hs hp hf hh
    obtain ⟨core, op, count⟩ := s.startTested_begins r
    generalize s.startTested r = u at run core op count
    exact ⟨_, run, core, count, fun _ => ⟨rfl, rfl, op⟩, nofun, nofun, nofun⟩
  | false =>
    have run := execCoreStartUp_on (r := r) hc hs hp hf hh
    obtain ⟨core, op, count, step, ref⟩ := State.startLaned_keeps hs r
    have lanes := s.startLaned_laneMask r
    generalize s.startLaned r = u at run core op count step ref lanes
    by_cases hl : fail = laneMask s
    · have none : laneMask u = 0 := lanes.trans (if_pos hl)
      rw [if_pos none] at run
      exact ⟨_, run, core, count, nofun, fun _ _ => ⟨none, rfl, op⟩, fun _ h => absurd hl h, fun _ h => absurd hl h⟩
    have some : laneMask u ≠ 0 := by
      rw [lanes, if_neg hl]
      exact fun h0 => hl (by simp [fail, h0])
    rw [if_neg some] at run
    by_cases hd : s.pw.upCause ≠ 3 ∧ !r.dramPass
    · rw [if_pos hd] at run
      have h : Modifies (Aspect.only [.cfg]) u (({ u with cfg.loaded := false } : State).startFailed 4 2) :=
        .startFailed ((Modifies.refl _ u).setCfg rfl)
      have loaded : (({ u with cfg.loaded := false } : State).startFailed 4 2).cfg.loaded = false := by simp [State.startFailed]
      exact ⟨_, run, Eq.trans (h .core (by simp)) core, Eq.trans (h .powerCount (by simp)) count, nofun, fun _ h => absurd h hl
        , fun _ _ _ _ => ⟨loaded, Eq.trans (h .op (by simp)) op, Eq.trans (h .startStep (by simp)) step⟩
        , fun _ _ h => by simp_all⟩
    · rw [if_neg hd] at run
      obtain ⟨core', count', ends⟩ := State.startImage_ends op (decide (s.pw.upCause = 3)) s.tm.now
      rw [ref] at ends
      exact ⟨_, run, core'.trans core, count'.trans count, nofun, fun _ h => absurd h hl
        , fun _ _ hu hb => absurd ⟨hu, by simp [hb]⟩ hd, fun _ _ _ => ends⟩

end

end Sys2Proof.Machine

open Sys2Proof.Machine in
/-- Settles O60: each event's own lemma, put together. -/
theorem suppliesAndRestartsAreFollowed : Obligations.SuppliesAndRestartsAreFollowed := by
  intro s hu
  refine ⟨fun hr => ⟨?_, ?_, ?_, fun n => ?_, fun _ _ h => execSvcKeyChange_short s h, ?_, ?_, ?_⟩
    , ?_, ?_, fun h => ?_, ?_⟩
  · intro input heldMs mv hi hlo hhi
    obtain ⟨pw, logs, published, frame⟩ := s.withInput_frame hr input (supplyNew s input heldMs mv) mv
    obtain ⟨state, volts, others⟩ := Power.withInput_inputs s.pw input (supplyNew s input heldMs mv) mv
    rw [← pw] at state volts others
    exact ⟨_, execSupplyEvent_next hr hi hlo hhi, state, volts, others, logs, published, frame⟩
  · intro mv hf
    refine ⟨fun heldMs hw hlo hhi hh => ?_, fun heldMs hw hmv hh => ?_, fun fallMv hv ho hl => ?_⟩
    · exact ⟨_, execSupplyWarning_on hr hf hw hlo hhi hh, State.logNotifyAt_logs _ _ _ _ _ _ hr, State.enqueue_frame _ _⟩
    · exact ⟨_, execSupplyWarning_off hr hf hw hmv hh, State.logNotifyAt_logs _ _ _ _ _ _ hr, State.enqueue_frame _ _⟩
    · obtain ⟨t, run, d⟩ := execSupplyLoss_poweredDown hr hf hv ho hl
      exact ⟨t, run, d.core, d.op, d.failing, d.valid.trans hv, d.closed, d.queue, d.relays, d.time, d.copies⟩
  · intro hf
    refine ⟨?_, ?_, ?_, fun a => execDramUncorrectable_beyond s, ?_⟩
    · have k := State.coreRestart_restarted (cause := 1) hu hr (by decide)
      exact ⟨_, execWatchdogTimeout_next hr hf, k, rfl⟩
    · have k := State.coreRestart_restarted (cause := 3) hu hr (by decide)
      exact ⟨_, execUncontainedInternalFault_next hr hf, k, rfl⟩
    · intro a b hb hl
      obtain ⟨t, run, k, count⟩ := execDramUncorrectable_restarted hu hb hl hr hf
      exact ⟨t, run, k, count⟩
    · intro a b hb hl hm hi
      exact ⟨_, execDramUncorrectable_reseed hb hl hr hf hm hi, State.reseed_after_dram hr _ _⟩
  · exact congrArg Host.Outcome.next (if_pos hr)
  · intro ohms heldUs ho hk hh
    exact ⟨_, execSvcKeyChange_close ho hk hh, State.keyTurned_logs hr true, s.keyTurned_frame true⟩
  · intro ohms heldUs ho hk hh
    refine ⟨_, execSvcKeyChange_open ho hk hh, ?_, fun i => State.disarmAll_inj _ _, fun hn => ?_⟩
    · have h : Modifies (Aspect.only [.cfg, .fabTime, .epoch, .inj]) (s.keyTurned false) ((s.keyTurned false).disarmAll 4) :=
        (Modifies.refl _ _).disarmAll
      exact Eq.trans (h .sec (by simp)) ((congrArg State.sec (s.keyTurned_frame false)).trans rfl)
    · have idle : (s.keyTurned false).disarmAll 4 = s.keyTurned false := State.disarmAll_of_none _ _ (by
        rw [s.keyTurned_frame false]; exact hn)
      rw [idle]
      exact ⟨State.keyTurned_logs hr false, s.keyTurned_frame false⟩
  · intro ho hs hm hi hw ht
    exact ⟨_, execStartMembershipTimeout_due hr ho hs hm hi hw ht, State.log_logs _ _ _ hr, State.enqueue_frame _ _⟩
  · intro hc hv hf mv hmv
    exact ⟨_, execSupplyLoss_clockless hc hf hv hmv, rfl, hc, rfl, rfl⟩
  · intro mv heldMs hc hf hmv hh
    exact ⟨_, execSupplyRestart_next hc hf hmv hh, rfl, rfl, rfl, hc, rfl, rfl⟩
  · refine ⟨_, execHoldUpSpent_next h, rfl, rfl, rfl, rfl, rfl, rfl, fun c hc => ?_, fun b hb => ?_, rfl, rfl, rfl⟩
    · exact State.banksOff_loopSt s.dropClocks.oscillatorsOff (hu.loops ▸ hc : c < s.ana.loops.length)
    · exact State.banksOff_bankSt s.dropClocks.oscillatorsOff (hu.banks ▸ hb : b < s.ana.banks.length)
  · intro r hc hs hp hf
    exact execCoreStartUp_ends hc hs hp hf
end

section
/-! ### Opcodes that observe -/

namespace Sys2Proof.Machine

/-- An opcode without payload answers its data and leaves all but the reply as it was (R42). -/
theorem runPlain_answers {s : State} {c : Cmd} (ha : Admitted s c) (hp : c.payload = []) (op : Nat) (data : State → Bytes) :
    ∃ t, runPlain op c s data = .next t ∧ Answers s t c op Status.ok 0 (data s) ∧ t = { s with ports := t.ports } := by
  have run : runPlain op c s data = .next (s.replyF c op Status.ok (data s) 0) := by
    rw [runPlain, runOpcode_admitted ha]; simp [hp]
  exact ⟨_, run, State.replyF_answers s c op Status.ok (data s) 0 ha.ring⟩

end Sys2Proof.Machine

open Sys2Proof.Machine in
/-- Settles O8: each of the sixteen opcodes runs as `runPlain` on its own data. -/
theorem observingOpcodesOnlyReply : Obligations.ObservingOpcodesOnlyReply := by
  intro s c ha hp
  have h := runPlain_answers ha hp
  exact ⟨h 0x0101 identifyData, h 0x0102 statusData, h 0x0104 ringStatusData, h 0x0105 lanesData, h 0x0106 clocksData
    , h 0x0401 callStatusData, h 0x0503 cjData, h 0x0801 recInfoData, h 0x0901 dispStatusData, h 0x0A01 fabStatusData
    , h 0x0B01 timeReadData, h 0x0C01 ageLedgerData, h 0x0D01 cfgStatusData, h 0x0E01 injStatusData, h 0x0F01 secPortsData
    , h 0x0F02 secFusesData⟩
end

section
/-! ### NODE.SUBSCRIBE -/

namespace Sys2Proof.Machine

/-- The state in which NODE.SUBSCRIBE leaves the node: with the subscriptions given, and the status replied. -/
def State.subscribed (s : State) (c : Cmd) (st : Nat) (us : List Subscription) : State :=
  ({ s with ports.subs := us } : State).replyF c 0x0103 st [] 0

/-- The subscriptions once that of a command's sender has a new mask and lease (R49, R50). -/
def renewedSubs (s : State) (c : Cmd) : List Subscription :=
  s.ports.subs.map fun u => if u.isOf c.port c.orig = true then
    u.renew (BitVec.ofNat 5 (u16 c.payload 0)) (s.tm.now + u16 c.payload 2 * 1000000) (readNow s) else u

/-- The subscription of a new subscriber (R49, R50). -/
def newSub (s : State) (c : Cmd) : Subscription :=
  { port := c.port, orig := c.orig, mask := BitVec.ofNat 5 (u16 c.payload 0)
    leaseEnd := s.tm.now + u16 c.payload 2 * 1000000, count := 0, lost := 0, read := readNow s }

theorem State.subscribed_ports (s : State) (c : Cmd) (st : Nat) (us : List Subscription) :
    (s.subscribed c st us).ports.subs = us
      ∧ s.subscribed c st us = { s with ports := { s.ports with
          subs := (s.subscribed c st us).ports.subs, outRings := (s.subscribed c st us).ports.outRings
          high := (s.subscribed c st us).ports.high, windows := (s.subscribed c st us).ports.windows } } := ⟨rfl, rfl⟩

theorem State.subscribed_outRing (s : State) {c : Cmd} (h : c.port < s.ports.outRings.length) (hs : c.slot = 0) (st : Nat)
    (us : List Subscription) : ∃ d, nth (s.subscribed c st us).ports.outRings c.port = nth s.ports.outRings c.port ++ [d]
      ∧ d.pkt = packet 0x8103 c.seq.toNat (s.node * 64) 0 (le 2 st) := by
  obtain ⟨⟨⟨ring, -⟩, -⟩, -⟩ := State.replyF_answers ({ s with ports.subs := us } : State) c 0x0103 st [] 0 h
  exact ⟨_, ring, by simp [hs]⟩

theorem renewedSubs_keep (s : State) (c : Cmd) : (renewedSubs s c).map (fun u => (u.port, u.orig, u.count))
    = s.ports.subs.map fun u => (u.port, u.orig, u.count) := by
  rw [renewedSubs, List.map_map]
  refine List.map_congr_left fun u _ => ?_
  by_cases h : u.isOf c.port c.orig = true <;> simp [h, Subscription.renew]

/-- Every subscription of the sender has the new mask and lease. -/
theorem renewedSubs_mine {s : State} {c : Cmd} (hm : u16 c.payload 0 ≤ 31) {u : Subscription} (hu : u ∈ renewedSubs s c)
    (mine : u.isOf c.port c.orig = true) :
    u.mask.toNat = u16 c.payload 0 ∧ u.leaseEnd = s.tm.now + u16 c.payload 2 * 1000000 := by
  obtain ⟨v, -, rfl⟩ := List.mem_map.1 hu
  by_cases h : v.isOf c.port c.orig = true
  · rw [if_pos h]
    exact ⟨Nat.mod_eq_of_lt (by omega), rfl⟩
  · rw [if_neg h] at mine
    exact absurd mine h

section
variable {s : State} {c : Cmd} (ha : Admitted s c) (hl : c.payload.length = 4) (hp : c.port ≤ 2)
include ha hl hp

theorem execNodeSubscribe_end (hm : u16 c.payload 0 = 0) : execNodeSubscribe c s =
    .next (s.subscribed c Status.ok (s.ports.subs.filter fun u => !u.isOf c.port c.orig)) := by
  rw [execNodeSubscribe, runOpcode_admitted ha]
  simp [hl, Nat.not_lt.2 hp, hm, State.subscribed]

theorem execNodeSubscribe_range (hr : 31 < u16 c.payload 0 ∨ u16 c.payload 0 ≠ 0
    ∧ (u16 c.payload 2 < 10 ∨ 600 < u16 c.payload 2)) :
    execNodeSubscribe c s = .next (s.subscribed c Status.paramRange s.ports.subs) := by
  have h0 : u16 c.payload 0 ≠ 0 := by omega
  have h1 : 31 < u16 c.payload 0 ∨ u16 c.payload 2 < 10 ∨ 600 < u16 c.payload 2 := by omega
  rw [execNodeSubscribe, runOpcode_admitted ha]
  simp [hl, Nat.not_lt.2 hp, h0, h1, refuse, State.subscribed]

variable (h0 : u16 c.payload 0 ≠ 0) (h31 : u16 c.payload 0 ≤ 31) (h10 : 10 ≤ u16 c.payload 2) (h600 : u16 c.payload 2 ≤ 600)
include h0 h31 h10 h600

/-- In range, what is answered depends on whether the sender has a subscription, and else on how many exist. -/
theorem execNodeSubscribe_in_range : execNodeSubscribe c s =
    .next (if s.ports.subs.any (·.isOf c.port c.orig) then s.subscribed c Status.ok (renewedSubs s c)
      else if 8 ≤ s.ports.subs.length then s.subscribed c Status.subscribersFull s.ports.subs
      else s.subscribed c Status.ok (s.ports.subs ++ [newSub s c])) := by
  have h1 : ¬ (31 < u16 c.payload 0 ∨ u16 c.payload 2 < 10 ∨ 600 < u16 c.payload 2) := by omega
  rw [execNodeSubscribe, runOpcode_admitted ha]
  simp only [hl, Nat.not_lt.2 hp, h0, h1, ne_eq, not_true_eq_false, or_self, if_false]
  split
  · rfl
  · split <;> rfl

end

end Sys2Proof.Machine

open Sys2Proof.Machine in
/-- Settles O15: in each case the command leaves the subscriptions that its lemma gives, and a reply. -/
theorem subscribeKeepsAtMostEight : Obligations.SubscribeKeepsAtMostEight := by
  intro s c ha hl hp mask lease mine
  have ring := s.subscribed_outRing ha.ring ha.slot
  have leaves := s.subscribed_ports c
  by_cases hm : mask = 0
  · refine ⟨_, _, execNodeSubscribe_end ha hl hp hm, ring _ _, (leaves _ _).2, fun _ => ⟨rfl, rfl⟩, ?_, ?_, ?_⟩ <;> omega
  by_cases hr : 31 < mask ∨ mask ≠ 0 ∧ (lease < 10 ∨ 600 < lease)
  · refine ⟨_, _, execNodeSubscribe_range ha hl hp hr, ring _ _, (leaves _ _).2, ?_, fun _ => ⟨rfl, rfl⟩, ?_, ?_⟩ <;> omega
  have run := execNodeSubscribe_in_range ha hl hp hm (by omega) (by omega) (by omega)
  by_cases known : s.ports.subs.any mine = true
  · rw [if_pos known] at run
    exact ⟨_, _, run, ring _ _, (leaves _ _).2, fun h => absurd h hm, fun h => absurd h hr
      , fun _ h31 _ _ _ => ⟨rfl, renewedSubs_keep s c, fun _ => renewedSubs_mine h31⟩
      , fun _ _ _ _ new => absurd (known.symm.trans new) (by decide)⟩
  rw [if_neg known] at run
  by_cases full : 8 ≤ s.ports.subs.length
  · rw [if_pos full] at run
    exact ⟨_, _, run, ring _ _, (leaves _ _).2, fun h => absurd h hm, fun h => absurd h hr
      , fun _ _ _ _ h => absurd h known, fun _ _ _ _ _ => ⟨fun _ => ⟨rfl, rfl⟩, fun h => absurd full (by omega)⟩⟩
  · rw [if_neg full] at run
    refine ⟨_, _, run, ring _ _, (leaves _ _).2, fun h => absurd h hm, fun h => absurd h hr
      , fun _ _ _ _ h => absurd h known, fun _ _ _ _ _ => ⟨fun h => absurd h full, fun _ => ⟨rfl, ?_, ?_⟩⟩⟩
    · simp [State.subscribed]
    · simp [State.subscribed, newSub, mine, Subscription.isOf]
end

section
/-! ### LOOP.TRANSACT -/

namespace Sys2Proof.Machine

/-- The payload of a LOOP.TRANSACT is of its form (R369). -/
def transactForm (p : Bytes) : Prop :=
  p.length = 4 + u8 p 2 ∧ u8 p 2 ≤ (if 253 < u16 p 0 then 251 else 253) ∧ allZero p 3 1 = true

/-- What LOOP.TRANSACT puts on Q30 (R369). -/
def transactReq (c : Cmd) (ch : Nat) : LoopReq :=
  { cmd := c, channel := ch, slot := c.slot, command := u16 c.payload 0, data := c.payload.drop 4 }

/-- A reply goes to the ring of the command's port, whatever was done before at the other rings. -/
theorem State.replyF_replies_of {s u : State} {c : Cmd} (op st : Nat) (d : Bytes) (fl : Nat)
    (h : c.port < s.ports.outRings.length) (hr : u.ports.outRings = s.ports.outRings) (hn : u.node = s.node) :
    Replies s (u.replyF c op st d fl) c op st fl d := by
  obtain ⟨⟨replies, -⟩, -⟩ := State.replyF_answers u c op st d fl (hr ▸ h)
  simpa only [Replies, hr, hn] using replies

section
variable {s : State} {c : Cmd} {ch : Nat} {i : InstCfg} (hr : s.core = .running) (h0 : c.slot ≠ 0)
  (hs : slotChannel s c.slot = some (ch, i))
include hr h0 hs

theorem execLoopTransact_malformed (hf : ¬ transactForm c.payload) :
    execLoopTransact c s = .next (s.replyF c 0x0640 Status.paramRange [] 0) := by
  have bad : c.slot = 0 ∨ c.payload.length ≠ 4 + u8 c.payload 2
      ∨ (if 253 < u16 c.payload 0 then 251 else 253) < u8 c.payload 2 ∨ (!allZero c.payload 3 1) = true := by
    simp only [transactForm, not_and_or, Nat.not_le] at hf
    simpa [h0] using hf
  simp only [execLoopTransact, hr, hs, ne_eq, not_true_eq_false, if_false]
  rw [if_pos bad]; rfl

/-- In form, it is refused without FSK and with a full Q30, and else joins Q30. -/
theorem execLoopTransact_formed (hf : transactForm c.payload) : execLoopTransact c s = .next (
    if fskUp s ch = false then s.replyF c 0x0640 Status.loopUnavailable [] 0
    else if 256 ≤ s.ana.q30.length then (s.replyF c 0x0640 Status.queueFull [] 0).ringDrop 30
    else (({ s with ana.q30 := s.ana.q30 ++ [transactReq c ch] } : State).ringUsed 30 (s.ana.q30.length + 1)).replyF
      c 0x0640 Status.acceptedPending [] 0) := by
  obtain ⟨len, limit, zero⟩ := hf
  simp [execLoopTransact, hr, hs, h0, ← len, Nat.not_lt.2 limit, zero, transactReq]

end

end Sys2Proof.Machine

open Sys2Proof.Machine in
/-- Settles O19: `execLoopTransact_formed` gives the three answers in form, `execLoopTransact_malformed` the fourth. -/
theorem loopTransactionsQueueOnQ30 : Obligations.LoopTransactionsQueueOnQ30 := by
  intro s c ch i hu hr hp h0 hs good
  have ring : c.port < s.ports.outRings.length := hu.outRings ▸ hp
  have formed (g : good) := execLoopTransact_formed hr h0 hs g
  refine ⟨fun g up room => ?_, fun g up full => ?_, fun g down => ?_, fun g => ?_⟩
  · have run := formed g
    rw [if_neg (by simp [up]), if_neg (Nat.not_le.2 room)] at run
    exact ⟨_, run, ⟨State.replyF_replies_of _ _ _ _ ring rfl rfl, rfl⟩, rfl, rfl⟩
  · have run := formed g
    rw [if_neg (by simp [up]), if_pos full] at run
    refine ⟨_, run, State.replyF_replies_of (u := s) _ _ _ _ ring rfl rfl, ?_, fun q hq => nth_upd_ne _ _ hq, rfl⟩
    exact nth_upd_self _ _ _ (by simp [hu.drops])
  · have run := formed g
    rw [if_pos down] at run
    exact ⟨_, run, State.replyF_answers s c _ _ _ _ ring⟩
  · exact ⟨_, execLoopTransact_malformed hr h0 hs g, State.replyF_answers s c _ _ _ _ ring⟩
end

section
/-! ### The host ports and `SVC` -/

namespace Sys2Proof.Machine

/-! #### A packet for a command ring (R68) -/

/-- What a full ring answers a packet. -/
def fullReply (s : State) (i : InPkt) : OutPkt :=
  { dest := i.orig, origPort := i.origPort, pkt := statusReply s i.pkt Status.queueFull }

section
variable {s : State} {port : Nat} {i : InPkt}

theorem State.placePkt_room (h : (nth s.ports.inRings port).length < 256) : s.placePkt port i = { s with ports := { s.ports with
    inRings := upd s.ports.inRings port (· ++ [i])
    high := upd s.ports.high port (max ((nth s.ports.inRings port).length + 1)) } } := if_pos h

theorem State.placePkt_full (h : 256 ≤ (nth s.ports.inRings port).length) (hp : port ≤ 2) : s.placePkt port i =
    if (nth s.ports.reserve port).length < 8 then { s with ports := { s.ports with
      drops := upd s.ports.drops port fun n => sat32 (n + 1)
      reserve := upd s.ports.reserve port (· ++ [fullReply s i]) } }
    else s.ringDrop port := (if_neg (Nat.not_lt.2 h)).trans (if_pos hp)

theorem State.ringDrop_count (h : port < s.ports.drops.length) :
    nth (s.ringDrop port).ports.drops port = sat32 (nth s.ports.drops port + 1) := nth_upd_self _ _ _ h

end

/-! #### Datagrams (R54 to R57) -/

/-- A datagram is one for the node (R54, R55, R56). -/
def ownDatagram (s : State) (d : Datagram) : Prop :=
  hostAddress s d.port ≠ 0 ∧ d.dstIp.toNat = hostAddress s d.port ∧ d.dstUdp = 47250 ∧ d.fragment = false ∧ d.ipOptions = false
    ∧ d.checksumBad = false ∧ d.tagged = false ∧ d.ipLen ≤ (if hasImage s then mtuOf s s.node d.port else 1500)
    ∧ 16 ≤ d.payload.length

/-- The packet of a datagram, as it waits on its ring. -/
def datagramPkt (s : State) (d : Datagram) : InPkt :=
  { orig := .host d.port d.srcIp d.srcUdp, origNode := s.node, origPort := d.port, pkt := d.payload }

section
variable {s : State} {d : Datagram} (hr : s.core = .running) (hp : d.port ≤ 1) (hh : s.pw.heldStart = false)
include hr hp hh

theorem execHostDatagramReceived_foreign (h : ¬ ownDatagram s d) : execHostDatagramReceived d s = .next s.dropDatagram := by
  simp only [ownDatagram, not_and_or, not_not, Bool.not_eq_false, Nat.not_le] at h
  simp only [execHostDatagramReceived, hr, hh, Nat.not_lt.2 hp, ne_eq, not_true_eq_false, or_self, if_false, Bool.false_eq_true]
  rw [if_pos h]

theorem execHostDatagramReceived_own (h : ownDatagram s d) : execHostDatagramReceived d s = .next (
    if sub d.payload 0 2 = [0xD7, 0x4E] then s.placePkt d.port (datagramPkt s d)
    else { s with ports := { s.ports with badMarker := sat32 (s.ports.badMarker + 1) } }) := by
  obtain ⟨address, ip, udp, frag, opts, sum, tag, len, whole⟩ := h
  simp [execHostDatagramReceived, hr, hh, Nat.not_lt.2 hp, ip, address, udp, frag, opts, sum, tag, Nat.not_lt.2 len
    , Nat.not_lt.2 whole, datagramPkt]

end

/-! #### ARP and echo requests (R54) -/

/-- A request is for the address of a port. -/
def asksFor (s : State) (p : Nat) (ip : Word) : Prop := hostAddress s p ≠ 0 ∧ ip.toNat = hostAddress s p

/-- The echo answers of the present second, before this request. -/
def echoRun (s : State) (p : Nat) : Nat :=
  if (nth s.ports.echo p).2 + 1000000 ≤ s.tm.now then 0 else (nth s.ports.echo p).1

/-- When that second began. -/
def echoSince (s : State) (p : Nat) : Nat :=
  if (nth s.ports.echo p).2 + 1000000 ≤ s.tm.now then s.tm.now else (nth s.ports.echo p).2

/-- What an echo request leaves where `n` were answered in the second that began at `since`: while that is fewer than 100,
it is answered, and else counted. -/
def State.echoed (s : State) (p n since : Nat) : State :=
  { s with ports := { s.ports with
    echo := upd s.ports.echo p fun _ => (n + (if n < 100 then 1 else 0), since)
    echoSent := if n < 100 then upd s.ports.echoSent p (· + 1) else s.ports.echoSent
    dgDrops := if n < 100 then s.ports.dgDrops else sat32 (s.ports.dgDrops + 1) } }

/-- The work of an echo request, for any period `k`: the kernel would count the second's microseconds out. -/
theorem State.echoed_of_match (s : State) (p k : Nat) (x : Nat × Nat) :
    (match x with
    | (n, since) => match (if since + k ≤ s.tm.now then (0, s.tm.now) else (n, since)) with
    | (n, since) =>
      if n < 100 then
        { s with
          ports.echo := upd s.ports.echo p fun _ => (n + 1, since)
          ports.echoSent := upd s.ports.echoSent p (· + 1) }
      else { s with ports.echo := upd s.ports.echo p fun _ => (n, since) }.dropDatagram)
      = s.echoed p (if x.2 + k ≤ s.tm.now then 0 else x.1) (if x.2 + k ≤ s.tm.now then s.tm.now else x.2) := by
  obtain ⟨n, since⟩ := x
  by_cases fresh : since + k ≤ s.tm.now
  · simp only [fresh, if_true]; rfl
  · by_cases few : n < 100 <;> simp only [fresh, few, if_true, if_false, State.echoed, State.dropDatagram, Nat.add_zero]

theorem State.echoed_counts (s : State) {p : Nat} (n since : Nat) (he : p < s.ports.echo.length)
    (hs : p < s.ports.echoSent.length) :
    nth (s.echoed p n since).ports.echoSent p = nth s.ports.echoSent p + (if n < 100 then 1 else 0)
      ∧ (nth (s.echoed p n since).ports.echo p).1 = n + (if n < 100 then 1 else 0) := by
  refine ⟨?_, congrArg Prod.fst (nth_upd_self _ _ _ he)⟩
  by_cases few : n < 100
  · simp only [State.echoed, few, if_true, nth_upd_self _ _ _ hs]
  · simp only [State.echoed, few, if_false, Nat.add_zero]

section
variable {s : State} {p : Nat} {ip : Word}

theorem execArpRequest_other (h : ¬ asksFor s p ip) : execArpRequest p ip s = .next s :=
  congrArg Host.Outcome.next (if_neg fun ⟨_, _, _, asks⟩ => h asks)

variable (hr : s.core = .running) (hp : p ≤ 1) (hh : s.pw.heldStart = false)
include hr hp hh

theorem execArpRequest_own (h : asksFor s p ip) :
    execArpRequest p ip s = .next { s with ports := { s.ports with arpSent := upd s.ports.arpSent p (· + 1) } } :=
  congrArg Host.Outcome.next (if_pos ⟨hr, hp, by simp [hh], h⟩)

theorem execIcmpEchoRequest_other {len : Nat} (h : ¬ (asksFor s p ip ∧ len ≤ 1500)) :
    execIcmpEchoRequest p ip len s = .next s.dropDatagram :=
  congrArg Host.Outcome.next ((if_neg (by simp [hr, hh, hp])).trans (if_neg fun ⟨address, asked, short⟩ =>
    h ⟨⟨address, asked⟩, short⟩))

theorem execIcmpEchoRequest_own {len : Nat} (h : asksFor s p ip) (hl : len ≤ 1500) :
    execIcmpEchoRequest p ip len s = .next (s.echoed p (echoRun s p) (echoSince s p)) :=
  congrArg Host.Outcome.next ((if_neg (by simp [hr, hh, hp])).trans ((if_pos ⟨h.1, h.2, hl⟩).trans
    (s.echoed_of_match p 1000000 (nth s.ports.echo p))))

end

/-! #### `SVC` (R58 to R61) -/

/-- Where no marker begins, hunting drops every byte (R59). -/
theorem State.svcScan_hunt (s : State) : ∀ (fuel : Nat) (buf : Bytes), (∀ b ∈ buf, b ≠ 0xD7) → buf.length ≤ fuel →
    State.svcScan fuel s buf = { s with ports := { s.ports with svcBuf := [] } }
  | 0, [], _, _ => rfl
  | _ + 1, [], _, _ => rfl
  | _ + 1, [b], h, _ => by rw [State.svcScan, if_neg (h b (by simp))]
  | fuel + 1, a :: b :: rest, h, hl => by
    have ih := State.svcScan_hunt s fuel (b :: rest) (fun x hx => h x (by simp_all)) (by simpa using hl)
    rw [State.svcScan, if_pos (.inl (h a (by simp))), ih]

/-- A whole packet with a good CRC is taken, and nothing of it stays in the buffer (R59). -/
theorem State.svcScan_packet (s : State) {p : Bytes} (fuel : Nat) (hm : sub p 0 2 = [0xD7, 0x4E]) (hn : u16 p 4 ≤ 4080)
    (hl : p.length = 20 + u16 p 4) (hc : crc32c (p.take (16 + u16 p 4)) = pktCrc p) :
    State.svcScan (fuel + 2) s p =
      { s.placePkt 2 (svcPkt s p) with ports := { (s.placePkt 2 (svcPkt s p)).ports with svcBuf := [] } } := by
  match p, hl with
  | [], hl | [_], hl => simp only [List.length_nil, List.length_singleton] at hl; omega
  | a :: b :: rest, hl =>
    obtain ⟨rfl, rfl⟩ : a = 0xD7 ∧ b = 0x4E := by simpa [sub, zeros] using hm
    rw [State.svcScan]
    generalize hp : (0xD7 : Byte) :: 0x4E :: rest = p at *
    rw [if_neg (by simp), if_neg (by omega), if_neg (by omega), if_neg (by omega)]
    simp [← hl, hc, State.svcScan]

theorem execSvcBytesReceived_packet {s : State} {p : Bytes} (hr : s.core = .running) (hu : s.ports.usb = true)
    (he : s.ports.svcBuf = []) (hm : sub p 0 2 = [0xD7, 0x4E]) (hn : u16 p 4 ≤ 4080) (hl : p.length = 20 + u16 p 4)
    (hc : crc32c (p.take (16 + u16 p 4)) = pktCrc p) (room : (nth s.ports.inRings 2).length < 256) :
    execSvcBytesReceived p s = .next { s with ports := { s.ports with
      inRings := upd s.ports.inRings 2 (· ++ [svcPkt s p]), svcLast := s.tm.now
      high := upd s.ports.high 2 (max ((nth s.ports.inRings 2).length + 1)) } } := by
  have scan := State.svcScan_packet ({ s with ports := { s.ports with svcLast := s.tm.now } } : State) (19 + u16 p 4) hm hn hl hc
  rw [State.placePkt_room (by exact room)] at scan
  have whole : s.ports.svcBuf ++ p = p := by rw [he, List.nil_append]
  refine congrArg Host.Outcome.next ((if_pos ⟨hr, hu⟩).trans ?_)
  dsimp only
  rw [whole, hl, show 20 + u16 p 4 + 1 = 19 + u16 p 4 + 2 by omega]
  exact scan.trans (by rw [← he]; rfl)

theorem execSvcPacketTimeout_hunt {s : State} (hr : s.core = .running) (hm : s.ports.svcBuf.take 2 = [0xD7, 0x4E])
    (ht : s.ports.svcLast + 100000 ≤ s.tm.now) (hb : ∀ b ∈ s.ports.svcBuf.drop 2, b ≠ 0xD7) :
    execSvcPacketTimeout s = .next { s with ports :=
      { s.ports with svcTimeouts := sat32 (s.ports.svcTimeouts + 1), svcBuf := [] } } := by
  rw [execSvcPacketTimeout, if_pos ⟨hr, hm, ht⟩, State.svcScan_hunt _ _ _ hb (by simp; omega)]

/-- The ports once `SVC` is enumerated (R51, R61). -/
def Ports.enumerated (p : Ports) : Ports :=
  { p with
    usb := true, svcBuf := []
    outRings := upd p.outRings 2 fun _ => []
    reserve := upd p.reserve 2 fun _ => []
    notifs := upd p.notifs 4 fun r =>
      { r with items := r.items.map fun n => if n.only.any fun u => u.port == 2 then { n with sent := true } else n }
    windows := p.windows.filter (·.port != 2)
    subs := p.subs.filter (·.port != 2) }

theorem execUsbEnumeration_next {s : State} (hr : s.core = .running) :
    execUsbEnumeration s = .next { s with ports := s.ports.enumerated } := congrArg Host.Outcome.next (if_pos hr)

theorem execHostLinkChange_next (s : State) (p : Nat) {v : Nat} (h : v ≤ 2) :
    execHostLinkChange p v s = .next { s with ports := { s.ports with links := upd s.ports.links p fun _ => v } } :=
  congrArg Host.Outcome.next (if_pos h)

end Sys2Proof.Machine

open Sys2Proof.Machine in
/-- Settles O37: what each event leaves is stated by its own lemma; a packet that is taken joins its ring or is answered
by `placePkt_room` and `placePkt_full`. What was answered is counted as log entries 49 and 81 have it. -/
theorem hostPortsTakePackets : Obligations.HostPortsTakePackets := by
  intro s hu hr
  refine ⟨fun d hp hh => ?_, fun p ip hp hh => ?_, ?_, ?_, ?_, ?_⟩
  · intro mine marked i
    have drops : d.port < s.ports.drops.length := by rw [hu.drops]; omega
    have own (m : mine) (k : marked) : exec (.hostDatagramReceived d) s = .next (s.placePkt d.port i) :=
      (execHostDatagramReceived_own hr hp hh m).trans (congrArg _ (if_pos k))
    refine ⟨execHostDatagramReceived_foreign hr hp hh, fun m k => ?_, fun m k room => ?_, fun m k full reserve => ?_
      , fun m k full spent => ?_⟩
    · exact (execHostDatagramReceived_own hr hp hh m).trans (congrArg _ (if_neg k))
    · have run := own m k
      rw [State.placePkt_room room] at run
      exact ⟨_, run, rfl, rfl⟩
    · have run := own m k
      rw [State.placePkt_full full (by omega), if_pos reserve] at run
      exact ⟨_, run, State.ringDrop_count drops, rfl, rfl⟩
    · have run := own m k
      rw [State.placePkt_full full (by omega), if_neg (Nat.not_lt.2 spent)] at run
      exact ⟨_, run, State.ringDrop_count drops, rfl⟩
  · intro mine
    refine ⟨fun m => execArpRequest_other m, fun m => ?_, fun len m => execIcmpEchoRequest_other hr hp hh m
      , fun len m hl => ?_⟩
    · exact ⟨_, execArpRequest_own hr hp hh m, nth_upd_self _ _ _ (by rw [hu.arpSent]; omega), rfl⟩
    · obtain ⟨sent, run⟩ := s.echoed_counts (echoRun s p) (echoSince s p) (p := p) (by rw [hu.echo]; omega)
        (by rw [hu.echoSent]; omega)
      exact ⟨_, execIcmpEchoRequest_own hr hp hh m hl, sent, run, rfl⟩
  · intro p usb empty marker len whole crc room
    exact ⟨_, execSvcBytesReceived_packet hr usb empty marker len whole crc room, rfl, rfl⟩
  · exact execSvcPacketTimeout_hunt hr
  · refine ⟨_, execUsbEnumeration_next hr, rfl, rfl, nth_upd_self _ _ _ (by simp [hu.outRings])
      , nth_upd_self _ _ _ (by simp [hu.reserve]), fun w => ?_, fun u => ?_, fun p hp => nth_upd_ne _ _ hp, rfl, rfl⟩
    · simp [Ports.enumerated]
    · simp [Ports.enumerated]
  · intro p v hp hv
    exact ⟨_, execHostLinkChange_next s p hv, nth_upd_self _ _ _ (by rw [hu.links]; omega), rfl⟩
end

section
/-! ### A frame for the node, from its arrival to what it delivers -/

namespace Sys2Proof.Machine

theorem leNat_lt : ∀ bs : Bytes, leNat bs < 256 ^ bs.length
  | [] => by simp [leNat]
  | b :: bs => by
    have ih := leNat_lt bs
    have hb := b.isLt
    rw [leNat, List.length_cons, Nat.pow_succ]
    omega

theorem u16_lt (b : Bytes) (i : Nat) : u16 b i < 65536 := by simpa [u16] using leNat_lt (sub b i 2)

/-- A body kind other than 0 is the byte behind the header. -/
theorem u8_hdrFrame_body {b : Bytes} (h : u8 (hdrFrame b).body 0 ≠ 0) : u8 b 20 = u8 (hdrFrame b).body 0 := by
  have head : u8 b 20 = u8 (b.drop 20) 0 := by simp [u8, sub]
  rw [head]
  show _ = u8 ((b.drop 20).take (u16 b 16)) 0
  replace h : u8 ((b.drop 20).take (u16 b 16)) 0 ≠ 0 := h
  cases b.drop 20 with
  | nil => rw [List.take_nil]
  | cons x r =>
    cases hn : u16 b 16 with
    | zero => simp [hn, u8, sub, zeros, leNat] at h
    | succ n => simp [u8, sub, zeros]

theorem hdrFrame_origin_lt {b : Bytes} (h : headerOk b = true) : (hdrFrame b).origin < 0x1000 := by
  simp only [headerOk, Bool.and_eq_true, decide_eq_true_eq] at h
  obtain ⟨⟨⟨-, origin⟩, -⟩, -⟩ := h
  exact origin

/-- A frame row takes the frames of its type and, where it names one, its body kind. -/
theorem frameRow_takes {types : List Nat} {kind : Option Nat} {rx : RxFrame} (s : State)
    (ht : (hdrFrame rx.bytes).type ∈ types) (hk : ∀ k ∈ kind, u8 (hdrFrame rx.bytes).body 0 = k ∧ k ≠ 0) :
    frameRow types kind rx s = .next (s.arrive rx) := by
  have type : u8 rx.bytes 0 ∈ types := ht
  cases kind with
  | none => simp [frameRow, type]
  | some k =>
    obtain ⟨body, nonzero⟩ := hk k rfl
    have row : u8 rx.bytes 20 = k := (u8_hdrFrame_body (body ▸ nonzero)).trans body
    simp [frameRow, type, row]

/-- The listed types have classes 0 to 3 (Table 08-5). -/
theorem frameClass_lt {t c : Nat} (h : frameClass t = some c) : c < 4 := by
  unfold frameClass at h
  split at h <;> simp_all <;> omega

theorem Frame.class_lt {f : Frame} (h : (frameClass f.type).isSome = true) : f.class < 4 := by
  obtain ⟨c, hc⟩ := Option.isSome_iff_exists.1 h
  rw [Frame.class, hc]
  exact frameClass_lt hc

theorem flatten_upd_replicate {α : Type} (x : α) {c : Nat} (h : c < 4) :
    (upd (List.replicate 4 []) c fun _ => [x]).flatten = [x] := by
  obtain rfl | rfl | rfl | rfl : c = 0 ∨ c = 1 ∨ c = 2 ∨ c = 3 := by omega
  all_goals rfl

theorem nth_replicate_nil {α : Type} (n c : Nat) : nth (List.replicate n ([] : List α)) c = [] := by
  rw [nth, List.getD_eq_getElem?_getD, List.getElem?_replicate]
  split <;> rfl

/-- A frame accepted while the inbound rings are empty is delivered at once, and the rings are empty again (R228). -/
theorem State.accept_delivers {s : State} {port ns : Nat} {f : Frame} (hr : s.core = .running)
    (hq : s.fab.inQ = List.replicate 4 []) (hc : f.class < 4) (ht : ¬ (0x09 ≤ f.type ∧ f.type ≤ 0x0C)) :
    s.accept port ns f = some (({ s with
      fab := s.fab.counted port
      ports := { s.ports with high := upd s.ports.high (24 + f.class) (max 1) } } : State).deliver port ns f) := by
  have ring : nth s.fab.inQ f.class = [] := by rw [hq, nth_replicate_nil]
  have held : (upd s.fab.inQ f.class fun _ => [(port, ns, f)]).flatten = [(port, ns, f)] := by
    rw [hq, flatten_upd_replicate _ hc]
  have empty : ({ s.fab.counted port with inQ := List.replicate 4 [] } : Fabric) = s.fab.counted port := by
    rw [← hq]; rfl
  unfold State.accept
  rw [if_neg (by simp [hr, ht])]
  simp only [State.setPort_fab, ring, List.nil_append, List.length_singleton]
  rw [if_neg (by decide)]
  unfold State.drainIn
  simp only [State.ringUsed, held, List.foldl_cons, List.foldl_nil]
  rw [← empty]
  rfl

section
variable {s : State} {rx : RxFrame} {os : List OriginEntry} (h : ArrivesHere s rx os) (hr : s.core = .running)
include h

theorem ArrivesHere.bridge_stays :
    ({ s with fab.origins := os } : State).bridge rx.port (hdrFrame rx.bytes) = { s with fab.origins := os } :=
  if_pos (show bridgeRole s = 0 from h.plain)

include hr

/-- The switch takes a frame for the node alone off the fabric and delivers it. -/
theorem ArrivesHere.switchFrame_delivers (ht : ¬ (0x09 ≤ (hdrFrame rx.bytes).type ∧ (hdrFrame rx.bytes).type ≤ 0x0C)) :
    s.switchFrame rx (hdrFrame rx.bytes) true = (s.accepted rx os).deliver rx.port rx.ns (hdrFrame rx.bytes) := by
  have own : ¬ ((hdrFrame rx.bytes).origin = s.node ∨ votedAgainst s (hdrFrame rx.bytes) = true) := by
    simp [h.origin, h.voted]
  have stays : ¬ ((hdrFrame rx.bytes).ttl ≠ 1 ∧ (hdrFrame rx.bytes).dest ≠ s.node
      ∧ (some os).isSome = true ∧ hasImage s = true) := fun ⟨ttl, dest, _⟩ => h.still.elim ttl dest
  have listed : ¬ (frameClass (hdrFrame rx.bytes).type).isNone = true := by
    simp [Option.isSome_iff_ne_none.1 h.listed]
  have accepted := State.accept_delivers (s := ({ s with fab.origins := os } : State)) (port := rx.port) (ns := rx.ns) hr h.inQ
    (Frame.class_lt h.listed) ht
  unfold State.switchFrame
  rw [if_neg own, h.fresh]
  simp only [if_neg stays]
  rw [if_neg (by decide), if_neg listed, if_pos h.dest, h.bridge_stays, accepted]
  rfl

/-- What a frame for the node alone does: it is counted, kept in the table of its origin, and delivered. -/
theorem ArrivesHere.arrive_delivers (ht : ¬ (0x09 ≤ (hdrFrame rx.bytes).type ∧ (hdrFrame rx.bytes).type ≤ 0x0C)) :
    s.arrive rx = (s.accepted rx os).deliver rx.port rx.ns (hdrFrame rx.bytes) := by
  have port := h.port
  have far : (hdrFrame rx.bytes).dest ≠ 0xFFFE := by
    have := h.node
    rcases h.dest with d | d <;> rw [d] <;> omega
  have inj : s.inject 0 rx = (s, [rx]) := by simp [State.inject, h.inj]
  have received : s.receive rx = s.switchFrame rx (hdrFrame rx.bytes) true := by
    simp [State.receive, h.up, h.head, h.crc, h.coded, far, Nat.not_lt.2 h.short, Nat.not_lt.2 h.long
      , Nat.not_lt.2 (Nat.le_of_lt_succ port)]
  unfold State.arrive
  rw [if_neg (by simp [h.runs]; omega), inj]
  exact received.trans (h.switchFrame_delivers hr ht)

/-- The row of a type, and of a type and its body kind, for a frame for the node alone. -/
theorem ArrivesHere.row {t : Nat} (ht : (hdrFrame rx.bytes).type = t) (hl : ¬ (0x09 ≤ t ∧ t ≤ 0x0C)) :
    frameRow [t] none rx s = .next ((s.accepted rx os).deliver rx.port rx.ns (hdrFrame rx.bytes)) :=
  (frameRow_takes s (by simp [ht]) (by simp)).trans (congrArg _ (h.arrive_delivers hr (ht ▸ hl)))

theorem ArrivesHere.rowKind {t k : Nat} (ht : (hdrFrame rx.bytes).type = t) (hk : u8 (hdrFrame rx.bytes).body 0 = k)
    (hl : ¬ (0x09 ≤ t ∧ t ≤ 0x0C)) (h0 : k ≠ 0) :
    frameRow [t] (some k) rx s = .next ((s.accepted rx os).deliver rx.port rx.ns (hdrFrame rx.bytes)) :=
  (frameRow_takes s (by simp [ht]) (by simp [hk, h0])).trans (congrArg _ (h.arrive_delivers hr (ht ▸ hl)))

end

/-! #### What each type delivers (Table 08-5) -/

section
variable {s : State} {rx : RxFrame} {os : List OriginEntry} (h : ArrivesHere s rx os) (hr : s.core = .running)
include h hr

theorem execTimeAnnounceReceived_here (ht : (hdrFrame rx.bytes).type = 8) :
    execTimeAnnounceReceived rx s = .next ((s.accepted rx os).onAnnounce (hdrFrame rx.bytes)) :=
  (h.row hr ht (by decide)).trans (by simp [State.deliver, State.accepted, hr, ht])

theorem execWitnessRecordReceived_here (ht : (hdrFrame rx.bytes).type = 0x12) (hk : u8 (hdrFrame rx.bytes).body 0 = 1) :
    execWitnessRecordReceived rx s = .next ((s.accepted rx os).onWitness (hdrFrame rx.bytes)) :=
  (h.rowKind hr ht hk (by decide) (by decide)).trans (by simp [State.deliver, State.accepted, hr, ht, hk])

theorem execWitnessAckReceived_here (ht : (hdrFrame rx.bytes).type = 0x12) (hk : u8 (hdrFrame rx.bytes).body 0 = 2) :
    execWitnessAckReceived rx s = .next ((s.accepted rx os).onWitnessAck (hdrFrame rx.bytes)) :=
  (h.rowKind hr ht hk (by decide) (by decide)).trans (by simp [State.deliver, State.accepted, hr, ht, hk])

theorem execRelaySegmentReceived_here (ht : (hdrFrame rx.bytes).type = 0x20) :
    execRelaySegmentReceived rx s = .next ((s.accepted rx os).onRelaySegment rx.port (hdrFrame rx.bytes)) :=
  (h.row hr ht (by decide)).trans (by simp [State.deliver, State.accepted, hr, ht])

theorem execFoundingAnnounceReceived_here (ht : (hdrFrame rx.bytes).type = 4) (hk : u8 (hdrFrame rx.bytes).body 0 = 1) :
    execFoundingAnnounceReceived rx s = .next ((s.accepted rx os).onFoundingAnnounce (hdrFrame rx.bytes)) :=
  (h.rowKind hr ht hk (by decide) (by decide)).trans (by simp [State.deliver, State.accepted, hr, ht, hk])

theorem execFoundingReadyReceived_here (ht : (hdrFrame rx.bytes).type = 4) (hk : u8 (hdrFrame rx.bytes).body 0 = 2) :
    execFoundingReadyReceived rx s = .next ((s.accepted rx os).onFoundingReady (hdrFrame rx.bytes)) :=
  (h.rowKind hr ht hk (by decide) (by decide)).trans (by simp [State.deliver, State.accepted, hr, ht, hk])

theorem execFoundingRosterReceived_here (ht : (hdrFrame rx.bytes).type = 4) (hk : u8 (hdrFrame rx.bytes).body 0 = 3) :
    execFoundingRosterReceived rx s = .next ((s.accepted rx os).onFoundingRoster (hdrFrame rx.bytes)) :=
  (h.rowKind hr ht hk (by decide) (by decide)).trans (by simp [State.deliver, State.accepted, hr, ht, hk])

end

end Sys2Proof.Machine
end

section
/-! ### Time announces -/

namespace Sys2Proof.Machine

/-- The announce that a frame's body spells, heard now (Table 08-6). -/
def announceOf (s : State) (b : Bytes) : Announce :=
  { node := u16 b 0, cls := u8 b 2, persisted := u64 b 4, master := u16 b 12, at_ := s.tm.now }

/-- The announces once one more is heard: the newest of each node. -/
def Fabric.heard (x : Fabric) (a : Announce) : Fabric :=
  { x with announces := a :: x.announces.filter (·.node != a.node) }

/-- The fabric once an announce is heard: one of class 1 or 2 ends the cold start, one of class 3 raises its time (R235). -/
def Fabric.hear (x : Fabric) (a : Announce) : Fabric :=
  if a.cls = 1 ∨ a.cls = 2 then { x.heard a with lastGoodAnnounce := a.at_, cold := none, coldHigh := 0 }
  else if a.cls = 3 then { x.heard a with coldHigh := max x.coldHigh a.persisted } else x.heard a

theorem State.onAnnounce_hears {s : State} {f : Frame} (hl : f.body.length = 16) (h3 : allZero f.body 3 1 = true)
    (h14 : allZero f.body 14 2 = true) :
    s.onAnnounce f = ({ s with fab := s.fab.hear (announceOf s f.body) } : State).chooseMaster 2 := by
  have form : ¬ (f.body.length ≠ 16 ∨ (!allZero f.body 3 1) = true ∨ (!allZero f.body 14 2) = true) := by simp [hl, h3, h14]
  refine (if_neg form).trans (congrArg (State.chooseMaster · 2) ?_)
  unfold Fabric.hear
  by_cases good : u8 f.body 2 = 1 ∨ u8 f.body 2 = 2
  · simp only [announceOf, good, if_true]; rfl
  · by_cases cold : u8 f.body 2 = 3
    · simp only [announceOf, cold, if_true]; rfl
    · simp only [announceOf, good, cold, if_false]; rfl

/-- Of the fabric an announce changes what is known of the announces, no more. -/
theorem Fabric.hear_frame (x : Fabric) (a : Announce) : x.hear a = { x with
    announces := (x.heard a).announces, lastGoodAnnounce := (x.hear a).lastGoodAnnounce, cold := (x.hear a).cold
    coldHigh := (x.hear a).coldHigh } := by
  unfold Fabric.hear
  split
  · rfl
  · split <;> rfl

/-- What a node counts at its ports and keeps of the origins plays no part in what it hears. -/
theorem Fabric.hear_counted (x : Fabric) (port : Nat) (os : List OriginEntry) (a : Announce) :
    ({ x.counted port with origins := os } : Fabric).hear a = { (x.hear a).counted port with origins := os } := by
  unfold Fabric.hear
  split
  · rfl
  · split <;> rfl

/-- Nor does it in the choice of the master (R233). -/
theorem masterChoice_accepted (s : State) (rx : RxFrame) (os : List OriginEntry) (a : Announce) :
    masterChoice { s.accepted rx os with fab := (s.accepted rx os).fab.hear a }
      = masterChoice { s with fab := s.fab.hear a } := by
  show masterChoice { s.accepted rx os with fab := Fabric.hear { s.fab.counted rx.port with origins := os } a } = _
  rw [Fabric.hear_counted]
  rfl

/-- `t` differs from `s` in fabric time's master and what rests on it, and in the recorder. -/
structure Remasters (s t : State) : Prop where
  announces : t.fab.announces = s.fab.announces
  cold      : t.fab.cold = s.fab.cold
  coldHigh  : t.fab.coldHigh = s.fab.coldHigh
  frame     : t = { s with fab := t.fab, rcd := t.rcd }

theorem State.setMaster_remasters (s : State) (m : Option Nat) (reason : Nat) : Remasters s (s.setMaster m reason) := by
  unfold State.setMaster
  split
  · exact ⟨rfl, rfl, rfl, rfl⟩
  · cases m with
    | none => exact ⟨rfl, rfl, rfl, rfl⟩
    | some n =>
      simp only [State.logNotify_eq]
      rw [State.enqueue_frame]
      exact ⟨rfl, rfl, rfl, rfl⟩

theorem State.chooseMaster_remasters (s : State) (reason : Nat) : Remasters s (s.chooseMaster reason) := by
  unfold State.chooseMaster
  split
  · split
    · exact ⟨rfl, rfl, rfl, rfl⟩
    · exact s.setMaster_remasters _ _
  · exact s.setMaster_remasters _ _

section
variable {s : State} {n : Nat} (h : masterChoice s = some n) (reason : Nat)
include h

theorem State.chooseMaster_some : s.chooseMaster reason = s.setMaster (some n) reason := by
  simp [State.chooseMaster, h]

theorem State.chooseMaster_same (hm : s.fab.master = some n) : s.chooseMaster reason = s := by
  rw [State.chooseMaster_some h]
  exact if_pos hm.symm

theorem State.chooseMaster_master : (s.chooseMaster reason).fab.master = some n := by
  by_cases hm : s.fab.master = some n
  · rw [State.chooseMaster_same h reason hm, hm]
  · rw [State.chooseMaster_some h, State.setMaster, if_neg (Ne.symm hm)]
    simp only [State.logNotify_eq]
    rw [State.enqueue_frame]

/-- A master other than the one before writes TIME_MASTER_CHANGE (R241). -/
theorem State.chooseMaster_logs (hr : s.core = .running) (hm : s.fab.master ≠ some n) :
    Logs s (s.chooseMaster reason) [0x0301] := by
  rw [State.chooseMaster_some h, State.setMaster, if_neg (Ne.symm hm)]
  exact State.logNotifyAt_logs _ _ _ _ _ _ hr

end

end Sys2Proof.Machine
end

section
/-! ### Witness records and their acknowledgements -/

namespace Sys2Proof.Machine

/-- A record of one part that none is held of goes to its partition at once (R272). -/
theorem State.onWitness_single {s : State} {f : Frame} (hl : 9 ≤ f.body.length) (hi : u8 f.body 1 = 0) (hn : u8 f.body 2 = 1)
    (h3 : allZero f.body 3 1 = true) (new : ∀ w ∈ s.rcd.witIn, (w.origin, w.inc, w.num) ≠ (f.origin, f.inc, u32 f.body 4)) :
    s.onWitness f = s.fileWitness f.origin f.inc (u32 f.body 4) (f.body.drop 8) := by
  have other : ∀ w ∈ s.rcd.witIn, (w.origin == f.origin && w.inc == f.inc && w.num == u32 f.body 4) = false := fun w hw => by
    simpa [and_assoc] using new w hw
  have found : s.rcd.witIn.find? (fun w => w.origin == f.origin && w.inc == f.inc && w.num == u32 f.body 4) = none :=
    List.find?_eq_none.2 fun w hw => by simp [other w hw]
  have rest : s.rcd.witIn.filter (fun w => !(w.origin == f.origin && w.inc == f.inc && w.num == u32 f.body 4)) = s.rcd.witIn :=
    List.filter_eq_self.2 fun w hw => by simp [other w hw]
  unfold State.onWitness
  simp only [hi, hn, h3, found, rest, Option.getD_none, put]
  rw [if_neg (by simp [hl]), if_pos (by simp)]
  simp

section
variable {s : State} {o inc num : Nat} (bs : Bytes) (hw : s.rcd.witnessOnly = false)
include hw

/-- A record neither filed nor waiting joins the queue of the recorder (R414). -/
theorem State.fileWitness_new (hf : s.rcd.filed.contains (o, inc, num) = false)
    (hq : ∀ p r, QItem.witness p o inc num r ∉ s.rcd.queue) :
    ∃ p r, r.type = 0x0480 ∧ s.fileWitness o inc num bs = s.enqueue (.witness p o inc num r) := by
  have unqueued : ¬ (s.rcd.queue.any fun q => match q with
      | .witness _ o' i' n' _ => o' == o && i' == inc && n' == num
      | _ => false) = true := by
    rw [List.any_eq_true]
    rintro ⟨q, mem, key⟩
    cases q with
    | witness p o' i' n' r =>
      simp only [Bool.and_eq_true, beq_iff_eq] at key
      obtain ⟨⟨rfl, rfl⟩, rfl⟩ := key
      exact hq _ _ mem
    | own => cases key
    | note => cases key
    | pages => cases key
  refine ⟨_, _, ?_, (if_neg (by simp [hw])).trans ((if_neg (by rw [hf]; decide)).trans (if_neg unqueued))⟩
  rfl

/-- A record filed before is acknowledged again (R414). -/
theorem State.fileWitness_filed (hf : s.rcd.filed.contains (o, inc, num) = true) :
    s.fileWitness o inc num bs = s.ackWitness o num := by
  unfold State.fileWitness
  rw [if_neg (by simp [hw]), if_pos hf]

end

theorem State.enqueue_witness_logs {s : State} (hr : s.core = .running) (p o inc num : Nat) {r : QRec} {t : Nat}
    (ht : r.type = t) : Logs s (s.enqueue (.witness p o inc num r)) [t] :=
  ⟨[.witness p o inc num r], s.enqueue_queue _ hr, by simp [QItem.recordType, ht]⟩

/-- A node that is no bridge originates a frame on its segment ports alone (R220, R224). -/
theorem State.originate_segment {s : State} (hb : bridgeRole s = 0) {ty c : Nat} (hc : frameClass ty = some c)
    (dest : Nat) (body : Bytes) (hl : c < s.fab.out.length) :
    ∃ g : Frame, g.type = ty ∧ g.dest = dest ∧ g.body = body
      ∧ nth (s.originate ty dest body).fab.out c = nth s.fab.out c ++ [{ ports := [0, 1], frame := g }]
      ∧ s.originate ty dest body = { s with
          fab := { s.fab with out := (s.originate ty dest body).fab.out, frameSeq := (s.originate ty dest body).fab.frameSeq }
          ports := { s.ports with high := (s.originate ty dest body).ports.high } } := by
  have alone : (true && decide (bridgeRole s ≠ 0) && (dest == 0xFFFF || segOf dest != segOf s.node)) = false := by simp [hb]
  unfold State.originate
  simp only [alone, hc, Option.getD_some, Bool.false_eq_true, if_false]
  exact ⟨_, rfl, rfl, rfl, nth_upd_self _ _ _ hl, rfl⟩

section
variable {s : State} (dest : Nat) (body : Bytes)

theorem State.sendWitness_waits (h : ¬ (s.rcd.witWait = [] ∧ s.repl.outActs = [] ∧ outUsed s 1 < 256)) :
    s.sendWitness dest body = { s with rcd := { s.rcd with witWait :=
      s.rcd.witWait ++ [(s.repl.outActs.length, dest, body)] } } :=
  if_neg (by simpa [and_assoc] using h)

theorem State.sendWitness_sends (hw : s.rcd.witWait = []) (ha : s.repl.outActs = []) (hu : outUsed s 1 < 256) :
    s.sendWitness dest body = s.originate 0x12 dest body := if_pos (by simp [hw, ha, hu])

end

/-- A record that is out, once a holder has acknowledged it (R272). -/
def WitnessOut.ackedBy (w : WitnessOut) (holder : Nat) : WitnessOut :=
  { w with ack := (w.ack.zip w.holder).map fun p => p.1 || p.2 == holder }

/-- With its one holder's acknowledgement a record is out no longer. -/
theorem WitnessOut.ackedBy_only {w : WitnessOut} {o : Nat} (hh : w.holder = [o]) (ha : w.ack = [false]) :
    [w.ackedBy o].filter (fun w => !w.ack.all id) = [] := by simp [WitnessOut.ackedBy, hh, ha]

/-- With the first of two it stays out for the second. -/
theorem WitnessOut.ackedBy_first {w : WitnessOut} {o p : Nat} (ho : p ≠ o) (hh : w.holder = [o, p]) (ha : w.ack = [false, false]) :
    [w.ackedBy o].filter (fun w => !w.ack.all id) = [{ w with ack := [true, false] }] := by
  simp [WitnessOut.ackedBy, hh, ha, ho]

section
variable {s : State} {f : Frame} {w : WitnessOut} (hl : f.body.length = 8) (h1 : allZero f.body 1 3 = true)
  (ho : s.rcd.witOut = [w]) (hn : w.num = u32 f.body 4)
include hl h1 ho hn

/-- An acknowledgement of the one record that is out marks the sides of its sender, and ends the record once all are
marked (R272). -/
theorem State.onWitnessAck_one : s.onWitnessAck f = { s with rcd := { s.rcd with
    witOut := [w.ackedBy f.origin].filter fun w => !w.ack.all id } } := by
  unfold State.onWitnessAck
  rw [if_neg (by simp [hl, h1])]
  simp [ho, hn, WitnessOut.ackedBy]

end

end Sys2Proof.Machine
end

section
/-! ### Relay segments -/

namespace Sys2Proof.Machine

/-- The body of the one segment of a relay message of up to 232 B (R227). -/
def oneSegment (tag : Nat) (msg : Bytes) : Bytes := le 2 tag ++ [0, 0, 1, 0] ++ le 2 msg.length ++ msg

theorem oneSegment_fields (tag : Nat) {msg : Bytes} (h : msg.length < 65536) :
    u8 (oneSegment tag msg) 2 = 0 ∧ u8 (oneSegment tag msg) 3 = 0 ∧ u8 (oneSegment tag msg) 4 = 1
      ∧ allZero (oneSegment tag msg) 5 1 = true ∧ u16 (oneSegment tag msg) 6 = msg.length
      ∧ (oneSegment tag msg).length = 8 + msg.length ∧ (oneSegment tag msg).drop 8 = msg := by
  refine ⟨?_, ?_, ?_, ?_, ?_, ?_, ?_⟩ <;> simp [oneSegment, le, u8, u16, sub, leNat, allZero, zeros]
  · omega
  · omega

theorem relayBody_fields (node port dir tag : Nat) (p : Bytes) (hn : node < 0x1000) (hp : port < 256) (hd : dir < 256)
    (ht : tag < 65536) : u32 (relayBody node port dir tag p) 0 = node * 64 ∧ u8 (relayBody node port dir tag p) 4 = port
      ∧ u8 (relayBody node port dir tag p) 5 = dir ∧ u16 (relayBody node port dir tag p) 6 = tag
      ∧ (relayBody node port dir tag p).drop 8 = p := by
  refine ⟨?_, ?_, ?_, ?_, ?_⟩ <;> simp [relayBody, le, u8, u16, u32, sub, leNat, zeros] <;> omega

@[simp] theorem length_relayBody (node port dir tag : Nat) (p : Bytes) :
    (relayBody node port dir tag p).length = p.length + 8 := by
  simp [relayBody]; omega

/-- A message of one segment that none is held of is whole at once (R227). -/
theorem State.onRelaySegment_one {s : State} {f : Frame} {tag : Nat} {msg : Bytes} (hb : f.body = oneSegment tag msg)
    (hlo : 28 ≤ msg.length) (hhi : msg.length ≤ 232)
    (new : ∀ a ∈ s.ports.asms, (a.origin, a.tag, a.dir) ≠ (f.origin, u16 f.body 0, 0)) (room : s.ports.asms.length < 256)
    (port : Nat) : s.onRelaySegment port f = s.relayMessage port f.origin 0 msg := by
  obtain ⟨dir, index, count, zero, total, length, data⟩ := oneSegment_fields tag (msg := msg) (by omega)
  rw [← hb] at dir index count zero total length data
  have segments : ceilDiv msg.length 232 = 1 := by unfold ceilDiv; omega
  have other : ∀ a ∈ s.ports.asms, (a.origin == f.origin && a.tag == u16 f.body 0 && a.dir == 0) = false := fun a ha => by
    simpa [and_assoc] using new a ha
  have found : s.ports.asms.find? (fun a => a.origin == f.origin && a.tag == u16 f.body 0 && a.dir == 0) = none :=
    List.find?_eq_none.2 fun a ha => by simp [other a ha]
  have rest : s.ports.asms.filter (fun a => !(a.origin == f.origin && a.tag == u16 f.body 0 && a.dir == 0)) = s.ports.asms :=
    List.filter_eq_self.2 fun a ha => by simp [other a ha]
  unfold State.onRelaySegment
  simp only [dir, index, count, zero, total, length, data, segments, found, rest, Option.getD_none, put]
  rw [if_neg (by simp; omega), if_neg (by simp; omega), if_pos (by simp)]
  simp

/-- A relayed command joins the ring of the fabric port it came by (R62). -/
theorem State.relayMessage_command (s : State) (inPort : Nat) {node port tag : Nat} {p : Bytes} (hn : node < 0x1000)
    (hp : port ≤ 2) (ht : tag < 65536) (hl : 20 ≤ p.length) :
    s.relayMessage inPort node 0 (relayBody node port 0 tag p) =
      s.placePkt (3 + inPort) { orig := .relay node tag, origNode := node, origPort := port, pkt := p } := by
  obtain ⟨station, origPort, dir, word, pkt⟩ := relayBody_fields node port 0 tag p hn (by omega) (by omega) ht
  unfold State.relayMessage
  simp only [station, origPort, dir, word, pkt]
  rw [if_neg (by omega), if_pos trivial, Nat.mul_div_cancel _ (by decide), if_pos rfl]

end Sys2Proof.Machine
end

section
/-! ### Frames of a founding -/

namespace Sys2Proof.Machine

/-- An announce of a founding that concerns the node: it is to follow the founder it names (R477, R478). -/
theorem State.onFoundingAnnounce_follows {s : State} {f : Frame} (hl : f.body.length = 16) (hm : mayFound s = true)
    (hi : u32 f.body 12 = tableIdentity s) (hf : s.repl.founding.founder = true → s.fab.master = some f.origin) :
    s.onFoundingAnnounce f = { s with
      cfg := s.foundBase.cfg
      repl := { s.foundBase.repl with founding := { s.repl.founding with
        founder := false, ef := some (liftEpoch s.foundBase (u32 f.body 4)), founderNode := u16 f.body 8
        quietSince := s.tm.now } } } := by
  have follows : (!s.repl.founding.founder || s.fab.master == some f.origin) = true := by
    cases hc : s.repl.founding.founder with
    | false => rfl
    | true => simp [hf hc]
  exact if_pos ⟨hl, hm, hi, follows⟩

/-- The nodes that a part of the roster names (Table 17-6). -/
def rosterPart (b : Bytes) : List Nat := (bitsOf (b.drop 16)).map fun k => 1408 * u8 b 1 + k

theorem mem_rosterPart {b : Bytes} {n : Nat} :
    n ∈ rosterPart b ↔ 1408 * u8 b 1 ≤ n ∧ n - 1408 * u8 b 1 ∈ bitsOf (b.drop 16) := by
  rw [rosterPart, List.mem_map]
  constructor
  · rintro ⟨k, hk, rfl⟩
    exact ⟨Nat.le_add_right _ _, by rwa [Nat.add_sub_cancel_left]⟩
  · rintro ⟨hle, hk⟩
    exact ⟨_, hk, Nat.add_sub_cancel' hle⟩

section
variable {s : State} {f : Frame} {ef : Nat} (he : s.repl.founding.ef = some ef)
include he

theorem State.onFoundingReady_joins (hl : f.body.length = 16) (hf : s.repl.founding.founder = true)
    (ht : (fabUs s).getD 0 < epochStart s ef) (h4 : u32 f.body 4 = ef % 0x100000000) (hi : u32 f.body 12 = tableIdentity s) :
    s.onFoundingReady f = { s with repl := { s.repl with founding :=
      { s.repl.founding with ready := ins s.repl.founding.ready f.origin } } } := by
  unfold State.onFoundingReady
  rw [he]
  exact if_pos ⟨hl, hf, ht, h4, hi⟩

theorem State.onFoundingRoster_holds (hm : mayFound s = true) (hf : s.repl.founding.founder = false) (hp : u8 f.body 1 < 3)
    (h2 : u8 f.body 2 = 3) (h4 : u32 f.body 4 = ef % 0x100000000) (hl : f.body.length = if u8 f.body 1 = 2 then 176 else 192) :
    s.onFoundingRoster f = { s with repl := { s.repl with founding :=
      { s.repl.founding with parts := put s.repl.founding.parts (u8 f.body 1) (rosterPart f.body) } } } := by
  unfold State.onFoundingRoster
  rw [he]
  exact if_pos ⟨hm, by simp [hf], hp, h2, h4, hl⟩

end

end Sys2Proof.Machine

open Sys2Proof.Machine in
/-- Settles O46: `ArrivesHere.row` takes each frame to what its type delivers, whose own lemma says what that leaves. -/
theorem nodeFramesAreTaken : Obligations.NodeFramesAreTaken := by
  intro s rx os hu hr h f b fab a1
  have run : a1.core = .running := hr
  have out : 1 < a1.fab.out.length := by rw [show a1.fab.out = s.fab.out from rfl, hu.fabOut]; decide
  refine ⟨?_, fun type len kind part parts z3 works new => ?_, fun w type len kind z1 only num => ?_
    , fun p type body lo hi port new room ring => ?_, ?_, fun ef type kind len he hf ht h4 hi => ?_
    , fun ef type kind hp h2 len he hm hf h4 => ?_⟩
  · intro type len z3 z14 a heard u
    have took : exec (.timeAnnounceReceived rx) s = .next (({ a1 with fab := a1.fab.hear a } : State).chooseMaster 2) :=
      (execTimeAnnounceReceived_here h hr type).trans (congrArg _ (State.onAnnounce_hears len z3 z14))
    have choice : masterChoice { a1 with fab := a1.fab.hear a } = masterChoice u := masterChoice_accepted s rx os a
    have hear : a1.fab.hear a = { fab with
        announces := heard.announces, lastGoodAnnounce := u.fab.lastGoodAnnounce, cold := u.fab.cold
        coldHigh := u.fab.coldHigh } :=
      (s.fab.hear_counted rx.port os a).trans
        (congrArg (fun x : Fabric => { x.counted rx.port with origins := os }) (s.fab.hear_frame a))
    have master : (a1.fab.hear a).master = s.fab.master := (congrArg Fabric.master hear :)
    obtain ⟨announces, cold, coldHigh, frame⟩ := State.chooseMaster_remasters { a1 with fab := a1.fab.hear a } 2
    exact ⟨_, took, announces.trans (congrArg Fabric.announces hear :)
      , fun n hn => State.chooseMaster_master (choice.trans hn) 2
      , fun n hn hm => (State.chooseMaster_same (choice.trans hn) 2 (master.trans hm)).trans
          (congrArg (fun x => { a1 with fab := x }) hear)
      , coldHigh.trans (congrArg Fabric.coldHigh hear :), cold.trans (congrArg Fabric.cold hear :)
      , fun n hn hm => State.chooseMaster_logs (choice.trans hn) 2 hr fun e => hm (master.symm.trans e), frame⟩
  · have took : exec (.witnessRecordReceived rx) s = .next (a1.fileWitness f.origin f.inc (u32 b 4) (b.drop 8)) :=
      (execWitnessRecordReceived_here h hr type kind).trans (congrArg _ (State.onWitness_single len part parts z3 new))
    refine ⟨fun unfiled unqueued => ?_, fun filed waits => ?_, fun filed w0 a0 u0 => ?_⟩
    · obtain ⟨p, r, ht, files⟩ := State.fileWitness_new (s := a1) (b.drop 8) works unfiled unqueued
      rw [files] at took
      exact ⟨_, took, State.enqueue_witness_logs run _ _ _ _ ht, State.enqueue_frame _ _⟩
    · rw [State.fileWitness_filed (s := a1) _ works filed] at took
      exact took.trans (congrArg _ (State.sendWitness_waits (s := a1) _ _ waits))
    · rw [State.fileWitness_filed (s := a1) _ works filed] at took
      obtain ⟨g, gtype, gdest, gbody, gout, frame⟩ := State.originate_segment (s := a1) (ty := 0x12) h.plain rfl f.origin
        (le 1 2 ++ zeros 3 ++ le 4 (u32 b 4)) out
      exact ⟨_, g, took.trans (congrArg _ (State.sendWitness_sends (s := a1) _ _ w0 a0 u0)), gtype, gdest, gbody, gout, frame⟩
  · have took := (execWitnessAckReceived_here h hr type kind).trans (congrArg _
      (State.onWitnessAck_one (s := a1) len z1 only num))
    refine ⟨fun holder ack => ?_, fun o ho holder ack => ?_⟩
    · exact took.trans (by rw [WitnessOut.ackedBy_only holder ack]; rfl)
    · exact took.trans (by rw [WitnessOut.ackedBy_first ho holder ack]; rfl)
  · have segment : f.body = oneSegment (u16 b 0) (relayBody f.origin (u8 b 12) 0 (u16 b 14) p) := by
      rw [oneSegment, length_relayBody]; exact body
    have took := (execRelaySegmentReceived_here h hr type).trans (congrArg _
      (State.onRelaySegment_one (s := a1) segment (by simp; omega) (by simp; omega) new room rx.port))
    rw [State.relayMessage_command a1 rx.port (hdrFrame_origin_lt h.head) port (u16_lt _ _) lo
      , State.placePkt_room (s := a1) ring] at took
    exact ⟨_, took, rfl, rfl⟩
  · intro type kind len hm hi hf u
    exact (execFoundingAnnounceReceived_here h hr type kind).trans (congrArg _
      (State.onFoundingAnnounce_follows (s := a1) len hm hi hf))
  · exact (execFoundingReadyReceived_here h hr type kind).trans (congrArg _
      (State.onFoundingReady_joins (s := a1) he len hf ht h4 hi))
  · exact ⟨rosterPart b, (execFoundingRosterReceived_here h hr type kind).trans (congrArg _
      (State.onFoundingRoster_holds (s := a1) he hm hf hp h2 h4 len)), fun n => mem_rosterPart⟩
end

section
/-! ### The fuses, the key and what is derived from them, in every instruction and every step

Five instructions set a field of `Security`; every other one leaves it as it is, by the laws of the operations it runs.
`Modifies.exec` says of every instruction what becomes of the units; here the parts that may differ are all but `.sec`. -/

namespace Sys2Proof.Machine

/-- Every part but the fuses and the key: what differs there has the fuses, the key and the matrix of before. -/
def Aspect.notSec : Set Aspect := {a | a ≠ .sec}

@[simp] theorem Aspect.mem_notSec (a : Aspect) : a ∈ Aspect.notSec ↔ a ≠ .sec := Iff.rfl

theorem modifies_notSec_iff {s t : State} : Modifies Aspect.notSec s t ↔ t.sec = s.sec := by
  constructor
  · exact fun h => h .sec (by simp)
  · intro h a ha
    obtain rfl : a = .sec := not_not.1 ha
    exact h

/-- Each next state that is answered has the fuses, the key and the matrix of `s`. -/
def KeepsSec (s : State) (o : Out) : Prop := Leads (Modifies Aspect.notSec s) o

/-- The instructions that set a field of `Security` (R76, R80, R83 to R86). -/
def setsSec : Instr → Bool
  | .secProgram _ | .secSeal _ | .secWithdrawInj _ | .svcKeyChange .. | .coreStartUp _ => true
  | _ => false

section
variable {s t u : State}

/-- An update of other fields. -/
theorem Modifies.besides (h : Modifies Aspect.notSec s t) (hs : u.sec = t.sec := by rfl) : Modifies Aspect.notSec s u :=
  h.trans (modifies_notSec_iff.2 hs)

variable (h : Modifies Aspect.notSec s t) {c : Cmd} {bank n : Nat}
include h

theorem execRecClear_keepsSec : KeepsSec s (execRecClear c t) := by
  refine h.runOpcode ?_
  dsimp only
  have h1 {r : Recorder} : Modifies Aspect.notSec s { t with rcd := r } := h.besides
  exact .ite_st h (.ite_st h (.ite_st h (.ite_st h (.ite h1.placeNotif.anchor h1.placeNotif))))

theorem execNodeSetProfile_keepsSec : KeepsSec s (execNodeSetProfile c t) := by
  refine h.runOpcode ?_
  dsimp only
  split
  · exact h
  · generalize recorded : (if _ = t.lanes.profile then t else _) = u
    have h1 : Modifies Aspect.notSec s u := recorded ▸ .ite h h.profileRecord
    exact .ite_st h (.ite_st h (.ite_st h1.same h1.same))

theorem execColdCandidateTimer_keepsSec : KeepsSec s (execColdCandidateTimer t) := by
  refine .next ?_
  split
  · refine .ite h.same ?_
    split
    · exact .ite h.startFabric h
    · exact h
  · exact h

theorem execLoggedEpochReplay_keepsSec : KeepsSec s (execLoggedEpochReplay t) := by
  refine .next ?_
  split
  · extract_lets e near i v r1 v' repl s1
    have hv : Modifies Aspect.notSec s v' := .take h.evalCore
    clear_value v'
    have h1 : Modifies Aspect.notSec s s1 := .dropInputs (.absentReplay hv.same)
    exact .ite (.ite h.caughtUp (.ite h1.answerReseeded.answerAll h)) h
  · exact h

theorem execConversionResult_keepsSec {r : ConvResult} : KeepsSec s (execConversionResult bank n r t) := by
  refine .next ?_
  dsimp only
  refine .ite h ?_
  split
  · split
    · exact .ite h h.lateResult
    · exact .ite h h.workingResult
  split
  · exact .ite h h.roverResult
  · exact h

theorem execClampConduction_keepsSec {b : Bool} : KeepsSec s (execClampConduction bank n b t) := by
  refine .next ?_
  extract_lets i k now owner report s1 s2
  have h1 : Modifies Aspect.notSec s s1 := h.setBank
  have h2 : Modifies Aspect.notSec s s2 := by
    clear_value owner
    dsimp only [s2]
    split
    · exact h1.setChan
    · exact h1
  exact .ite h (.ite h.setBank (.ite h2.chanEvent h2))

theorem execHousekeepingReading_keepsSec {tA tB : Option Word} {w : Word} :
    KeepsSec s (execHousekeepingReading bank tA tB w n t) := by
  refine .next ?_
  extract_lets x ga gb na nb fa fb gap both apart together dis s1 s2 s3
  have h1 : Modifies Aspect.notSec s s1 := h.setBank
  have h2 : Modifies Aspect.notSec s s2 := .ite h1.cjEvent (.ite h1.cjEvent h1)
  have h3 : Modifies Aspect.notSec s s3 := .ite h2.cjEvent (.ite h2.cjEvent h2)
  exact .ite h (.ite h3.cjEvent (.ite h3.cjEvent h3))

theorem execChanRestore_keepsSec : KeepsSec s (execChanRestore c t) := by
  refine h.runOpcode ?_
  extract_lets ch b free k
  clear_value free
  refine .ite_st h (.ite_st h ?_)
  split
  · exact h
  extract_lets s1 s2 s3
  have h3 : Modifies Aspect.notSec s s3 :=
    h.takeRover.setChan.checkRovers.startSchedules.startConversion.setChan.setSlice
  clear_value s3
  exact h3.readInstruments.chanEvent

theorem execSetpointRefresh_keepsSec {frame : BitVec 64} : KeepsSec s (execSetpointRefresh bank frame t) := by
  refine .next ?_
  extract_lets b now s1 s2
  have h2 : Modifies Aspect.notSec s s2 := .foldl h.setBank fun _ _ h => .ite h.setLoop.preRaise h
  exact .ite h (.ite h2.chanEvent h2)

theorem execHartResponseReceived_keepsSec {bs : Bytes} {b : Bool} : KeepsSec s (execHartResponseReceived n bs b t) := by
  refine .next (.ite h ?_)
  dsimp only
  split
  · exact .ite h.setLoop.setLoop (.ite h.setLoop (.ite h.setLoop.takeResponse h.setLoop.failAttempt))
  · exact .ite h.setLoop.setLoop h.setLoop
  · exact h.setLoop.failAttempt
  · exact h.setLoop

theorem execDioFilterCount_keepsSec {b : Bool} : KeepsSec s (execDioFilterCount n b t) := by
  refine .next ?_
  extract_lets k c n st s1 s2
  have h2 : Modifies Aspect.notSec s s2 := .ite h.setCell h.setCell.setCell
  exact .ite h (.ite h2.publishDio h2)

theorem execPanelIdentityRead_keepsSec {id : Option PanelId} : KeepsSec s (execPanelIdentityRead n id t) := by
  refine .next (.ite h ?_)
  split
  · exact .ite h.setPanel.cutOff.dispEvent.showPanels h.setPanel
  · extract_lets other bad s0 s1 s2 s3 s4 s5
    have h1 : Modifies Aspect.notSec s s1 := .setPanel (.ite h.cutOff h)
    have h2 : Modifies Aspect.notSec s s2 := .ite h1.dispEvent h1
    have h3 : Modifies Aspect.notSec s s3 := .ite h2.dispEvent h2
    have h4 : Modifies Aspect.notSec s s4 := .ite h3.dispEvent h3
    have h5 : Modifies Aspect.notSec s s5 := .ite h4.cutOff h4
    split <;> exact h5.panelTemp.showPanels

theorem execAgeMeasurement_keepsSec {site : Nat} {w : Word} : KeepsSec s (execAgeMeasurement n site w t) := by
  refine .next (.ite h ?_)
  split
  · dsimp only
    split
    · exact h.measure.raiseCore.noteState
    · exact h.measure
  · exact h.measure
  · exact h.measure
  · dsimp only
    split
    · exact h.measure.measure
    · exact h.measure
  · exact h
  · dsimp only
    split
    · exact .ite (.measure h.same) h
    · exact h
  · exact h.measure
  · exact h.measure

theorem execClockMonitorTrip_keepsSec {f : ClockFinding} : KeepsSec s (execClockMonitorTrip f n t) := by
  refine .next (.ite h ?_)
  extract_lets s0 clk s1 clk'
  have h0 : Modifies Aspect.notSec s s0 := h.noteOffset
  split
  · exact h0
  extract_lets trip
  have h1 : Modifies Aspect.notSec s s1 := h0.besides
  split
  · exact .ite h0 (.ite h1.tripRef h1.besides)
  · exact .ite h0 (.ite h1.tripRef (.failBosc h1.besides))
  · exact .ite h1.tripRef h0

theorem execXoRetry_keepsSec {runs windows : List (Nat × Nat)} {offsets : List (Nat × Int)} :
    KeepsSec s (execXoRetry runs windows offsets t) := by
  refine .next (.ite h ?_)
  extract_lets clk s1 onFabric clk' s2
  have h1 : Modifies Aspect.notSec s s1 := h.besides
  have h2 : Modifies Aspect.notSec s s2 := h1.besides
  dsimp only [State.takeFree]
  exact .ite (.ite h2.orderlySwitch (.ite h2.takeFree.forceSwitch.leaveIsland h2.takeFree.forceSwitch)) h1

theorem execSupplyLoss_keepsSec {mv : Nat} : KeepsSec s (execSupplyLoss mv n t) := by
  have h1 : Modifies Aspect.notSec s { t with pw.mvOr := mv } := h.besides
  exact .next (.ite h (.ite h1.powerFail (.ite h1.oscillatorsOff (.ite h1.besides h1.dropClocks.oscillatorsOff))))

theorem execDramUncorrectable_keepsSec {address : Word} : KeepsSec s (execDramUncorrectable address t) := by
  refine .next ?_
  split
  · exact h
  extract_lets location action pw s1 s2 s3
  have h1 : Modifies Aspect.notSec s s1 := h.besides
  exact .ite h (.ite h1.commitRec.coreRestart (.ite h1.commitRec.abandon.startReseed h1.commitRec.abandon))

theorem execCfgBegin_keepsSec : KeepsSec s (execCfgBegin c t) := by
  refine h.runOpcode ?_
  extract_lets p r x cfg s1 next cfg2 s2 s3
  have h2 : Modifies Aspect.notSec s s2 := h.besides
  have h3 : Modifies Aspect.notSec s s3 := .ite h2.eraseRegion.setDir h2
  exact .ite_st h (.ite_st h (.ite_st h (.ite_st h (.ite_st h h3))))

theorem execCfgCommit_keepsSec : KeepsSec s (execCfgCommit c t) := by
  refine h.runSilent ?_
  extract_lets p
  refine .ite h.reply ?_
  split
  · exact h.reply
  refine .ite h.reply ?_
  extract_lets k s1 s2
  have h1 : Modifies Aspect.notSec s s1 := .reply h.besides
  clear_value s1
  have h2 : Modifies Aspect.notSec s s2 := by
    dsimp only [s2]
    split
    · exact h1.supersede
    · exact h1
  exact .ite h2.besides h1.runCommit

theorem execFlashProgramDone_keepsSec : KeepsSec s (execFlashProgramDone n t) := by
  refine .next (.ite h ?_)
  split
  · exact h
  extract_lets cfg s1 cfg1 s2
  have h1 : Modifies Aspect.notSec s s1 := .programmed h.besides
  have h2 : Modifies Aspect.notSec s s2 :=
    .ite h1.activateLocal (.ite h1.activateInStart.complete (.complete (.notify h1.besides)))
  exact h2.promote

theorem execNodePrepareOff_keepsSec : KeepsSec s (execNodePrepareOff c t) := by
  refine h.runSilent (.ite h.reply ?_)
  extract_lets s1 pw
  have h1 : Modifies Aspect.notSec s s1 := h.reply
  clear_value s1
  split
  · exact h1.complete
  · exact h1.same
  · exact .prepareStep (.disarmAll (.thaw h1.besides))

theorem execEpochEvaluate_keepsSec {r : EvalReport} : KeepsSec s (execEpochEvaluate r t) := by
  refine .next (.ite h ?_)
  split
  · exact h.idleCoils
  · exact .ite (.ite h.evalIsland h) (.ite h.judgeOwn.idleCoils.reseedTest
      (.ite h.sendAggregate.evalEpoch h.sendAggregate.idleCoils))

theorem execInputIncomplete_keepsSec : KeepsSec s (execInputIncomplete t) := by
  refine .next ?_
  split
  · exact h
  dsimp only
  split
  · have h1 {a b : Nat} {bs bs' : Bytes} {l e : Nat} : Modifies Aspect.notSec s
        (({ t with repl.incomplete := a } : State).logNotifyAt b bs l e bs') := .logNotifyAt h.same
    exact .ite (.ite h1.failReseed.startReseed h1.same) h
  · exact h

theorem exec_keepsSec (i : Instr) (hi : setsSec i = false) : KeepsSec s (exec i t) := by
  unfold exec
  cases i with
  | nodeIdentify | nodeRingStatus | nodeLanes | callStatus | fabStatus | timeRead | chanCj | dispStatus | nodeClocks | nodeStatus
  | ageLedger | cfgStatus | injStatus | secPorts | secFuses => exact h.runPlain
  | tagRead | tagReadRange | alarmList | alarmGroupList | alarmBundle | alarmEdges | fabMembers | chanRead | chanMap | loopStatus
  | dioRead | recInfo => exact h.runOpcode (.ite_st h h)
  | alarmAck | alarmShelve | alarmUnshelve | alarmSetOos | alarmClearOos | alarmReset | alarmAckBundle | callDeadman
  | timeSetSystem | snapSchedule | cfgActivate => exact h.runAction
  | callSetWatchOffer | callSetWatchAccept | callSetWatchWithdraw => exact h.setWatchCmd
  | relaySegmentReceived | sealReceived | segmentAggregateReceived | segmentVoteReceived | trunkVoteReceived
  | membershipJoinReceived | tagUpdateReceived | actionReceived | digestReceived | witnessRecordReceived | witnessAckReceived
  | transferRequestReceived | transferBlockReceived | transferEndReceived | transferAbortReceived | transferReadyReceived
  | snapshotFrameReceived | linkHelloReceived | delayReqReceived | delayRespReceived | timeAnnounceReceived | timeSyncReceived
  | foundingAnnounceReceived | foundingReadyReceived | foundingRosterReceived => exact .next (.ite h.arrive h)
  | nodeSubscribe => exact h.runOpcode (.ite_st h (.ite_st h.same (.ite_st h (.ite_st h.same (.ite_st h h.same)))))
  | nodeSetProfile => exact execNodeSetProfile_keepsSec h
  | callRelayTest => exact h.runOpcode (.ite_st h (.ite_st h (.relays h (by simp))))
  | snapRead => refine h.runOpcode ?_; dsimp only; refine .ite_st h ?_; split; exacts [h, .ite_st h h]
  | chanRetire => exact h.runOpcode (.ite_st h (.ite_st h h.retireChan))
  | chanRestore => exact execChanRestore_keepsSec h
  | chanCheck =>
    exact h.runSilent (.ite h.reply (.ite h.reply (.ite h.reply (.ite h.reply.setChan.noVisit h.reply.setChan.setBank))))
  | loopTransact =>
    refine .next ?_
    dsimp only
    refine .ite h ?_
    split
    exacts [h.reply, .ite h.reply (.ite h.reply (.ite h.reply.ringDrop (.reply (.ringUsed h.same))))]
  | loopForce => exact h.runOpcode h.loopForce
  | loopForceRelease => exact h.runOpcode h.loopForce
  | dioWriteHostSet => exact h.runOpcode (h.dioWrite fun _ _ _ => .ite_st h h.setCell.setCommand)
  | dioWriteForce => exact h.runOpcode (h.dioWrite fun _ _ _ => h.endDioForce.setCell.cellEvent.dioEdge)
  | dioWriteRelease => exact h.runOpcode (h.dioWrite fun _ _ _ => h.endDioForce)
  | dioRestore => exact h.runOpcode (.ite_st h (.ite_st h h.setCell.cellEvent.showFault))
  | recRead => refine h.runOpcode ?_; dsimp only; refine .ite_st h (.ite_st h ?_); split; exacts [h, h]
  | recFreeze => exact h.runOpcode (.ite_st h (.ite_st h (.ite_st h (.ite_st h (.commitRec h.same)))))
  | recThaw => exact h.runOpcode (.ite_st h h.thaw)
  | recClear => exact execRecClear_keepsSec h
  | timeSetWallmap => refine h.runOpcode (.ite_st h ?_); dsimp only; split; exacts [h, .log h.same]
  | dispShowPage => exact h.runOpcode (.ite_st h (.ite_st h (.ite_st h h.setPanel.renderNow)))
  | dispClear => exact h.runOpcode (.ite_st h (.ite_st h h.setPanel))
  | nodePrepareOff => exact execNodePrepareOff_keepsSec h
  | ageReplan => exact h.runSilent (.ite h.reply h.reply.startReplan)
  | cfgBegin => exact execCfgBegin_keepsSec h
  | cfgWrite => refine h.runOpcode ?_; dsimp only; refine .ite_st h ?_; split; exacts [h, .ite_st h h.writeSession]
  | cfgCommit => exact execCfgCommit_keepsSec h
  | cfgAbandon =>
    refine h.runOpcode ?_
    dsimp only
    refine .ite_st h (.ite_st h.besides ?_)
    split
    exacts [h.supersede, .ite_st h h]
  | injArm =>
    exact h.runOpcode (.ite_st h.refuseAuthority (.ite_st h.refuseAuthority (.ite_st h
      (.ite_st h (.ite_st h (.logNotify (.setInj h.disarm (by simp))))))))
  | injDisarm => exact h.runOpcode (.ite_st h (.foldl h fun _ _ h => .ite h.disarm h))
  | secProgram => cases hi
  | secSeal => cases hi
  | secWithdrawInj => cases hi
  | hostDatagramReceived => exact .next (.ite h (.ite h.dropDatagram (.ite h.same h.placePkt)))
  | arpRequest => exact .next (.ite (.ports h (by simp [Ports.sizes])) h)
  | icmpEchoRequest => exact .next (.ite h (.ite h.answerEcho h.dropDatagram))
  | svcBytesReceived => exact .next (.ite (.svcScan h.same) h)
  | svcPacketTimeout => exact .next (.ite (.svcScan h.same) h)
  | usbEnumeration => exact .next (.ite (.ports h (by simp [Ports.sizes])) h)
  | duplicateWindowExpiry => exact .next (.ite h.expireWindows h)
  | subscriptionLapsed => exact .next (.ite (.foldl h.same fun _ _ h => h.pushNotif) h)
  | relayReassemblyTimeout => exact .next (.ite h.same h)
  | relayReplyTimeout => exact .next (.ite (.foldl h.same fun _ _ h => h.refusePkt) h)
  | epochEnd => refine .next ?_; split; exacts [.ite h (.ite h.besides h.endEpoch), h]
  | sealSend => exact .next (.ite h.sealEpoch h)
  | tagUpdateFraming => exact .next (.ite h.frameAll h)
  | segmentAggregateSend => exact .next (.ite h.sendAggregate h)
  | segmentVote => refine .next ?_; split; exacts [.ite (.judgeOwn (.castVote (.castVote h.same))) h, h]
  | trunkVote => refine .next ?_; split; exacts [.ite (.judgeOwn (.castVote (.castVote h.same))) h, h]
  | epochEvaluate => exact execEpochEvaluate_keepsSec h
  | inputIncomplete => exact execInputIncomplete_keepsSec h
  | noEvaluationTimeout => exact .next (.ite (.ite (.startReseed (.membershipFault h.same)) (.membershipFault h.same)) h)
  | alarmActionPending => exact .next (.ite (.foldl h.same fun _ _ h => h.reply) h)
  | witnessResend => exact .next (.ite (.foldl h.same fun _ _ h => h.resendOne) h)
  | transferBlockSend => exact .next (.ite (.ite (.foldl h fun _ _ h => h.sendBlock) h.abortProvider) h)
  | providerSearch => exact .next h.search
  | transferRetry => exact .next h.search
  | transferTimeout => refine .next ?_; split; exacts [.ite h.abandon h, h]
  | loggedEpochReplay => exact execLoggedEpochReplay_keepsSec h
  | unknownFrameReceived => exact .next (.ite h.arrive h)
  | linkSyncAcquired => exact .next (.ite h (.ite h.setPort.portTo h.setPort))
  | linkSyncLost => exact .next (.ite h.setPort.portTo h.setPort)
  | linkHelloSend => exact .next (.ite (.foldl h fun _ _ h => .ite h.setPort.sendLocal h) h)
  | helloLossTimeout => exact .next (.ite h.portTo h)
  | portHoldExpiry => exact .next (.ite h.portTo h)
  | quietPhaseBoundary => exact .next (.ite (.foldl h.same fun _ _ h => h.quietPort) h)
  | delayMeasure => exact .next (.ite (.foldl h fun _ _ h => .ite h (.ite h.setPort.setPort.sendLocal h.setPort)) h)
  | timeAnnounceSend => exact .next (.ite (.originate h.same) h)
  | announceExpiry => exact .next (.ite (.chooseMaster h.same) h)
  | timeSyncSend => exact .next (.ite (.foldl h fun _ _ h => .ite h.setPort.sendSync h) h)
  | upstreamTimeout => refine .next (.ite ?_ h); split <;> exact h.same
  | coldCandidateTimer => exact execColdCandidateTimer_keepsSec h
  | operatingTimePersist => exact .next (.ite h.persistTime h)
  | timeAnchor => exact .next (.ite h.anchor h)
  | founderTimer => exact .next (.ite (.same h.foundBase) h)
  | foundingAnnounceSend => refine .next ?_; split; exacts [.ite (.originate h.same) h, h]
  | foundingReadySend => refine .next ?_; split; exacts [.ite (.originate h.same) h, h]
  | conversionResult => exact execConversionResult_keepsSec h
  | pulsedRequest => refine .next ?_; dsimp only; split; exacts [.ite (.ite h.setChan.setSlice h.setChan.setChan) h, h]
  | leadTimeExpiry => exact .next (.ite (.elim h fun _ => h.startFilter) h)
  | wireCheckWindowStart => refine .next ?_; dsimp only; split; exacts [.ite (.ite h.setChan h.openWindow) h, h]
  | wireCheckWindowEnd => exact .next (.ite (.noteCheck (.ite h.setChan.judgeWindow h.setChan)) h)
  | clampConduction => exact execClampConduction_keepsSec h
  | clampFlagTimeout => exact .next (.ite h.setBank h)
  | selfCheckDone => exact .next (.ite h.selfCheck h)
  | inPlaceCheckTimer => refine .next ?_; dsimp only; refine .ite ?_ h; split; exacts [.ite h h.setChan.checkNow, h]
  | roveVisitStart => refine .next (.ite ?_ h); dsimp only; split; exacts [h.checkSlice.setBank, h.checkSlice]
  | remapHandover => refine .next ?_; split; exacts [.ite h.setChan.startConversion.setLoop h, h]
  | housekeepingReading => exact execHousekeepingReading_keepsSec h
  | loopSupplyTrack => exact .next (.ite (.foldl h fun _ _ h => h.trackSupply) h)
  | loopComplianceCheck => exact .next (.ite (.foldl h fun _ _ h => h.compliance) h)
  | loopFault => exact .next (.ite h (.ite h.setLoop.diagnostic.chanEvent (.ite h.setLoop.diagnostic.chanEvent h)))
  | driverThermalLimit => exact .next (.ite h h.readLoop.setLoop.faultTimes)
  | setpointRefresh => exact execSetpointRefresh_keepsSec h
  | holdExpired => refine .next ?_; dsimp only; split; exacts [.ite (.foldl h.setBank fun _ _ h => h.preRaise) h, h]
  | nselRead => exact .next (.ite h (.ite (.chanEvent (.foldl h.setBank.setBank fun _ _ h => h.preRaise)) h.setBank))
  | instrumentRead => exact .next (.ite h.setLoop h)
  | hartPoll => refine .next ?_; dsimp only; refine .ite ?_ h; split; exacts [h.setLoop, h.startHost]
  | carrierFreeWait => refine .next ?_; dsimp only; split; exacts [.ite (.ite h.openWindow h.setLoop) h, h]
  | hartResponseReceived => exact execHartResponseReceived_keepsSec h
  | hartResponseTimeout => refine .next ?_; split; exacts [.ite h.failAttempt h, h]
  | windowPreemption => exact .next (.ite h.openWindow.setLoop h)
  | loopForceExpiry => refine .next ?_; split; exacts [.ite h.endLoopForce.preRaise h, h]
  | dioFilterCount => exact execDioFilterCount_keepsSec h
  | fsState => exact .fault_or (.next (.ite h h.setFs))
  | fsOff => exact .next (.ite h h.fieldSupply.setFs)
  | fsRestore => refine .fault_or (.next ?_); exact .ite h (.setFs (.foldl h.fieldSupply fun _ _ h => .ite h.setCell h))
  | fsChannelResume => refine .next ?_; split; exacts [.ite h.setCell h, h]
  | cellReset => exact .next (.ite h (.showFault (.ite h.setCell.cellEvent h.setCell)))
  | couplerRefresh => exact .next (.ite h.couplerFrame h)
  | dioHoldExpired => refine .next ?_; dsimp only; split; exacts [.ite h.setCell.dioEdge h, h]
  | hostLeaseExpiry => refine .next ?_; dsimp only; split; exacts [.ite h.setCell.setCommand.cellEvent h, h]
  | outputOverload =>
    exact .next (.ite h (.ite h.setCell.cellEvent.setCell.cellEvent.endDioForce.showFault h.setCell.cellEvent.showFault))
  | overloadRetry =>
    refine .next ?_
    dsimp only
    refine .ite h ?_
    split
    exacts [.ite h.setCell h, .ite h.setCell.cellEvent.showFault h]
  | stuckOff => exact .next (.ite h.setCell.setFault h)
  | backfeed => exact .fault_or (.next (.ite h.setFault h))
  | openLoad => exact .next (.ite h.setCell.setFault h)
  | offPulse =>
    exact .fault_or (.next (.ite h (.ite (.ite h.setCell.setCell.cellEvent.showFault h.setCell) h.setCell.cellEvent.showFault)))
  | dioForceExpiry => refine .next ?_; split; exacts [.ite h.endDioForce h, h]
  | recordWrite => exact .next (.ite (h.recordWrite fun _ _ h => h.render) h)
  | freezeExpiry => refine .next ?_; split; exacts [.ite h.thaw h, h]
  | panelIdentityRead => exact execPanelIdentityRead_keepsSec h
  | displayUpdateStart => exact .next (.ite h.tryStart h)
  | displayUpdateEnd => refine .next ?_; split; exacts [.ite h.setPanel.measure.idleRails h, h]
  | railOffTimer => refine .next ?_; split; exacts [.ite h.same h, h]
  | railFaultRetry => refine .next ?_; split; exacts [.ite (.ite h.railFault (.showPanels (.tryStart h.same))) h, h]
  | pageHoldExpiry => refine .next ?_; split; exacts [.ite h.setPanel.renderNow h, h]
  | supplyValid => exact .next (.ite h h.besides)
  | oscillatorStable => exact .next (.ite h (.ite (.ite h.besides h) (.ite h.besides h)))
  | boscAttemptTimer => exact .next (.ite (.ite h.failBosc h.besides) h)
  | clockStartDecision => exact .next (.ite h (.ite h.besides (.ite h (.ite h.besides h.enterClockless))))
  | coreStartUp => cases hi
  | startMembershipTimeout => exact .next (.ite (.startFailed h.same) h)
  | clockMonitorTrip => exact execClockMonitorTrip_keepsSec h
  | xoRetry => exact execXoRetry_keepsSec h
  | boscRetry => exact .next (.ite h (.ite (.clockEvent h.besides) h.besides))
  | woscCheck =>
    exact .next (.ite h (.ite (.ite h.besides (.clockEvent h.besides)) (.ite h.besides (.ite h.besides (.clockEvent h.besides)))))
  | supplyEvent => exact .fault_or (.next (.ite h (.ite h.besides (.diagnostic (.supplyEvent h.besides)))))
  | supplyWarning => exact .next (.ite h (.ite (.supplyEvent h.besides) (.ite (.supplyEvent h.besides) h)))
  | supplyLoss => exact execSupplyLoss_keepsSec h
  | supplyRestart => exact .next (.ite h.besides h)
  | watchdogTimeout => exact .next (.ite h.coreRestart h)
  | stoppingTimeout => refine .next ?_; split; exacts [.ite h.coreRestart h, h]
  | prepareOffStopTimer => refine .next ?_; split; exacts [.ite h.enterStopping.prepareStep h, h]
  | svcKeyChange => cases hi
  | dramUncorrectable => exact execDramUncorrectable_keepsSec h
  | dramScrub => exact .next (.ite h.same h)
  | ageMeasurement => exact execAgeMeasurement_keepsSec h
  | historySample => exact .next (.ite (.recompute h.besides) h)
  | replan => exact .next (.ite h.replan h)
  | flashProgramDone => exact execFlashProgramDone_keepsSec h
  | injDurationExpiry => refine .next ?_; split; exacts [.ite h.disarm h, h]
  | injHoldRelease => refine .next ?_; split; exacts [.ite (.releaseFrames (.setInj h (by simp))) h, h]
  | relayTestEnd => refine .next ?_; dsimp only; split; exacts [.ite (.relayTestRecord (.relays h (by simp))) h, h]
  | hostLinkChange => exact .next (.ite (.ports h (by simp [Ports.sizes])) h)
  | holdUpSpent => exact .next (.ite (.same h.dropClocks.oscillatorsOff.banksOff) h)
  | uncontainedInternalFault => exact .next (.ite h.coreRestart h)

end

end Sys2Proof.Machine
end

section
/-! ### Fuse words, and what each instruction leaves of them -/

namespace Sys2Proof.Machine

/-- A fuse word after a try to blow bits of one: the free value `Config.freeWord s.fresh` holds what does not take. -/
theorem fuse_blow (s : State) (w v : Nat) (mask : Word) : fuse (s.blow w mask) v =
    if v = w ∧ w < s.sec.fuses.length then fuse s w ||| (mask &&& ~~~(BitVec.ofNat 32 (Config.freeWord s.fresh)))
    else fuse s v :=
  nth_upd s.sec.fuses w v _

theorem fuse_blow_ne (s : State) {w v : Nat} (mask : Word) (h : v ≠ w) : fuse (s.blow w mask) v = fuse s v := by
  rw [fuse_blow, if_neg fun e => h e.1]

theorem fuse_congr {s t : State} (h : t.sec.fuses = s.sec.fuses) (v : Nat) : fuse t v = fuse s v := by rw [fuse, h, fuse]

/-- Each fuse bit that reads 1 in `s` reads 1 in `t` (R78). -/
def FusesStand (s t : State) : Prop := ∀ w i, (fuse s w).getLsbD i = true → (fuse t w).getLsbD i = true

section
variable {s t u : State}

theorem FusesStand.of_fuses (h : t.sec.fuses = s.sec.fuses) : FusesStand s t := fun w i b => by
  rwa [fuse_congr h]

theorem FusesStand.trans (h : FusesStand s t) (k : FusesStand t u) : FusesStand s u := fun w i b => k w i (h w i b)

theorem Modifies.fusesStand (h : Modifies Aspect.notSec s t) : FusesStand s t :=
  .of_fuses (congrArg Security.fuses (modifies_notSec_iff.1 h))

/-- What leaves the fuses and the key alone, after what blew bits. -/
theorem FusesStand.besides (h : FusesStand s t) (k : Modifies Aspect.notSec t u) : FusesStand s u := h.trans k.fusesStand

theorem FusesStand.blow {w : Nat} {mask : Word} (h : FusesStand s t) : FusesStand s (t.blow w mask) :=
  h.trans fun v i b => by
    rw [fuse_blow]
    split
    · next e => rw [e.1] at b; simp [b]
    · exact b

theorem FusesStand.ite {p : Prop} [Decidable p] (ht : FusesStand s t) (hu : FusesStand s u) :
    FusesStand s (if p then t else u) := by split <;> assumption

theorem FusesStand.ite_st {p : Prop} [Decidable p] {x y : Answer} (hx : FusesStand s x.st) (hy : FusesStand s y.st) :
    FusesStand s (if p then x else y).st := by split <;> assumption

theorem FusesStand.log {type : Nat} {body : Bytes} (h : FusesStand s t) : FusesStand s (t.log type body) :=
  h.besides (Modifies.refl _ t).log

theorem FusesStand.runOpcode {op : Nat} {c : Cmd} {f : State → Answer} (hf : FusesStand t (f t).st) :
    Leads (FusesStand t) (Machine.runOpcode op c t f) := by
  unfold Machine.runOpcode
  split
  · split
    · exact leads_next.2 (hf.besides (Modifies.refl _ _).replyF)
    · exact leads_next.2 (Modifies.refl _ t).reply.fusesStand
  · exact leads_next.2 (.of_fuses rfl)

end

variable (t : State) (c : Cmd)

theorem FusesStand.refl : FusesStand t t := .of_fuses rfl

theorem execSecProgram_fusesStand : Leads (FusesStand t) (execSecProgram c t) := by
  have h := FusesStand.refl t
  refine .runOpcode ?_
  dsimp only
  split
  · exact (Modifies.refl _ t).refuseAuthority.fusesStand
  · exact .ite_st h (.ite_st h (.ite_st h (.ite h.blow.blow h.blow.blow.log)))

theorem execSecSeal_fusesStand : Leads (FusesStand t) (execSecSeal c t) := by
  have h := FusesStand.refl t
  refine .runOpcode ?_
  extract_lets s1 s2 s3
  split
  · exact (Modifies.refl _ t).refuseAuthority.fusesStand
  · have h1 : FusesStand t s1 := h.blow.blow.blow
    clear_value s1
    have h2 : FusesStand t s2 := .ite (h1.trans (.of_fuses rfl)) h1
    exact .ite_st h (.ite_st h (.ite_st h (.ite_st h h2.log)))

theorem execSecWithdrawInj_fusesStand : Leads (FusesStand t) (execSecWithdrawInj c t) := by
  have h := FusesStand.refl t
  refine .runOpcode ?_
  extract_lets n s1 sec s2 s3
  split
  · exact (Modifies.refl _ t).refuseAuthority.fusesStand
  · have h1 : FusesStand t s1 := (h.besides (Modifies.refl _ t).disarmAll).blow
    clear_value s1
    have h2 : FusesStand t s2 := h1.trans (.of_fuses rfl)
    exact .ite_st h (.ite_st h h2.log)

theorem execSvcKeyChange_fusesStand (ohms heldUs : Nat) : Leads (FusesStand t) (execSvcKeyChange ohms heldUs t) := by
  have turned (closed : Bool) : FusesStand t (t.keyTurned closed) := .of_fuses (by rw [State.keyTurned_frame])
  exact leads_next.2 (.ite (.refl t) (.ite (turned _) ((turned _).besides (Modifies.refl _ _).disarmAll)))

/-- At a start the fuses are read and nothing is blown (R80). -/
theorem execCoreStartUp_fusesStand (r : StartReport) : Leads (FusesStand t) (execCoreStartUp r t) := by
  refine leads_next.2 ?_
  extract_lets fail s1 again s1' s2 pw2 cfg2 s3 cfg3 repaired cfg4 s4 s6 pw6
  have read (u : State) (h : FusesStand t u) : FusesStand t u.readFuses :=
    .ite (h.trans (.of_fuses rfl)) (.log (h.trans (.of_fuses rfl)))
  have h1 : Modifies Aspect.notSec t s1' :=
    .foldl (Modifies.refl _ t).openRecorder.firstRecords fun _ _ h => .ite h h.loseDie
  have h2 : FusesStand t s2 := (read _ (Modifies.ite h1 h1.holdUpTest).fusesStand).besides (Modifies.refl _ _).endForces
  clear_value s2
  have h3 : Modifies Aspect.notSec s2 s3 := (Modifies.refl _ _).startLanes
  clear_value s3
  have hr : Modifies Aspect.notSec s2 repaired := h3.repairSelectors
  clear_value repaired
  have h4 : Modifies Aspect.notSec s2 s4 := hr.besides
  have h6 : Modifies Aspect.notSec s2 s6 := h4.unsealedRecord.openLedger.loadFirmware.restartDisplay
  clear_value s6
  exact .ite (.refl t) (.ite (h2.besides (Modifies.refl _ _).besides) (h2.besides (.ite h3.besides (.ite (.startFailed h3.besides)
    (.ite h6.runImage (.startFailed (.judgePorts h6.besides)))))))

/-- No instruction restores a fuse: three blow bits, one turns the key, one reads the fuses, the others keep `Security`. -/
theorem exec_fusesStand (i : Instr) : Leads (FusesStand t) (exec i t) := by
  cases i with
  | secProgram c => exact execSecProgram_fusesStand t c
  | secSeal c => exact execSecSeal_fusesStand t c
  | secWithdrawInj c => exact execSecWithdrawInj_fusesStand t c
  | svcKeyChange ohms heldUs => exact execSvcKeyChange_fusesStand t ohms heldUs
  | coreStartUp r => exact execCoreStartUp_fusesStand t r
  | _ => exact fun u e => (exec_keepsSec (Modifies.refl _ t) _ rfl u e).fusesStand

/-- Nor does a microsecond of the node's own time, with the command it takes from the rings. -/
theorem tick_fusesStand : Leads (FusesStand t) (tick t) := by
  have h1 : Modifies Aspect.notSec t t.advanceTime.traffic.consequences :=
    (Modifies.refl _ t).advanceTime.traffic.consequences
  have h2 := h1.intake.fusesStand
  unfold tick
  dsimp only
  split
  · split
    · next e => exact fun u k => (by rwa [e] at h2 : FusesStand t _).trans (exec_fusesStand _ _ u k)
    · next e => exact leads_next.2 (by rwa [e] at h2)
  · exact leads_next.2 h1.fusesStand

end Sys2Proof.Machine

open Sys2Proof.Machine in
/-- Settles O5: what a command leaves of the fuses says `exec_fusesStand`, and what an idle step leaves `tick_fusesStand`. -/
theorem stepNeverRestoresFuse : Obligations.StepNeverRestoresFuse := by
  intro s t e
  unfold step at e
  split at e
  · exact tick_fusesStand s t e
  · next i q _ => exact FusesStand.trans (.of_fuses rfl) (exec_fusesStand { s with pending := q } i t e)
end

section
/-! ### SEC.FUSES -/

namespace Sys2Proof.Machine

/-- A flags byte is the first flag and twice the byte of the rest. -/
theorem flagBits_cons (b : Bool) (l : List Bool) : flagBits (b :: l) = b.toNat + 2 * flagBits l := by
  have shifted (l : List Bool) (k : Nat) :
      ((l.zipIdx (k + 1)).map fun p => if p.1 then 2 ^ p.2 else 0).sum
        = 2 * ((l.zipIdx k).map fun p => if p.1 then 2 ^ p.2 else 0).sum := by
    induction l generalizing k with
    | nil => rfl
    | cons b l ih =>
      simp only [List.zipIdx_cons, List.map_cons, List.sum_cons, ih, Nat.mul_add]
      cases b <;> simp [Nat.pow_succ, Nat.mul_comm]
  simp only [flagBits, List.zipIdx_cons, List.map_cons, List.sum_cons, shifted]
  cases b <;> rfl

theorem testBit_flagBits (l : List Bool) (n : Nat) : (flagBits l).testBit n = l.getD n false := by
  induction l generalizing n with
  | nil => simp [flagBits]
  | cons b l ih =>
    rw [flagBits_cons]
    cases n with
    | zero => cases b <;> simp [Nat.testBit_zero]
    | succ n =>
      have half : (b.toNat + 2 * flagBits l) / 2 = flagBits l := by cases b <;> simp; omega
      rw [Nat.testBit_succ, half, ih]; rfl

theorem flagBits_lt (l : List Bool) : flagBits l < 2 ^ l.length := by
  induction l with
  | nil => simp [flagBits]
  | cons b l ih =>
    rw [flagBits_cons, List.length_cons, Nat.pow_succ]
    have := b.toNat_lt
    omega

/-- The fields of one size of a list, one behind the other. -/
theorem sub_flatMap {α : Type} (f : α → Bytes) {k : Nat} (hf : ∀ a, (f a).length = k) {l : List α} {i : Nat}
    (hi : i < l.length) : sub (l.flatMap f) (k * i) k = f l[i] := by
  induction l generalizing i with
  | nil => simp at hi
  | cons a l ih =>
    rw [List.flatMap_cons]
    cases i with
    | zero => rw [Nat.mul_zero, sub_append_left _ _ _ _ (by simp [hf]), ← hf a, sub_zero_self]; rfl
    | succ i =>
      have hi : i < l.length := by simpa using hi
      rw [sub_append_right _ _ _ _ (by rw [hf, Nat.mul_succ]; omega), hf, Nat.mul_succ, Nat.add_sub_cancel, ih hi]
      rfl

theorem u8_append_right {a b : Bytes} {off : Nat} (h : a.length ≤ off) : u8 (a ++ b) off = u8 b (off - a.length) := by
  rw [u8, sub_append_right a b off 1 h, u8]

/-- The fuse words as SEC.FUSES answers them. -/
def fuseWords (s : State) : Bytes := (List.range 32).flatMap fun w => le 4 (fuse s w).toNat

theorem length_fuseWords (s : State) : (fuseWords s).length = 128 := by simp [fuseWords]

theorem u32_fuseWords (s : State) {w : Nat} (h : w < 32) : u32 (fuseWords s) (4 * w) = (fuse s w).toNat := by
  rw [u32, fuseWords, sub_flatMap _ (fun _ => length_le 4 _) (by simpa using h), List.getElem_range, leNat_le4 _ (fuse s w).isLt]

theorem testBit_mismatchMask (s : State) {p : Nat} (h : p < 8) :
    (mismatchMask s).testBit p = true ↔ fuse s p ≠ fuse s (8 + p) := by
  rw [mismatchMask, testBit_flagBits]
  simp [h]

theorem mismatchMask_lt (s : State) : mismatchMask s < 256 :=
  lt_of_lt_of_eq (flagBits_lt _) (by rw [List.length_map, List.length_range]; rfl)

/-- The four byte fields behind them. -/
def fuseCounts (s : State) : Bytes :=
  le 1 (sealBits s) ++ le 1 (injBits s) ++ le 1 (mismatchMask s) ++ le 1 (if identMismatch s then 1 else 0)

theorem secFusesData_eq (s : State) : secFusesData s = fuseWords s ++ fuseCounts s := by
  simp only [secFusesData, fuseWords, fuseCounts, List.append_assoc]

theorem u8_secFusesData (s : State) : u8 (secFusesData s) 128 = sealBits s ∧ u8 (secFusesData s) 129 = injBits s
    ∧ u8 (secFusesData s) 130 = mismatchMask s ∧ u8 (secFusesData s) 131 = if identMismatch s then 1 else 0 := by
  have field (k : Nat) : u8 (secFusesData s) (128 + k) = u8 (fuseCounts s) k := by
    have words := length_fuseWords s
    rw [secFusesData_eq, u8_append_right (by omega), words, Nat.add_sub_cancel_left]
  have seal_lt : sealBits s < 256 := Nat.lt_of_le_of_lt List.countP_le_length (by decide)
  have inj_lt : injBits s < 256 := Nat.lt_of_le_of_lt List.countP_le_length (by decide)
  have mask_lt := mismatchMask_lt s
  refine ⟨(field 0).trans ?_, (field 1).trans ?_, (field 2).trans ?_, (field 3).trans ?_⟩
  · simpa [fuseCounts, u8, sub, le, leNat, zeros] using seal_lt
  · simpa [fuseCounts, u8, sub, le, leNat, zeros] using inj_lt
  · simpa [fuseCounts, u8, sub, le, leNat, zeros] using mask_lt
  · split <;> simp [fuseCounts, *, u8, sub, le, leNat, zeros]

end Sys2Proof.Machine

open Sys2Proof.Machine in
/-- Settles O9: SEC.FUSES answers `secFusesData`, whose field are read back at their places. -/
theorem fuseWordsAreReported : Obligations.FuseWordsAreReported := by
  intro s c ha hp blown
  obtain ⟨t, run, answers, frame⟩ := runPlain_answers ha hp 0x0F02 secFusesData
  obtain ⟨seals, injs, mask, ident⟩ := u8_secFusesData s
  refine ⟨t, _, run, answers, ?_, fun w h => ?_, seals, injs, mask ▸ mismatchMask_lt s
    , fun n h => mask ▸ testBit_mismatchMask s h, ident.trans ?_, frame⟩
  · simp [secFusesData_eq, fuseCounts, length_fuseWords]
  · have words := length_fuseWords s
    rw [secFusesData_eq, u32, sub_append_left _ _ _ _ (by omega)]
    exact u32_fuseWords s h
  · simp only [identMismatch, decide_eq_true_eq, ne_eq, ← not_and_or, ite_not]
end

section
/-! ### SEC.PROGRAM, SEC.SEAL and SEC.WITHDRAW_INJ -/

namespace Sys2Proof.Machine

/-- A command is refused with a status, and all but the reply is as it was (R37). -/
def Refuses (s : State) (c : Cmd) (op st : Nat) (o : Out) : Prop :=
  ∃ t, o = .next t ∧ Answers s t c op st 0 [] ∧ t = { s with ports := t.ports }

section
variable {s : State} {c : Cmd} (ha : Admitted s c) {op : Nat} {f : State → Answer}
include ha

theorem runOpcode_refuses {st : Nat} (hf : f s = refuse s st) : Refuses s c op st (runOpcode op c s f) := by
  rw [runOpcode_admitted ha, hf]
  exact ⟨_, rfl, State.replyF_answers s c op st [] 0 ha.ring⟩

/-- A refusal for want of authority is answered and counted (R82, R89). -/
theorem runOpcode_denies (key : Bool)
    (hf : f s = refuseAuthority s c (if key then Status.keyRequired else Status.notPermittedPort)) :
    ∃ t, runOpcode op c s f = .next t ∧ Denies s t c op key := by
  rw [runOpcode_admitted ha, hf]
  cases key <;> exact ⟨_, rfl, State.replyF_replies_of op _ [] 0 ha.ring rfl rfl, rfl⟩

end

/-! #### What the fuses read -/

/-- The bits of a fuse word that `t` reads and `s` does not are of the mask, and what `s` reads `t` reads. -/
def BlownWithin (s t : State) (w : Nat) (mask : Word) : Prop := ∀ i,
  ((fuse s w).getLsbD i = true → (fuse t w).getLsbD i = true)
    ∧ ((fuse t w).getLsbD i = true → (fuse s w).getLsbD i = true ∨ mask.getLsbD i = true)

theorem BlownWithin.of_fuse {s t u : State} {w : Nat} {mask : Word} (h : BlownWithin s t w mask) (e : fuse u w = fuse t w) :
    BlownWithin s u w mask := fun i => e ▸ h i

/-- One try after another, at any words, each within a part of the mask. -/
theorem BlownWithin.blow {s t : State} {v w : Nat} {m mask : Word} (h : BlownWithin s t v mask) (hm : m &&& mask = m) :
    BlownWithin s (t.blow w m) v mask := by
  intro i
  have part : m.getLsbD i = true → mask.getLsbD i = true := fun b => by
    rw [← hm, BitVec.getLsbD_and, Bool.and_eq_true] at b
    exact b.2
  obtain ⟨stands, within⟩ := h i
  rw [fuse_blow]
  split
  · next e =>
    rw [← e.1]
    simp only [BitVec.getLsbD_or, BitVec.getLsbD_and, Bool.or_eq_true, Bool.and_eq_true]
    exact ⟨fun b => .inl (stands b), fun b => b.elim within fun b => .inr (part b.1)⟩
  · exact ⟨stands, within⟩

theorem BlownWithin.refl (s : State) (w : Nat) (mask : Word) : BlownWithin s s w mask := fun _ => ⟨id, .inl⟩

theorem popcount_eq_zero {x : Word} : popcount x = 0 ↔ x = 0 := by
  rw [popcount, List.countP_eq_zero]
  constructor
  · intro h
    refine BitVec.eq_of_getLsbD_eq fun i hi => ?_
    simpa [BitVec.getLsbD] using h i (List.mem_range.2 hi)
  · rintro rfl
    simp

/-- No bit is newly blown exactly where the word reads as before. -/
theorem BlownWithin.popcount_new {s t : State} {w : Nat} {mask : Word} (h : BlownWithin s t w mask) :
    popcount (fuse t w &&& ~~~(fuse s w)) = 0 ↔ fuse t w = fuse s w := by
  rw [popcount_eq_zero]
  constructor
  · intro e
    refine BitVec.eq_of_getLsbD_eq fun i hi => Bool.eq_iff_iff.2 ⟨fun b => ?_, (h i).1⟩
    have := congrArg (BitVec.getLsbD · i) e
    simpa [b, hi] using this
  · intro e
    rw [e, BitVec.and_not_self]

theorem fuses_eq_iff {s t : State} (hl : t.sec.fuses.length = s.sec.fuses.length) :
    t.sec.fuses = s.sec.fuses ↔ ∀ v, fuse t v = fuse s v := by
  refine ⟨fuse_congr, fun h => List.ext_getElem hl fun v h1 h2 => ?_⟩
  simpa [fuse, nth, List.getElem?_eq_getElem h1, List.getElem?_eq_getElem h2] using h v

/-! #### What a command that is not refused does -/

/-- SEC.PROGRAM tries both words of a pair (R83). -/
def State.pairBlown (s : State) (w w2 : Nat) (mask : Word) : State := (s.blow w mask).blow w2 mask

/-- SEC.SEAL tries its bits one by one, and the fused matrix applies once two are blown (R84, R85). -/
def State.sealBlown (s : State) : State := ((s.blow 20 0x100).blow 20 0x200).blow 20 0x400
def State.sealing (s : State) : State := if 2 ≤ sealBits s.sealBlown then s.sealBlown.deriveAuthority else s.sealBlown

/-- SEC.WITHDRAW_INJ disarms, blows, and allows no injector from the second bit on (R86). -/
def State.injBlown (s : State) : State := (s.disarmAll 5).blow 20 0x7
def State.allowInj (s : State) : State := { s with sec.injAllowed := decide (injBits s ≤ 1) }
def State.withdrawn (s : State) : State := s.injBlown.allowInj

theorem State.fuse_allowInj (s : State) (v : Nat) : fuse s.allowInj v = fuse s v := rfl
theorem State.allowInj_injAllowed (s : State) : s.allowInj.sec.injAllowed = decide (injBits s ≤ 1) := rfl

/-- The fuses are blown once the injectors are disarmed; no more is done to these. -/
theorem withdrawn_inj (s : State) : s.withdrawn.inj = (s.disarmAll 5).inj ∧ s.withdrawn.rcd = (s.disarmAll 5).rcd := by
  unfold State.withdrawn State.injBlown
  generalize s.disarmAll 5 = x
  exact ⟨rfl, rfl⟩

/-- The second word of a pair (Table 03-3). -/
def copyWord (w : Nat) : Nat := if w ≤ 7 then 8 + w else w + 2

/-- The payload of SEC.PROGRAM is in range (R83). -/
def programForm (p : Bytes) : Prop := p.length = 8 ∧ allZero p 1 3 = true ∧ (u8 p 0 ≤ 7 ∨ u8 p 0 = 16 ∨ u8 p 0 = 17)

theorem not_programForm_iff {p : Bytes} :
    ¬ programForm p ↔ p.length ≠ 8 ∨ (!allZero p 1 3) = true ∨ (7 < u8 p 0 ∧ u8 p 0 ≠ 16 ∧ u8 p 0 ≠ 17) := by
  simp only [programForm, not_and_or, not_or, Nat.not_le, Bool.not_eq_true', Bool.not_eq_true, ne_eq]

section
variable {s : State} {c : Cmd} (ha : Admitted s c)
include ha

section
variable (key : Bool) (hg : programGate c s = some (if key then Status.keyRequired else Status.notPermittedPort))
include hg

theorem execSecProgram_denies : ∃ t, execSecProgram c s = .next t ∧ Denies s t c 0x0F40 key :=
  runOpcode_denies ha key (by simp only [hg])

theorem execSecSeal_denies : ∃ t, execSecSeal c s = .next t ∧ Denies s t c 0x0F41 key :=
  runOpcode_denies ha key (by simp only [hg])

theorem execSecWithdrawInj_denies : ∃ t, execSecWithdrawInj c s = .next t ∧ Denies s t c 0x0F42 key :=
  runOpcode_denies ha key (by simp only [hg])

end

variable (hg : programGate c s = none)
include hg

/-! SEC.PROGRAM on `SVC` with the key closed -/

theorem execSecProgram_malformed (hf : ¬ programForm c.payload) :
    Refuses s c 0x0F40 Status.paramRange (execSecProgram c s) :=
  runOpcode_refuses ha (by simp only [hg]; rw [if_pos (not_programForm_iff.1 hf)])

section
variable (hf : programForm c.payload)
include hf

theorem execSecProgram_sealed (hs : s.sec.sealed = true) :
    Refuses s c 0x0F40 Status.fuseSealed (execSecProgram c s) :=
  runOpcode_refuses ha (by simp only [hg]; rw [if_neg (mt not_programForm_iff.2 (not_not.2 hf)), if_pos hs])

variable (hs : s.sec.sealed = false)
include hs

theorem execSecProgram_conditions (hc : fuseConditions s = false) :
    Refuses s c 0x0F40 Status.fuseConditions (execSecProgram c s) :=
  runOpcode_refuses ha (by
    simp only [hg]
    rw [if_neg (mt not_programForm_iff.2 (not_not.2 hf))]
    simp [hs, hc])

/-- Both words are tried, and FUSE_PROGRAM is written where a bit is newly blown. -/
theorem execSecProgram_blows (hc : fuseConditions s = true) : ∃ body,
    let w := u8 c.payload 0
    let mask := word32 c.payload 4
    let u := s.pairBlown w (copyWord w) mask
    execSecProgram c s = .next (
      (if popcount (fuse u w &&& ~~~(fuse s w)) + popcount (fuse u (copyWord w) &&& ~~~(fuse s (copyWord w))) = 0 then u
        else u.log 0x0520 body).replyF c 0x0F40
        (if fuse u w &&& mask = mask ∧ fuse u (copyWord w) &&& mask = mask then Status.ok else Status.fuseVerify)
        (le 4 (fuse u w).toNat ++ le 4 (fuse u (copyWord w)).toNat) 0) := by
  have run : execSecProgram c s = _ := runOpcode_admitted ha 0x0F40 _
  simp only [hg] at run
  rw [if_neg (mt not_programForm_iff.2 (not_not.2 hf))] at run
  simp only [hs, hc, Bool.not_true, Bool.false_eq_true, if_false, decide_eq_true_eq] at run
  exact ⟨_, run⟩

end

/-! SEC.SEAL -/

theorem execSecSeal_malformed (hl : c.payload.length ≠ 4) : Refuses s c 0x0F41 Status.paramRange (execSecSeal c s) :=
  runOpcode_refuses ha (by simp [hg, hl])

section
variable (hl : c.payload.length = 4)
include hl

theorem execSecSeal_sealed (hs : s.sec.sealed = true) : Refuses s c 0x0F41 Status.fuseSealed (execSecSeal c s) :=
  runOpcode_refuses ha (by simp [hg, hl, hs])

variable (hs : s.sec.sealed = false)
include hs

theorem execSecSeal_conditions (hc : fuseConditions s = false) :
    Refuses s c 0x0F41 Status.fuseConditions (execSecSeal c s) :=
  runOpcode_refuses ha (by simp [hg, hl, hs, hc])

variable (hc : fuseConditions s = true)
include hc

theorem execSecSeal_mismatch
    (hm : mismatchMask s ≠ 0 ∨ identMismatch s = true ∨ crc32c (copyOne s) ≠ u32 c.payload 0) :
    Refuses s c 0x0F41 Status.fuseVerify (execSecSeal c s) :=
  runOpcode_refuses ha (by simp only [hg, hl, hs, hc]; rw [if_neg (by simp), if_neg (by simp), if_neg (by simp), if_pos hm])

theorem execSecSeal_blows (hm : mismatchMask s = 0) (hi : identMismatch s = false)
    (hv : crc32c (copyOne s) = u32 c.payload 0) : ∃ body, execSecSeal c s = .next ((s.sealing.log 0x0521 body).replyF c 0x0F41
      (if sealBits s.sealBlown = 3 then Status.ok else Status.fuseVerify) [] 0) := by
  have run : execSecSeal c s = _ := runOpcode_admitted ha 0x0F41 _
  simp only [hg, hl, hs, hc, hm, hi, hv, ne_eq, not_true_eq_false, Bool.not_true, Bool.false_eq_true, or_self, if_false] at run
  exact ⟨_, run⟩

end

/-! SEC.WITHDRAW_INJ -/

theorem execSecWithdrawInj_malformed (hl : c.payload.length ≠ 0) :
    Refuses s c 0x0F42 Status.paramRange (execSecWithdrawInj c s) :=
  runOpcode_refuses ha (by simp only [hg]; rw [if_pos hl])

variable (hl : c.payload.length = 0)
include hl

theorem execSecWithdrawInj_conditions (hc : fuseConditions s = false) :
    Refuses s c 0x0F42 Status.fuseConditions (execSecWithdrawInj c s) :=
  runOpcode_refuses ha (by simp only [hg, hl, hc]; rfl)

theorem execSecWithdrawInj_blows (hc : fuseConditions s = true) : ∃ body,
    execSecWithdrawInj c s = .next ((s.withdrawn.log 0x0524 body).replyF c 0x0F42
      (if injBits s.injBlown = 3 then Status.ok else Status.fuseVerify) [] 0) := by
  have run : execSecWithdrawInj c s = _ := runOpcode_admitted ha 0x0F42 _
  simp only [hg, hl, hc, ne_eq, not_true_eq_false, Bool.not_true, Bool.false_eq_true, if_false] at run
  exact ⟨_, run⟩

/-- The reply and the record leave what the fuses and the injectors were given. -/
theorem execSecWithdrawInj_sec (hc : fuseConditions s = true) :
    ∃ t, execSecWithdrawInj c s = .next t ∧ t.sec = s.withdrawn.sec := by
  obtain ⟨body, run⟩ := execSecWithdrawInj_blows ha hg hl hc
  exact ⟨_, run, by simp⟩

end

end Sys2Proof.Machine
end

section
/-! #### What is left of the fuses, the injectors and the records -/

namespace Sys2Proof.Machine

/-- A record and a reply after work that left the ports, the node's number and the core. -/
theorem State.log_replyF_ends {s u : State} {c : Cmd} (ha : Admitted s c) (op st type : Nat) (d body : Bytes)
    (hp : u.ports = s.ports) (hn : u.node = s.node) (hr : u.core = .running) :
    ∃ t, (u.log type body).replyF c op st d 0 = t ∧ Answers s t c op st 0 d ∧ t.sec = u.sec ∧ Logs u t [type]
      ∧ t = { u with ports := t.ports, rcd := t.rcd } := by
  refine ⟨_, rfl, State.replyF_answers_of s _ c op st d 0 ha.ring (by simp [hp]) (by simp [hn]), by simp
    , State.log_logs u type body hr, ?_⟩
  have frame : u.log type body = { u with rcd := (u.log type body).rcd } := State.enqueue_frame u _
  generalize (u.log type body).rcd = r at frame
  rw [frame]
  rfl

section
variable {s : State} {w w2 : Nat} {mask : Word}

theorem pairBlown_within (v : Nat) : BlownWithin s (s.pairBlown w w2 mask) v mask :=
  ((BlownWithin.refl s v mask).blow (BitVec.and_self)).blow (BitVec.and_self)

theorem fuse_pairBlown_ne {v : Nat} (h : v ≠ w) (h2 : v ≠ w2) : fuse (s.pairBlown w w2 mask) v = fuse s v :=
  (fuse_blow_ne _ mask h2).trans (fuse_blow_ne s mask h)

theorem length_pairBlown : (s.pairBlown w w2 mask).sec.fuses.length = s.sec.fuses.length := by
  simp [State.pairBlown, State.blow]

/-- The count of FUSE_PROGRAM is 0 exactly where every fuse reads as before. -/
theorem pairBlown_new : popcount (fuse (s.pairBlown w w2 mask) w &&& ~~~(fuse s w))
      + popcount (fuse (s.pairBlown w w2 mask) w2 &&& ~~~(fuse s w2)) = 0
    ↔ (s.pairBlown w w2 mask).sec.fuses = s.sec.fuses := by
  rw [Nat.add_eq_zero_iff, (pairBlown_within w).popcount_new, (pairBlown_within w2).popcount_new, fuses_eq_iff length_pairBlown]
  refine ⟨fun ⟨e, e2⟩ v => ?_, fun h => ⟨h w, h w2⟩⟩
  by_cases hw : v = w
  · rw [hw, e]
  by_cases hw2 : v = w2
  · rw [hw2, e2]
  exact fuse_pairBlown_ne hw hw2

end

/-- FUSE_PROGRAM is written where a bit is newly blown, and nothing else is done to the recorder. -/
theorem pairBlown_logged {s : State} (hr : s.core = .running) (w w2 : Nat) (mask : Word) (body : Bytes) :
    let u := s.pairBlown w w2 mask
    ∃ r, (if popcount (fuse u w &&& ~~~(fuse s w)) + popcount (fuse u w2 &&& ~~~(fuse s w2)) = 0 then u else u.log 0x0520 body)
        = { u with rcd := r } ∧ Logs s { u with rcd := r } (if u.sec.fuses = s.sec.fuses then [] else [0x0520]) := by
  intro u
  by_cases h : u.sec.fuses = s.sec.fuses
  · rw [if_pos (pairBlown_new.2 h), if_pos h]
    exact ⟨s.rcd, rfl, .nil_of_eq rfl⟩
  · rw [if_neg (mt pairBlown_new.1 h), if_neg h]
    exact ⟨_, State.enqueue_frame u _, State.log_logs u 0x0520 body hr⟩

theorem sealBits_congr {s t : State} (h : fuse t 20 = fuse s 20) : sealBits t = sealBits s := by simp only [sealBits, h]
theorem injBits_congr {s t : State} (h : fuse t 20 = fuse s 20) : injBits t = injBits s := by simp only [injBits, h]

theorem sealBlown_within (s : State) : BlownWithin s s.sealBlown 20 0x700 :=
  (((BlownWithin.refl s 20 0x700).blow (by decide)).blow (by decide)).blow (by decide)

theorem fuse_sealBlown_ne (s : State) {v : Nat} (h : v ≠ 20) : fuse s.sealBlown v = fuse s v :=
  (fuse_blow_ne _ _ h).trans ((fuse_blow_ne _ _ h).trans (fuse_blow_ne s _ h))

/-- What the fuses give is derived anew from the second SEAL bit on (R85). -/
theorem sealing_frame {s : State} (hs : s.sec.sealed = false) : ∃ x : Security,
    s.sealing = { s.sealBlown with sec := x } ∧ x.fuses = s.sealBlown.sec.fuses
      ∧ x.sealed = decide (2 ≤ sealBits s.sealBlown) := by
  unfold State.sealing
  split
  · exact ⟨_, rfl, rfl, rfl⟩
  · next h => exact ⟨_, rfl, rfl, hs.trans (decide_eq_false h).symm⟩

/-- `t` differs from `s` at most in the injectors and the records of their disarming (R534). -/
def Disarmed (s t : State) : Prop :=
  t = { s with inj := t.inj, rcd := t.rcd } ∧ ∃ l, Logs s t l ∧ ∀ x ∈ l, x = 0x0541

theorem Disarmed.trans {s t u : State} (h : Disarmed s t) (k : Disarmed t u) : Disarmed s u := by
  obtain ⟨hf, l, hl, hx⟩ := h
  obtain ⟨kf, m, km, kx⟩ := k
  refine ⟨by rw [kf, hf], l ++ m, hl.trans km, fun x hm => ?_⟩
  exact (List.mem_append.1 hm).elim (hx x) (kx x)

/-- An injector that holds no frame is disarmed without one being released. -/
theorem State.disarm_disarmed {s : State} (hr : s.core = .running) (i cause : Nat)
    (h : ∀ a, nth s.inj i = some a → a.held = []) : Disarmed s (s.disarm i cause) := by
  unfold State.disarm
  split
  · next a e =>
    have none_held (u : State) : u.releaseFrames i (a.held.map (·.1)) = u := by
      rw [h a e]; exact ite_self u
    rw [none_held]
    refine ⟨?_, [0x0541], State.logNotifyAt_logs { s with inj := _ } _ _ _ _ _ hr, by simp⟩
    rw [State.logNotify_eq, State.enqueue_frame]
  · exact ⟨rfl, [], .nil_of_eq rfl, by simp⟩

theorem State.disarmAll_disarmed {s : State} (hr : s.core = .running) (cause : Nat)
    (h : ∀ i a, nth s.inj i = some a → a.held = []) : Disarmed s (s.disarmAll cause) := by
  have disarmed (l : List Nat) : ∀ u : State, u.core = .running → (∀ i a, nth u.inj i = some a → a.held = [])
      → Disarmed u (l.foldl (fun (acc : State) i => acc.disarm i cause) u) := by
    induction l with
    | nil => exact fun u _ _ => ⟨rfl, [], .nil_of_eq rfl, by simp⟩
    | cons j l ih =>
      intro u hr h
      have first := State.disarm_disarmed hr j cause (h j)
      refine first.trans (ih _ ?_ fun i a e => ?_)
      · rw [first.1]; exact hr
      · rw [State.nth_disarm_inj] at e
        split at e
        · exact absurd e (by simp)
        · exact h i a e
  exact disarmed _ s hr h

/-- Once all are disarmed there is no injector, in range or not. -/
theorem State.disarmAll_none {s : State} (hu : Units s) (cause j : Nat) : nth (s.disarmAll cause).inj j = none := by
  by_cases h : j < 8
  · exact State.disarmAll_inj s cause h
  · have kept : Modifies (Aspect.only [.cfg, .fabTime, .epoch, .inj]) s (s.disarmAll cause) := (Modifies.refl _ s).disarmAll
    have units : Units (s.disarmAll cause) := kept .units (by simp) hu
    rw [nth, List.getD_eq_default _ _ (by rw [units.inj]; omega)]
    rfl

theorem injBlown_within {s : State} (h : (s.disarmAll 5).sec = s.sec) : BlownWithin s s.injBlown 20 0x7 :=
  ((BlownWithin.refl s 20 0x7).of_fuse (fuse_congr (congrArg _ h) 20)).blow (by decide)

theorem fuse_injBlown_ne {s : State} (h : (s.disarmAll 5).sec = s.sec) {v : Nat} (hv : v ≠ 20) : fuse s.injBlown v = fuse s v :=
  (fuse_blow_ne _ _ hv).trans (fuse_congr (congrArg _ h) v)

/-- Where the injectors are disarmed and nothing more, SEC.WITHDRAW_INJ leaves the rest as it was. -/
theorem withdrawn_frame {s : State} (h : Disarmed s (s.disarmAll 5)) : s.withdrawn = { s with
    fresh := s.withdrawn.fresh, sec := s.withdrawn.sec, inj := s.withdrawn.inj, rcd := s.withdrawn.rcd } := by
  have frame := h.1
  unfold State.withdrawn State.injBlown
  generalize s.disarmAll 5 = x at frame
  generalize x.inj = inj, x.rcd = rcd at frame
  subst frame
  rfl

end Sys2Proof.Machine

open Sys2Proof.Machine in
/-- Settles O35: each refusal has its lemma; what a command that blows leaves is read off the state before its record and
its reply (`State.pairBlown`, `State.sealing`, `State.withdrawn`). -/
theorem fusesAreBlownWithinTheMask : Obligations.FusesAreBlownWithinTheMask := by
  intro s c ha blown refuses denies inRange
  have hr := ha.running
  refine ⟨fun port => ?_, fun port key => ?_, fun port key => ?_, fun port key hc => ?_⟩
  · have hg : programGate c s = some Status.notPermittedPort := if_pos port
    exact ⟨execSecProgram_denies ha false hg, execSecSeal_denies ha false hg, execSecWithdrawInj_denies ha false hg⟩
  · have hg : programGate c s = some Status.keyRequired := by simp [programGate, port, key]
    exact ⟨execSecProgram_denies ha true hg, execSecSeal_denies ha true hg, execSecWithdrawInj_denies ha true hg⟩
  · have hg : programGate c s = none := by simp [programGate, port, key]
    refine ⟨execSecProgram_malformed ha hg, execSecProgram_sealed ha hg, execSecProgram_conditions ha hg
      , execSecSeal_malformed ha hg, execSecSeal_sealed ha hg, execSecSeal_conditions ha hg, execSecWithdrawInj_malformed ha hg
      , execSecWithdrawInj_conditions ha hg, fun hl hc => ?_⟩
    obtain ⟨t, run, sec⟩ := execSecWithdrawInj_sec ha hg hl hc
    refine ⟨t, run, ?_⟩
    have read : fuse t 20 = fuse s.injBlown 20 := (fuse_congr (congrArg Security.fuses sec) 20).trans (State.fuse_allowInj _ 20)
    rw [injBits_congr read, sec, State.withdrawn, State.allowInj_injAllowed]
  have hg : programGate c s = none := by simp [programGate, port, key]
  refine ⟨?_, fun hl hs => ⟨execSecSeal_mismatch ha hg hl hs hc, fun hm hi hv => ?_⟩, fun hl held => ?_⟩
  · rintro w mask rfl rfl hl hz hw hs w2
    obtain ⟨body, run⟩ := execSecProgram_blows ha hg ⟨hl, hz, hw⟩ hs hc
    obtain ⟨r, frame, logs⟩ := pairBlown_logged hr (u8 c.payload 0) w2 (word32 c.payload 4) body
    exact ⟨_, run.trans (congrArg _ (congrArg (fun x : State => x.replyF c 0x0F40 _ _ 0) frame))
      , State.replyF_answers_of s _ c _ _ _ 0 ha.ring rfl rfl, pairBlown_within _, pairBlown_within _
      , fun v h h2 => fuse_pairBlown_ne h h2, logs, rfl⟩
  · obtain ⟨body, run⟩ := execSecSeal_blows ha hg hl hs hc hm hi hv
    obtain ⟨x, frame, fuses, sealed⟩ := sealing_frame hs
    obtain ⟨t, ht, answers, sec, logs, tframe⟩ := State.log_replyF_ends ha 0x0F41 _ 0x0521 [] body
      (u := s.sealing) (by rw [frame]; rfl) (by rw [frame]; rfl) (by rw [frame]; exact hr)
    have read (v : Nat) : fuse t v = fuse s.sealBlown v := by rw [fuse, sec, frame, fuse, ← fuses]
    have bits := sealBits_congr (read 20)
    refine ⟨t, run.trans (congrArg _ ht), by rw [bits]; exact answers, (sealBlown_within s).of_fuse (read 20)
      , fun v h => (read v).trans (fuse_sealBlown_ne s h), ?_, (Logs.nil_of_eq ?_).trans logs, ?_⟩
    · rw [bits, sec, frame, sealed]
    · rw [frame]; rfl
    · rw [tframe, frame]; rfl
  · obtain ⟨body, run⟩ := execSecWithdrawInj_blows ha hg hl hc
    have disarmed := State.disarmAll_disarmed hr 5 held
    have frame := withdrawn_frame disarmed
    obtain ⟨dframe, l, disarmLogs, all⟩ := disarmed
    have same : (s.disarmAll 5).sec = s.sec := (congrArg State.sec dframe :)
    obtain ⟨t, ht, answers, sec, logs, tframe⟩ := State.log_replyF_ends ha 0x0F42 _ 0x0524 [] body
      (u := s.withdrawn) (congrArg State.ports frame :) (congrArg State.node frame :) ((congrArg State.core frame :).trans hr)
    have read (v : Nat) : fuse t v = fuse s.injBlown v :=
      (fuse_congr (congrArg Security.fuses sec) v).trans (State.fuse_allowInj _ v)
    have bits := injBits_congr (read 20)
    refine ⟨t, l, run.trans (congrArg _ ht), by rw [bits]; exact answers, (injBlown_within same).of_fuse (read 20)
      , fun v h => (read v).trans (fuse_injBlown_ne same h), ?_, fun j => ?_, ?_, all, ?_⟩
    · rw [bits, sec, State.withdrawn, State.allowInj_injAllowed]
    · rw [tframe]
      exact (congrArg (nth · j) (withdrawn_inj s).1).trans (State.disarmAll_none ha.units 5 j)
    · simpa using (disarmLogs.trans (.nil_of_eq (withdrawn_inj s).2)).trans logs
    · generalize s.withdrawn = u at frame tframe
      rw [tframe, frame]
end

section
/-! ### Opcodes that observe a range -/

namespace Sys2Proof.Machine

/-- A command answers OK with data that begin with a head, and all but the reply is as it was (R42). -/
def Reads (s : State) (c : Cmd) (op : Nat) (head : Bytes) (o : Out) : Prop :=
  ∃ t flags rest, o = .next t ∧ Answers s t c op Status.ok flags (head ++ rest) ∧ t = { s with ports := t.ports }

section
variable {s : State} {c : Cmd} (ha : Admitted s c)
include ha

/-- An opcode whose work leaves the state and answers OK observes whatever its data begin with. -/
theorem runOpcode_reads {o : Out} {op fl : Nat} {f : State → Answer} {head d : Bytes} (ho : o = runOpcode op c s f)
    (hf : f s = { st := s, data := d, flags := fl }) (hd : head <+: d) : Reads s c op head o := by
  obtain ⟨rest, rfl⟩ := hd
  rw [ho, runOpcode_admitted ha, hf]
  exact ⟨_, fl, rest, rfl, State.replyF_answers s c op Status.ok (head ++ rest) fl ha.ring⟩

/-- SNAP.READ of a bank that stands, from an offset within it (R277). -/
theorem execSnapRead_reads {b : Bank} (hl : c.payload.length = 8) (hz : allZero c.payload 2 2 = true)
    (h4 : u32 c.payload 4 % 4 = 0) (hb : bankOf s (u16 c.payload 0) = .ok b) (ho : u32 c.payload 4 < b.bytes.length) :
    Reads s c 0x1001 (zeros 2 ++ le 2 (u16 c.payload 0) ++ zeros 2 ++ le 4 b.target) (execSnapRead c s) := by
  refine runOpcode_reads ha (d := ?data) (fl := ?flags) (execSnapRead.eq_def c s)
    ((if_neg (by simp [hl, hz, h4])).trans ?found) ?head
  case found =>
    simp only [hb]
    exact if_neg (Nat.not_le.2 ho)
  case head => simp

/-- CHAN.MAP answers how many banks it maps: all four for 0xFF (R317). -/
theorem execChanMap_reads (hl : c.payload.length = 4) (hz : allZero c.payload 1 3 = true)
    (hb : u8 c.payload 0 ≤ 3 ∨ u8 c.payload 0 = 0xFF) :
    Reads s c 0x0502 (zeros 2 ++ le 1 (if u8 c.payload 0 = 0xFF then 4 else 1) ++ zeros 3) (execChanMap c s) := by
  refine runOpcode_reads ha (execChanMap.eq_def c s) (if_neg ?_) ?head
  case head =>
    rw [apply_ite List.length]
    exact ⟨_, rfl⟩
  simp only [hz, Bool.not_true, Bool.false_eq_true, false_or]
  omega

/-- FAB.MEMBERS of segments that exist (R278). -/
theorem execFabMembers_reads (hl : c.payload.length = 4) (hz : allZero c.payload 2 2 = true) (hn : u8 c.payload 1 ≠ 0)
    (h64 : u8 c.payload 1 ≤ 64) (hr : u8 c.payload 0 + u8 c.payload 1 ≤ 64) :
    Reads s c 0x0A02 (zeros 2 ++ le 4 (evalField s)) (execFabMembers c s) := by
  refine runOpcode_reads ha (execFabMembers.eq_def c s) (if_neg ?_) (by simp [fabMembersData])
  simp only [hz, Bool.not_true, Bool.false_eq_true, false_or]
  omega

end

end Sys2Proof.Machine

open Sys2Proof.Machine in
/-- Settles O10: a payload in range passes its opcode's check, so `runOpcode_reads` applies to the data answered. -/
theorem rangeReadsOnlyReply : Obligations.RangeReadsOnlyReply := by
  intro s c ha reads p evaluated
  subst p evaluated
  refine ⟨fun hf => ?tagRead, fun hl hn hr => ?tagReadRange, fun hl hs hs' hp hp2 hp' hz ht => ?alarmList
    , fun hl hn hr => ?alarmGroupList, fun hl hg hz ht => ?alarmBundle, fun hl ht he => ?alarmEdges
    , execFabMembers_reads ha, fun b => execSnapRead_reads ha, fun hr => ?chanRead, execChanMap_reads ha
    , fun hr => ?loopStatus, fun hl hz hn hn' hr => ?dioRead⟩
  case tagRead => exact runOpcode_reads ha (execTagRead.eq_def c s) (if_neg (by simp [hf])) ⟨_, rfl⟩
  case tagReadRange => exact runOpcode_reads ha (execTagReadRange.eq_def c s) (if_neg (by omega)) (by simp)
  case alarmList => exact runOpcode_reads ha (execAlarmList.eq_def c s) (if_neg (by omega)) (by simp)
  case alarmGroupList => exact runOpcode_reads ha (execAlarmGroupList.eq_def c s) (if_neg (by omega)) (by simp)
  case alarmBundle => exact runOpcode_reads ha (execAlarmBundle.eq_def c s) (if_neg (by omega)) (by simp)
  case alarmEdges => exact runOpcode_reads ha (execAlarmEdges.eq_def c s) (if_neg (by omega)) (by simp)
  case chanRead => exact runOpcode_reads ha (execChanRead.eq_def c s) (if_pos hr) (by simp [chanReadData])
  case loopStatus => exact runOpcode_reads ha (execLoopStatus.eq_def c s) (if_pos hr) (by simp [loopStatusData])
  case dioRead => exact runOpcode_reads ha (execDioRead.eq_def c s) (if_pos ⟨hl, hz, hn, hn', hr⟩) (by simp [dioReadData])
end

section
/-! ### Acting commands -/

namespace Sys2Proof.Machine

/-- A command is published whole as an action stamped with a fabric time, and awaited; all else is as it was (R119, R126). -/
def Published (s : State) (c : Cmd) (us op : Nat) (o : Out) : Prop :=
  ∃ t, o = .next t
    ∧ t.repl.outActs = s.repl.outActs ++ [{ stamp := us, opcode := op, number := s.repl.actNumber, port := c.origPort
                                            origin := s.node, payload := c.payload }]
    ∧ t.repl.awaits = s.repl.awaits ++ [{ cmd := c, opcode := op, number := s.repl.actNumber, epoch := epochOf s us
                                          sentAt := s.tm.now, pending := false }]
    ∧ t.repl.actNumber = (s.repl.actNumber + 1) % 0x10000
    ∧ t = { s with repl := { s.repl with outActs := t.repl.outActs, awaits := t.repl.awaits, actNumber := t.repl.actNumber } }

/-- With fabric time an action is published at it. -/
theorem State.publishAction_published {s : State} {us : Nat} (h : fabUs s = some us) (c : Cmd) (op : Nat) :
    Published s c us op (.next (s.publishAction c op)) := by
  simp only [State.publishAction, h]
  exact ⟨_, rfl, rfl, rfl, rfl, rfl⟩

section
variable {s : State} {c : Cmd} (ha : Admitted s c) {o : Out} {op : Nat} {format : Bytes → Bool} {check : State → Option Nat}
  (ho : o = runAction op c s format check)
include ha ho

/-- In the replica a command that passes its format and its checks is published (R119, R120). -/
theorem runAction_published {us : Nat} (hm : mayPublish s = true) (hu : fabUs s = some us)
    (hf : format c.payload = true) (hc : check s = none) : Published s c us op o := by
  have run : o = .next (s.publishAction c op) := by
    rw [ho, runAction, runSilent_admitted ha]
    simp [hf, hm, hc]
  exact run ▸ State.publishAction_published hu c op

/-- Outside the replica the format alone decides what a command is refused with (R120). -/
theorem runAction_refuses (hm : mayPublish s = false) {good : Bool} (hf : format c.payload = good) :
    Refuses s c op (if good then Status.notInReplica else Status.paramRange) o := by
  have run : o = .next (s.replyF c op (if good then Status.notInReplica else Status.paramRange) [] 0) := by
    rw [ho, runAction, runSilent_admitted ha]
    cases good <;> simp [hf, hm]
  exact ⟨_, run, State.replyF_answers s c op _ [] 0 ha.ring⟩

end

/-- No entry names an unused tag. -/
theorem unusedCheck_none {s : State} {p : Bytes} (h : ∀ b ∈ entries p 4, (desc s (u32 b 0)).type ≠ 0) :
    unusedCheck p s = none := by
  simpa [unusedCheck] using h

end Sys2Proof.Machine

open Sys2Proof.Machine in
/-- Settles O12: each command is a `runAction` whose format holds and whose check finds nothing. -/
theorem actingCommandsArePublished : Obligations.ActingCommandsArePublished := by
  intro s c us ha hm hu p publishes
  subst p
  have run {o op format check} (ho : o = runAction op c s format check) (hf : format c.payload = true)
      (hc : check s = none) : Published s c us op o := runAction_published ha ho hm hu hf hc
  have watch (action : Nat) (hf : watchFormat s action c.payload = true) (hb : bound s c (u8 c.payload 4) = true) :
      Published s c us 0x0440 (setWatchCmd action c s) := run (setWatchCmd.eq_def action c s) hf (if_pos hb)
  refine ⟨fun hf => ?ack, fun hf hs => ?shelve, fun hf ht => ?oneTag, fun hf => ?reset, fun hf => ?ackBundle, watch 1, watch 2
    , watch 3, fun hl h64 hz hb => ?deadman, fun hl => ?setSystem, fun hl hc => ?schedule, run (execCfgActivate.eq_def c s)⟩
  case ack => exact run (execAlarmAck.eq_def c s) hf rfl
  case shelve => exact run (execAlarmShelve.eq_def c s) hf (List.findSome?_eq_none_iff.2 hs)
  case oneTag =>
    have hc := unusedCheck_none ht
    exact ⟨run (execAlarmUnshelve.eq_def c s) hf hc, run (execAlarmSetOos.eq_def c s) hf hc
      , run (execAlarmClearOos.eq_def c s) hf hc⟩
  case reset => exact run (execAlarmReset.eq_def c s) hf rfl
  case ackBundle => exact run (execAlarmAckBundle.eq_def c s) hf rfl
  case deadman => exact run (execCallDeadman.eq_def c s) (by simp [hl, h64, hz]) (if_pos hb)
  case setSystem => exact run (execTimeSetSystem.eq_def c s) (by simp [hl]) rfl
  case schedule => exact run (execSnapSchedule.eq_def c s) (by simp [hl]) hc

open Sys2Proof.Machine in
/-- Settles O13: each command is a `runAction`, refused by its format first and by the operating state then. -/
theorem actingCommandsOutsideTheReplicaAreRefused : Obligations.ActingCommandsOutsideTheReplicaAreRefused := by
  intro s c ha hm refused p
  have run {o op format check good} (ho : o = runAction op c s format check) (hf : format c.payload = good) :
      Refuses s c op (if good then Status.notInReplica else Status.paramRange) o := runAction_refuses ha ho hm hf
  have watch (action : Nat) := run (setWatchCmd.eq_def action c s) rfl
  exact ⟨run (execAlarmAck.eq_def c s) rfl, run (execAlarmShelve.eq_def c s) rfl, run (execAlarmUnshelve.eq_def c s) rfl
    , run (execAlarmSetOos.eq_def c s) rfl, run (execAlarmClearOos.eq_def c s) rfl, run (execAlarmReset.eq_def c s) rfl
    , run (execAlarmAckBundle.eq_def c s) rfl, watch 1, watch 2, watch 3, run (execCallDeadman.eq_def c s) rfl
    , run (execTimeSetSystem.eq_def c s) rfl, run (execSnapSchedule.eq_def c s) rfl, run (execCfgActivate.eq_def c s) rfl⟩
end

section
/-! ### CALL.RELAY_TEST and its end -/

namespace Sys2Proof.Machine

/-- The node with one relay changed. -/
def State.withRelay (s : State) (i : Nat) (f : Relay → Relay) : State :=
  { s with repl.relays := upd s.repl.relays i f }

/-- A relay put on test in epoch `cur`: energised for 200 epochs; a coil fault seen by a test that runs is kept (R205). -/
def Relay.startTest (cur : Nat) (x : Relay) : Relay :=
  { x with on := true, testEnd := some (cur + 200), testBad := x.testBad && x.testEnd.isSome }

/-- A relay whose test is over, given back to R203, which has it energised or not. -/
def Relay.endTest (on : Bool) (x : Relay) : Relay := { x with on, testEnd := none, testBad := false }

/-- The node whose relay `i` has come to the end of its test, and is energised as the call has it (R203). -/
def State.relayGivenBack (s : State) (i : Nat) : State :=
  s.withRelay i (Relay.endTest (isCaller s && nth (callDrive s) i))

/-- A relay of the node changed alone: it is as the change leaves it, and every other one as before. -/
theorem State.withRelay_relays {s : State} (hs : Units s) {i : Nat} (hi : i < 2) (f : Relay → Relay) :
    nth (s.withRelay i f).repl.relays i = f (nth s.repl.relays i)
      ∧ ∀ q, q ≠ i → nth (s.withRelay i f).repl.relays q = nth s.repl.relays q :=
  ⟨nth_upd_self _ _ _ (hs.relays ▸ hi), fun _ hq => nth_upd_ne _ _ hq⟩

/-- A command in form puts the relay it names on test on the caller, and is refused on any other node. -/
theorem execCallRelayTest_formed {s : State} {c : Cmd} {r : Nat} (ha : Admitted s c) (hr : r = 1 ∨ r = 2)
    (hl : c.payload.length = 4) (h0 : u8 c.payload 0 = r) (hz : allZero c.payload 1 3 = true) :
    execCallRelayTest c s = .next
      (if isCaller s then (s.withRelay (r - 1) (Relay.startTest s.repl.cur)).replyF c 0x0442 Status.ok [] 0
       else s.replyF c 0x0442 Status.notCaller [] 0) := by
  have formed : ¬ (c.payload.length ≠ 4 ∨ r = 0 ∨ 2 < r ∨ (!allZero c.payload 1 3) = true) := by
    simp only [hl, hz, ne_eq, not_true_eq_false, Bool.not_true, Bool.false_eq_true, or_false, false_or]
    omega
  unfold execCallRelayTest
  rw [runOpcode_admitted ha]
  simp only [h0, if_neg formed]
  cases isCaller s <;> rfl

/-- The record of a test leaves everything but the recorder. -/
theorem State.relayTestRecord_frame (s : State) (r result : Nat) :
    s.relayTestRecord r result = { s with rcd := (s.relayTestRecord r result).rcd } := State.enqueue_frame s _

/-- A test whose 200 epochs have run ends with its record, and R203 drives the relay again. -/
theorem execRelayTestEnd_due {s : State} {r e : Nat} (hc : s.core = .running) (hr : r = 1 ∨ r = 2)
    (ht : (nth s.repl.relays (r - 1)).testEnd = some e) (he : e ≤ s.repl.cur) :
    ∃ result, execRelayTestEnd r s = .next ((s.relayGivenBack (r - 1)).relayTestRecord r result) := by
  unfold execRelayTestEnd
  simp only [ht, if_pos (And.intro hc (And.intro hr he))]
  exact ⟨_, rfl⟩

end Sys2Proof.Machine

open Sys2Proof.Machine in
/-- Settles O16: a test begins and ends as a change of its relay alone (`State.withRelay_relays`), with a reply at its
begin and a record at its end. -/
theorem relayTestRunsTwoHundredEpochs : Obligations.RelayTestRunsTwoHundredEpochs := by
  intro s r hs hc hr
  have relays := State.withRelay_relays hs (i := r - 1) (by omega)
  refine ⟨fun c ha hl h0 hz => ?begins, fun e ht he => ?ends⟩
  case begins =>
    have run := execCallRelayTest_formed ha hr hl h0 hz
    cases hcall : isCaller s with
    | true =>
      rw [hcall] at run
      obtain ⟨tested, others⟩ := relays (Relay.startTest s.repl.cur)
      exact ⟨_, run, State.replyF_answers_of s _ c 0x0442 Status.ok [] 0 ha.ring rfl rfl
        , fun _ => ⟨congrArg Relay.on tested, congrArg Relay.testEnd tested⟩, nofun, others, rfl⟩
    | false =>
      rw [hcall] at run
      obtain ⟨answers, frame⟩ := State.replyF_answers s c 0x0442 Status.notCaller [] 0 ha.ring
      exact ⟨_, run, answers, nofun, fun _ => rfl, fun _ _ => rfl, frame⟩
  case ends =>
    obtain ⟨result, run⟩ := execRelayTestEnd_due hc hr ht he
    obtain ⟨given, others⟩ := relays (Relay.endTest (isCaller s && nth (callDrive s) (r - 1)))
    have logs := State.log_logs (s.relayGivenBack (r - 1)) 0x0115
    rw [State.relayTestRecord_frame] at run
    exact ⟨_, run, logs _ hc, congrArg Relay.testEnd given, congrArg Relay.on given, others, rfl⟩
end

section
/-! ### What the fabric is given of the node's own frames -/

namespace Sys2Proof.Machine

/-- To originate a frame changes what Q20 to Q23 hold, the next sequence and the high marks. -/
theorem State.originate_only (s : State) (type dest : Nat) (body : Bytes) (trunkToo : Bool) :
    s.originate type dest body trunkToo = { s with
      fab := { s.fab with out := (s.originate type dest body trunkToo).fab.out
                          frameSeq := (s.originate type dest body trunkToo).fab.frameSeq }
      ports := { s.ports with high := (s.originate type dest body trunkToo).ports.high } } := by
  unfold State.originate
  extract_lets cls f s1
  split <;> rfl

@[simp] theorem State.pushFrame_length_out (s : State) (cls : Nat) (x : TxFrame) :
    (s.pushFrame cls x).fab.out.length = s.fab.out.length := length_upd ..

@[simp] theorem State.originate_length_out (s : State) (type dest : Nat) (body : Bytes) (trunkToo : Bool) :
    (s.originate type dest body trunkToo).fab.out.length = s.fab.out.length := by
  unfold State.originate
  dsimp only
  split <;> simp

/-- A frame placed is the last on the ring of its class. -/
theorem State.pushFrame_out {s : State} {cls : Nat} (x : TxFrame) (h : cls < s.fab.out.length) :
    nth (s.pushFrame cls x).fab.out cls = nth s.fab.out cls ++ [x] := nth_upd_self _ _ _ h

theorem State.pushFrame_outUsed {s : State} {cls : Nat} (x : TxFrame) (h : cls < s.fab.out.length) :
    outUsed (s.pushFrame cls x) cls = outUsed s cls + 1 := by
  rw [outUsed, State.pushFrame_out x h, List.length_append]
  rfl

/-- A frame originated takes one descriptor for the segment and, where a bridge sends it to other segments, one for the
trunk (R220, R224). -/
theorem State.originate_outUsed {s : State} {type cls : Nat} (hc : frameClass type = some cls) (hl : cls < s.fab.out.length)
    (dest : Nat) (body : Bytes) (trunkToo : Bool) : outUsed (s.originate type dest body trunkToo) cls = outUsed s cls
      + if trunkToo && decide (bridgeRole s ≠ 0) && (dest == 0xFFFF || segOf dest != segOf s.node) then 2 else 1 := by
  unfold State.originate
  simp only [hc, Option.getD_some]
  have one (x : TxFrame) : outUsed (State.pushFrame { s with fab.frameSeq := (s.fab.frameSeq + 1) % 0x100000000 } cls x) cls
      = outUsed s cls + 1 := State.pushFrame_outUsed x hl
  split
  · rw [State.pushFrame_outUsed _ (by simpa using hl), one]
  · exact one _

end Sys2Proof.Machine
end

section
/-! ### Witness records that are sent again -/

namespace Sys2Proof.Machine

/-- From `s` to `t` the records of `out` have joined those not acknowledged, `n` WITNESS frames have gone on Q21 or wait
behind what waited, and records of the types given stand behind the recorder (R272, R273, R415). -/
structure Resends (s t : State) (out : List WitnessOut) (n : Nat) (types : List (Option Nat)) : Prop where
  out   : t.rcd.witOut = s.rcd.witOut ++ out
  waits : s.rcd.witWait <+: t.rcd.witWait
  rings : t.fab.out.length = s.fab.out.length
  used  : bridgeRole s = 0 → 1 < s.fab.out.length →
    outUsed t 1 + t.rcd.witWait.length = outUsed s 1 + s.rcd.witWait.length + n
  logs  : ∃ l : List QItem, l.map QItem.recordType = types
    ∧ t.rcd = { s.rcd with queue := s.rcd.queue ++ l, witOut := t.rcd.witOut, witWait := t.rcd.witWait }
  frame : t = { s with rcd := t.rcd, fab := { s.fab with out := t.fab.out, frameSeq := t.fab.frameSeq }
                       ports := { s.ports with high := t.ports.high } }

section
variable {s t u : State} {out out' : List WitnessOut} {n n' : Nat} {types types' : List (Option Nat)}

theorem Resends.refl (s : State) : Resends s s [] 0 [] where
  out := by simp
  waits := List.prefix_rfl
  rings := rfl
  used _ _ := rfl
  logs := ⟨[], rfl, by simp⟩
  frame := rfl

theorem Resends.core (h : Resends s t out n types) : t.core = s.core := by rw [h.frame]
theorem Resends.tm (h : Resends s t out n types) : t.tm = s.tm := by rw [h.frame]
theorem Resends.bridgeRole (h : Resends s t out n types) : bridgeRole t = bridgeRole s := by rw [h.frame]; rfl

theorem Resends.trans (h : Resends s t out n types) (k : Resends t u out' n' types') :
    Resends s u (out ++ out') (n + n') (types ++ types') where
  out := by rw [k.out, h.out, List.append_assoc]
  waits := h.waits.trans k.waits
  rings := k.rings.trans h.rings
  used hb hl := by
    have ht := h.used hb hl
    have hu := k.used (h.bridgeRole.trans hb) (h.rings.symm ▸ hl)
    omega
  logs := by
    obtain ⟨l, hl, ht⟩ := h.logs
    obtain ⟨l', hl', hu⟩ := k.logs
    refine ⟨l ++ l', by rw [List.map_append, hl, hl'], ?_⟩
    rw [ht] at hu
    rw [← List.append_assoc]
    exact hu
  frame := by
    have hu := k.frame
    rw [h.frame] at hu
    exact hu

/-- A record is kept among those not acknowledged. -/
theorem Resends.hold (h : Resends s t [] n types) (w : WitnessOut) :
    Resends s { t with rcd.witOut := t.rcd.witOut ++ [w] } [w] n types where
  out := by simp [h.out]
  waits := h.waits
  rings := h.rings
  used := h.used
  logs := by
    obtain ⟨l, hl, ht⟩ := h.logs
    exact ⟨l, hl, by conv_lhs => rw [ht]⟩
  frame := by
    have ht := h.frame
    conv_lhs => rw [ht]

/-- One WITNESS frame goes on Q21, or waits in its order (R273). -/
theorem State.sendWitness_resends (s : State) (dest : Nat) (body : Bytes) : Resends s (s.sendWitness dest body) [] 1 [] := by
  by_cases h : s.rcd.witWait = [] ∧ s.repl.outActs = [] ∧ outUsed s 1 < 256
  · obtain ⟨hw, ha, hu⟩ := h
    rw [State.sendWitness_sends dest body hw ha hu]
    have frame := s.originate_only 0x12 dest body true
    have rcd : (s.originate 0x12 dest body).rcd = s.rcd := (congrArg State.rcd frame).trans rfl
    refine ⟨by rw [rcd, List.append_nil], by rw [rcd], by simp, fun hb hl => ?_, ⟨[], rfl, by rw [rcd, List.append_nil]⟩, ?_⟩
    · rw [State.originate_outUsed (cls := 1) rfl hl, rcd]
      simp [hb, Nat.add_right_comm]
    · rw [rcd]
      exact frame
  · rw [State.sendWitness_waits dest body h]
    exact ⟨by simp, List.prefix_append .., rfl, fun _ _ => by simp [outUsed, Nat.add_assoc], ⟨[], rfl, by simp⟩, rfl⟩

theorem State.sendParts_resends (s : State) (dest : Nat) (parts : List Bytes) :
    Resends s (s.sendParts dest parts) [] parts.length [] := by
  induction parts generalizing s with
  | nil => exact .refl s
  | cons b parts ih =>
    have rest := (s.sendWitness_resends dest b).trans (ih _)
    rwa [Nat.add_comm] at rest

/-- Each holder is sent each part. -/
theorem State.sendParts_foldl_resends (s : State) (parts : List Bytes) (holders : List Nat) :
    Resends s (holders.foldl (fun acc h => acc.sendParts h parts) s) [] (holders.length * parts.length) [] := by
  induction holders generalizing s with
  | nil => simpa using Resends.refl s
  | cons h holders ih =>
    have rest := (s.sendParts_resends h parts).trans (ih _)
    rwa [Nat.add_comm, ← Nat.succ_mul] at rest

theorem State.witnessUnfiled_logs {s : State} (hr : s.core = .running) (w : WitnessOut) (side holder : Nat) :
    Logs s (s.witnessUnfiled w side holder) [0x0408] := State.logNotifyAt_logs _ _ _ _ _ _ hr

/-- Each side whose neighbour did not file the record brings its WITNESS_UNFILED (R415). -/
theorem State.witnessUnfiled_foldl_resends {s : State} (hr : s.core = .running) (w : WitnessOut) (sides : List (Nat × Nat)) :
    Resends s (sides.foldl (fun acc p => acc.witnessUnfiled w p.1 p.2) s) [] 0 (sides.map fun _ => some 0x0408) := by
  induction sides generalizing s with
  | nil => exact .refl s
  | cons p sides ih =>
    have one : Resends s (s.witnessUnfiled w p.1 p.2) [] 0 [some 0x0408] := by
      obtain ⟨l, rcd, types⟩ := State.witnessUnfiled_logs hr w p.1 p.2
      have frame : s.witnessUnfiled w p.1 p.2 = { s with rcd := (s.witnessUnfiled w p.1 p.2).rcd } := State.enqueue_frame _ _
      rw [frame, rcd]
      exact ⟨by simp, List.prefix_rfl, rfl, fun _ _ => rfl, ⟨l, types, rfl⟩, rfl⟩
    exact one.trans (ih (one.core.trans hr))

/-! #### One record, and all of them -/

/-- A record is sent again where it is due, 50 ms after it was last sent, up to three times (R272). -/
def WitnessOut.again (now : Nat) (w : WitnessOut) : Bool := !decide (now < w.sent + 50000) && decide (w.tries < 3)

/-- It is given up where it is due after that (R415). -/
def WitnessOut.givenUp (now : Nat) (w : WitnessOut) : Bool := !decide (now < w.sent + 50000) && !decide (w.tries < 3)

/-- What is then kept of it. -/
def WitnessOut.kept (now : Nat) (w : WitnessOut) : Option WitnessOut :=
  if now < w.sent + 50000 then some w
  else if w.tries < 3 then some { w with sent := now, tries := w.tries + 1 } else none

/-- Frames of one resending: each part to each neighbour that did not file the record. -/
def WitnessOut.frames (w : WitnessOut) : Nat := (w.open_.map (·.2)).dedup.length * (witnessParts w.num w.bytes).length

/-- Records of giving one up: one for each side whose neighbour did not file it. -/
def WitnessOut.unfiled (w : WitnessOut) : List (Option Nat) := w.open_.map fun _ => some 0x0408

theorem State.resendOne_resends {s : State} (hr : s.core = .running) (w : WitnessOut) :
    Resends s (s.resendOne w) (w.kept s.tm.now).toList (if w.again s.tm.now then w.frames else 0)
      (if w.givenUp s.tm.now then w.unfiled else []) := by
  have sent : Resends s ((w.open_.map (·.2)).dedup.foldl (fun acc h => acc.sendParts h (witnessParts w.num w.bytes)) s) []
      w.frames [] := s.sendParts_foldl_resends _ _
  have unfiled : Resends s (w.open_.foldl (fun acc p => acc.witnessUnfiled w p.1 p.2) s) [] 0 w.unfiled :=
    State.witnessUnfiled_foldl_resends hr w w.open_
  unfold State.resendOne WitnessOut.kept WitnessOut.again WitnessOut.givenUp
  by_cases early : s.tm.now < w.sent + 50000
  · simpa [early] using (Resends.refl s).hold w
  by_cases again : w.tries < 3
  · simpa [early, again] using sent.hold { w with sent := s.tm.now, tries := w.tries + 1 }
  · simpa [early, again] using unfiled

/-- All records, one after the other. -/
theorem State.resend_foldl_resends (ws : List WitnessOut) (s : State) (hr : s.core = .running) :
    Resends s (ws.foldl State.resendOne s) (ws.filterMap (WitnessOut.kept s.tm.now))
      ((ws.filter (WitnessOut.again s.tm.now)).map WitnessOut.frames).sum
      ((ws.filter (WitnessOut.givenUp s.tm.now)).flatMap WitnessOut.unfiled) := by
  induction ws generalizing s with
  | nil => exact .refl s
  | cons w ws ih =>
    have one := State.resendOne_resends hr w
    have all := one.trans (ih _ (one.core.trans hr))
    rw [one.tm] at all
    convert all using 1
    · rfl
    · rw [List.filterMap_cons]
      cases w.kept s.tm.now <;> rfl
    · rw [List.filter_cons]
      split <;> simp
    · rw [List.filter_cons]
      split <;> simp

end
end Sys2Proof.Machine

open Sys2Proof.Machine in
/-- Settles O44: `Resends` for each record in turn, from a state in which none is held. -/
theorem witnessRecordsAreSentAgain : Obligations.WitnessRecordsAreSentAgain := by
  intro s hu hr hf
  have all := State.resend_foldl_resends s.rcd.witOut { s with rcd.witOut := [] } hr
  obtain ⟨l, types, rcd⟩ := all.logs
  have run : exec .witnessResend s = .next (s.rcd.witOut.foldl State.resendOne { s with rcd.witOut := [] }) :=
    congrArg Host.Outcome.next (if_pos ⟨hr, by simp [hf]⟩)
  exact ⟨_, l, run, all.out, all.waits, fun hb => all.used hb (by simp [hu.fabOut]), rcd, types, all.frame⟩
end

section
/-! ### Votes on what is missing -/

namespace Sys2Proof.Machine

/-- The vote of a node on a run beyond a port: none on an empty run (Table 09-5). -/
def votesOn (s : State) (e kind port : Nat) (run : List Nat) : List Vote :=
  run.head?.toList.map fun m => { epoch := e, kind, port, run := run.length, subject := m, voter := s.node }

/-- From `s` to `t` the votes of `vs` are held, what they name is discarded from then on, and `n` frames went on Q20. -/
structure Votes (s t : State) (vs : List Vote) (named : List (Nat × Nat)) (n : Nat) : Prop where
  repl  : t.repl = { s.repl with votes := s.repl.votes ++ vs, voted := s.repl.voted ++ named }
  rings : t.fab.out.length = s.fab.out.length
  used  : outUsed t 0 = outUsed s 0 + n
  frame : t = { s with repl := t.repl, fab := { s.fab with out := t.fab.out, frameSeq := t.fab.frameSeq }
                       ports := { s.ports with high := t.ports.high } }

section
variable {s t u : State} {vs vs' : List Vote} {named named' : List (Nat × Nat)} {n n' : Nat}

theorem Votes.refl (s : State) : Votes s s [] [] 0 := ⟨by simp, rfl, rfl, rfl⟩

theorem Votes.node (h : Votes s t vs named n) : t.node = s.node := by rw [h.frame]
theorem Votes.bridgeRole (h : Votes s t vs named n) : bridgeRole t = bridgeRole s := by rw [h.frame]; rfl

theorem Votes.trans (h : Votes s t vs named n) (k : Votes t u vs' named' n') :
    Votes s u (vs ++ vs') (named ++ named') (n + n') where
  repl := by rw [k.repl, h.repl, List.append_assoc, List.append_assoc]
  rings := k.rings.trans h.rings
  used := by rw [k.used, h.used, Nat.add_assoc]
  frame := by
    have hu := k.frame
    rw [h.frame] at hu
    exact hu

/-- A MEMBERSHIP frame for all goes to the segment, and from a bridge to the trunk too where it concerns other segments. -/
theorem State.originate_votes (s : State) (body : Bytes) (trunkToo : Bool) (hl : 0 < s.fab.out.length) :
    Votes s (s.originate 0x02 0xFFFF body trunkToo) [] [] (if trunkToo && decide (bridgeRole s ≠ 0) then 2 else 1) where
  repl := by
    rw [List.append_nil, List.append_nil]
    exact (congrArg State.repl (s.originate_only 0x02 0xFFFF body trunkToo)).trans rfl
  rings := s.originate_length_out ..
  used := by simpa using State.originate_outUsed (type := 0x02) rfl hl 0xFFFF body trunkToo
  frame := by
    have frame := s.originate_only 0x02 0xFFFF body trunkToo
    generalize s.originate 0x02 0xFFFF body trunkToo = t at frame ⊢
    have repl : t.repl = s.repl := by rw [frame]
    rw [repl]
    exact frame

/-- Frames of a vote: a bridge sends one on missing segments on the trunk too (R257). -/
def voteFrames (s : State) (kind : Nat) : Nat := if kind == 3 && decide (bridgeRole s ≠ 0) then 2 else 1

theorem voteFrames_trunk (hb : bridgeRole s ≠ 0) : voteFrames s 3 = 2 := if_pos (by simpa using hb)

/-- A vote on a run that is not empty is held and sent, and what it names is discarded (R256, R257). -/
theorem State.castVote_votes (e kind port : Nat) (run : List Nat) (name : Nat → Nat) (hl : 0 < s.fab.out.length) :
    Votes s (s.castVote e kind port run (run.map name)) (votesOn s e kind port run) (run.map fun b => (e, name b))
      (voteFrames s kind * (votesOn s e kind port run).length) := by
  cases run with
  | nil => exact .refl s
  | cons m run =>
    have hold : Votes s { s with repl.votes := s.repl.votes ++ votesOn s e kind port (m :: run)
                                 repl.voted := s.repl.voted ++ (m :: run).map fun b => (e, name b) }
        (votesOn s e kind port (m :: run)) ((m :: run).map fun b => (e, name b)) 0 := ⟨rfl, rfl, rfl, rfl⟩
    have sent := hold.trans (State.originate_votes _ (le 1 kind ++ le 1 port ++ le 1 (m :: run).length ++ zeros 1 ++ le 4 e
      ++ le 2 m ++ zeros 2) (kind == 3) hl)
    rw [List.append_nil, List.append_nil] at sent
    convert sent using 1
    · simp [State.castVote, votesOn, Function.comp_def]
    · exact (Nat.mul_one _).trans (Nat.zero_add _).symm

/-- The votes beyond the two ports of a ring. -/
theorem State.castVotes_votes (e kind p q : Nat) (r r' : List Nat) (name : Nat → Nat) (hl : 0 < s.fab.out.length) :
    Votes s ((s.castVote e kind p r (r.map name)).castVote e kind q r' (r'.map name))
      (votesOn s e kind p r ++ votesOn s e kind q r') ((r ++ r').map fun b => (e, name b))
      (voteFrames s kind * (votesOn s e kind p r).length + voteFrames s kind * (votesOn s e kind q r').length) := by
  have first := State.castVote_votes e kind p r name hl
  have second := State.castVote_votes e kind q r' name (first.rings ▸ hl)
  have both := first.trans second
  simp only [votesOn, voteFrames, first.node, first.bridgeRole] at both ⊢
  rwa [List.map_append]

/-- A node that holds a replica is not judged by the votes it holds. -/
theorem State.judgeOwn_held (h : s.repl.reseed = none) : s.judgeOwn = s := if_neg (by simp [h])

theorem Votes.judgeOwn (h : Votes s t vs named n) (hr : s.repl.reseed = none) : t.judgeOwn = t :=
  State.judgeOwn_held (by rw [h.repl]; exact hr)

end

section
variable {s : State} {ns e : Nat} (ht : s.tm.fab = some ns) (hr : s.repl.reseed = none) (he : s.repl.cur - 1 = e)
  (hv : mayVote s e = true) (hl : 0 < s.fab.out.length)
include ht hr he hv hl

/-- A segment vote that is due (R256). -/
theorem execSegmentVote_due (hn : s.repl.votedSeg ≠ some e) (hd : epochStart s (e + 1) * 1000 + 320000 + xSegment s ≤ ns) :
    ∃ t, execSegmentVote s = .next t ∧ Votes { s with repl.votedSeg := some e } t
      (votesOn s e 1 0 (unsealedRun s e 0) ++ votesOn s e 1 1 (unsealedRun s e 1))
      ((unsealedRun s e 0 ++ unsealedRun s e 1).map fun b => (e, b))
      ((votesOn s e 1 0 (unsealedRun s e 0)).length + (votesOn s e 1 1 (unsealedRun s e 1)).length) := by
  have votes := State.castVotes_votes (s := { s with repl.votedSeg := some e }) e 1 0 1 (unsealedRun s e 0) (unsealedRun s e 1)
    id hl
  simp only [voteFrames, Nat.reduceBEq, Bool.false_and, Bool.false_eq_true, if_false, Nat.one_mul, List.map_id, id] at votes
  refine ⟨_, ?_, votes⟩
  rw [execSegmentVote, ht]
  simp only [he]
  rw [if_pos ⟨hv, hn, hd⟩, votes.judgeOwn hr]

/-- A trunk vote that is due (R257). -/
theorem execTrunkVote_due (hb : bridgeRole s ≠ 0) (hn : s.repl.votedTrunk ≠ some e)
    (hd : epochStart s (e + 1) * 1000 + 900000 + xSystem s ≤ ns) :
    ∃ t, execTrunkVote s = .next t ∧ Votes { s with repl.votedTrunk := some e } t
      (votesOn s e 3 2 (missingSegs s e 2) ++ votesOn s e 3 3 (missingSegs s e 3))
      ((missingSegs s e 2 ++ missingSegs s e 3).map fun g => (e, 4096 + g))
      (2 * (votesOn s e 3 2 (missingSegs s e 2)).length + 2 * (votesOn s e 3 3 (missingSegs s e 3)).length) := by
  have votes := State.castVotes_votes (s := { s with repl.votedTrunk := some e }) e 3 2 3 (missingSegs s e 2) (missingSegs s e 3)
    (4096 + ·) hl
  rw [voteFrames_trunk (s := { s with repl.votedTrunk := some e }) hb] at votes
  refine ⟨_, ?_, votes⟩
  rw [execTrunkVote, ht]
  simp only [he]
  rw [if_pos ⟨hb, hv, hn, hd⟩, votes.judgeOwn hr]

end
end Sys2Proof.Machine

open Sys2Proof.Machine in
/-- Settles O41: at each of its times a node casts the votes beyond two ports (`castVotes_votes`). -/
theorem membersVoteOnWhatIsMissing : Obligations.MembersVoteOnWhatIsMissing := by
  intro s ns hu ht hr hv
  have hl : 0 < s.fab.out.length := by simp [hu.fabOut]
  refine ⟨fun hn hd => ?_, fun hb hn hd => ?_⟩
  · obtain ⟨t, run, votes⟩ := execSegmentVote_due ht hr rfl hv hl hn hd
    refine ⟨t, run, votes.frame, votes.repl.trans ?_, votes.used.trans (Nat.add_assoc ..).symm⟩
    rw [← List.append_assoc]
    rfl
  · obtain ⟨t, run, votes⟩ := execTrunkVote_due ht hr rfl hv hl hb hn hd
    refine ⟨t, run, votes.frame, votes.repl.trans ?_, votes.used.trans (Nat.add_assoc ..).symm⟩
    rw [← List.append_assoc]
    rfl
end

section
/-! ### What a member frames: updates, its seal, the aggregate of its segment -/

namespace Sys2Proof.Machine

/-! #### Updates -/

/-- The frame that a node forms for others (Table 08-4, R220). -/
def ownFrame (s : State) (type dest : Nat) (body : Bytes) : Frame :=
  { type, dest, body, ttl := 63, origin := s.node, inc := s.tm.powerCount % 0x10000, seq := s.fab.frameSeq }

theorem State.frameAction_idle {s : State} (h : s.repl.outActs = []) : s.frameAction = s := by
  rw [State.frameAction, h]

theorem State.frameNext_idle {s : State} (hw : s.rcd.witWait = []) (ha : s.repl.outActs = []) : s.frameNext = s := by
  rw [State.frameNext, hw]
  exact State.frameAction_idle ha

theorem State.frameUpdates_idle {s : State} (h : s.repl.pending = []) : s.frameUpdates = s := by
  rw [State.frameUpdates, h]
  rfl

/-- Where no witness frame and no action waits and one batch takes all the updates that are pending, nothing more is framed. -/
theorem State.frameAll_once {s : State} (hr : s.repl.republish = false) (hw : s.rcd.witWait = []) (ha : s.repl.outActs = [])
    (hp : s.frameUpdates.repl.pending = []) : s.frameAll = s.frameUpdates := by
  have first : (List.range 256).foldl (fun acc _ => acc.frameNext) s = s :=
    List.foldl_fixed' (fun _ => State.frameNext_idle hw ha) _
  rw [State.frameAll, hr]
  simp only [Bool.false_eq_true, if_false, first]
  rw [List.range_succ_eq_map, List.foldl_cons]
  exact List.foldl_fixed' (fun _ => State.frameUpdates_idle hp) _

/-- To place a counted frame changes the slots and the counts of frames discarded (R260). -/
theorem State.placeCounted_frame (s : State) (f : CFrame) : s.placeCounted f = { s with repl := { s.repl with
    frames := (s.placeCounted f).repl.frames, lateDiscards := (s.placeCounted f).repl.lateDiscards
    earlyDiscards := (s.placeCounted f).repl.earlyDiscards } } := by
  unfold State.placeCounted
  dsimp only
  split
  all_goals
    split
    · rfl
    split
    · rfl
    split
    · rfl
    split <;> rfl

/-- The counts of an epoch, with one more frame and its entries. -/
def OwnCount.more (o : OwnCount) (seq n : Nat) : OwnCount :=
  { o with framed := o.framed + 1, entries := o.entries + n, seqs := seq :: o.seqs }

theorem ownCount_epoch (s : State) (e : Nat) : (ownCount s e).epoch = e := by
  unfold ownCount
  cases h : s.repl.own.find? (·.epoch == e) with
  | none => rfl
  | some o => simpa using List.find?_some h

/-- What counting an own frame leaves as it is, and the counts it brings (R247). -/
theorem State.countOwn_counts (s : State) (e seq n : Nat) (b : CBody) :
    (s.countOwn e seq n b).repl.pending = s.repl.pending ∧ ownCount (s.countOwn e seq n b) e = (ownCount s e).more seq n
      ∧ s.countOwn e seq n b = { s with repl := (s.countOwn e seq n b).repl } := by
  have placed := (s.setOwn ((ownCount s e).more seq n)).placeCounted_frame { epoch := e, origin := s.node, seq, body := b }
  have counted : s.countOwn e seq n b = (s.setOwn ((ownCount s e).more seq n)).placeCounted
      { epoch := e, origin := s.node, seq, body := b } := rfl
  rw [← counted] at placed
  generalize s.countOwn e seq n b = t at placed ⊢
  have own : t.repl.own = (ownCount s e).more seq n :: s.repl.own.filter (·.epoch != ((ownCount s e).more seq n).epoch) :=
    (congrArg (fun u : State => u.repl.own) placed).trans rfl
  have epoch : ((ownCount s e).more seq n).epoch = e := ownCount_epoch s e
  refine ⟨(congrArg (fun u : State => u.repl.pending) placed).trans rfl, ?_, ?_⟩
  · rw [ownCount, own]
    simp [epoch]
  · rw [placed]
    rfl

/-- A node that is no bridge places the frame it forms for its segment ports alone. -/
theorem State.originate_alone {s : State} (hb : bridgeRole s = 0) {type cls : Nat} (hc : frameClass type = some cls) (dest : Nat)
    (body : Bytes) : s.originate type dest body =
      ({ s with fab.frameSeq := (s.fab.frameSeq + 1) % 0x100000000 } : State).pushFrame cls
        { ports := [0, 1], frame := ownFrame s type dest body } := by
  unfold State.originate
  simp [hc, hb, ownFrame]

/-- The one update pending is framed, where its epoch has entries left and Q21 a descriptor (R243 to R245). -/
theorem State.frameUpdates_one {s : State} {u : Upd} (hp : s.repl.pending = [u]) (hu : outUsed s 1 < 256)
    (hq : (ownCount s (epochOf s u.stamp)).entries < (nodeEntry s s.node).quota) :
    s.frameUpdates = ({ s.originate 0x10 0xFFFF u.bytes with repl.pending := [] } : State).countOwn (epochOf s u.stamp)
      s.fab.frameSeq 1 (.updates [u]) := by
  have order : framingOrder s.repl.pending = [u] := by rw [hp]; rfl
  have batch : [u].take (min 15 ((nodeEntry s s.node).quota - (ownCount s (epochOf s u.stamp)).entries)) = [u] :=
    List.take_of_length_le (by simp; omega)
  unfold State.frameUpdates
  rw [order]
  simp [batch, hp, Nat.not_le.2 hu]

/-- The update goes to both segment ports, and is counted with its epoch. -/
theorem execTagUpdateFraming_one {s : State} {u : Upd} (hc : s.core = .running) (hm : s.repl.member = true)
    (hi : inReplica s = true) (hf : s.pw.failing = false) (hr : s.repl.republish = false) (hw : s.rcd.witWait = [])
    (ha : s.repl.outActs = []) (hb : bridgeRole s = 0) (hl : 1 < s.fab.out.length) (hp : s.repl.pending = [u])
    (hu : outUsed s 1 < 256) (hq : (ownCount s (epochOf s u.stamp)).entries < (nodeEntry s s.node).quota) :
    ∃ t, execTagUpdateFraming s = .next t ∧ t.repl.pending = []
      ∧ nth t.fab.out 1 = nth s.fab.out 1 ++ [{ ports := [0, 1], frame := ownFrame s 0x10 0xFFFF u.bytes }]
      ∧ ownCount t (epochOf s u.stamp) = (ownCount s (epochOf s u.stamp)).more s.fab.frameSeq 1
      ∧ t = { s with repl := t.repl, fab := { s.fab with out := t.fab.out, frameSeq := t.fab.frameSeq }
                     ports := { s.ports with high := t.ports.high } } := by
  have one := State.frameUpdates_one hp hu hq
  rw [State.originate_alone hb (cls := 1) rfl] at one
  obtain ⟨pending, counts, frame⟩ := State.countOwn_counts
    { State.pushFrame { s with fab.frameSeq := (s.fab.frameSeq + 1) % 0x100000000 } 1
        { ports := [0, 1], frame := ownFrame s 0x10 0xFFFF u.bytes } with repl.pending := [] }
    (epochOf s u.stamp) s.fab.frameSeq 1 (.updates [u])
  rw [← one] at pending counts frame
  have run : execTagUpdateFraming s = .next s.frameUpdates := by
    rw [execTagUpdateFraming, if_pos ⟨hc, by simp [framing, hm, hi], by simp [hf]⟩, State.frameAll_once hr hw ha pending]
  generalize s.frameUpdates = t at run pending counts frame
  refine ⟨t, run, pending, ?_, counts, ?_⟩
  · rw [frame]
    exact State.pushFrame_out _ hl
  · rw [frame]
    rfl

/-! #### The seal -/

section
variable {s : State} {e : Nat}

theorem State.prepareSeal_none (h : s.pw.prepareOff = none) : s.prepareSeal e = s := by rw [State.prepareSeal, h]

theorem State.judgeActivation_none (h : missedRegion s (e + 1) = none) : s.judgeActivation e = s := by
  rw [State.judgeActivation, h]

theorem State.latchSnapshots_nil (h : s.repl.rep.snap.slots = []) : s.latchSnapshots e = s := by
  rw [State.latchSnapshots, h]
  rfl

/-- The first seal of an epoch, where the node neither departs nor latches a snapshot. -/
theorem State.sealEpoch_first (hs : s.repl.sealed = none) (hp : sealPorts s e ≠ []) (hf : s.repl.sealFlags = 0)
    (hd : s.pw.prepareOff = none) (hm : missedRegion s (e + 1) = none) (hn : s.repl.rep.snap.slots = []) :
    s.sealEpoch e = s.firstSeal e (sealFlagsNow s) (ownCount s e).framed (sealPorts s e) := by
  unfold State.sealEpoch
  rw [hs, State.prepareSeal_none hd]
  dsimp only
  rw [State.judgeActivation_none hm, if_neg (by simp [hp, hf])]
  exact State.latchSnapshots_nil hn

theorem execSealSend_due (hc : s.core = .running) (hm : s.repl.member = true) (hi : inReplica s = true)
    (hf : s.pw.failing = false) (he : s.repl.cur = e + 1) (ht : s.tm.fab.isSome = true) (hs : s.repl.since ≤ e)
    (hlo : epochStart s (e + 1) ≤ (fabUs s).getD 0) (hhi : (fabUs s).getD 0 ≤ epochStart s (e + 1) + 50) :
    execSealSend s = .next (s.sealEpoch e) := by
  have last : s.repl.cur - 1 = e := by omega
  unfold execSealSend
  dsimp only
  rw [last, if_pos ⟨hc, ht, hm, hi, hf, by omega, hs, hlo, hhi⟩]

end

/-! #### The aggregate -/

theorem execSegmentAggregateSend_due {s : State} {e : Nat} (hc : s.core = .running) (hf : s.pw.failing = false)
    (h : aggregateDue s = some e) : execSegmentAggregateSend s =
      .next ({ s with repl.aggSent := some e }.originateTrunk 0x01 (aggregateBody s e)) := by
  rw [execSegmentAggregateSend, if_pos ⟨hc, by simp [hf]⟩, State.sendAggregate, h]

end Sys2Proof.Machine

open Sys2Proof.Machine in
/-- Settles O40: an update, the seal and the aggregate, each by what its row brings. -/
theorem membersFrameUpdatesAndSeals : Obligations.MembersFrameUpdatesAndSeals := by
  intro s hu hc hm hi hf
  have hl : s.fab.out.length = 4 := hu.fabOut
  refine ⟨fun u hp ha hw hr hb hq he => ?_, fun e he ht hs hlo hhi h0 hp hg hd hr hn => ?_, fun e he => ?_⟩
  · obtain ⟨t, run, pending, out, counts, frame⟩ := execTagUpdateFraming_one hc hm hi hf hr hw ha hb (by omega) hp hq he
    exact ⟨t, _, run, pending, rfl, rfl, rfl, rfl, rfl, rfl, out, by rw [counts]; rfl, by rw [counts]; rfl, frame⟩
  · have run := (execSealSend_due hc hm hi hf he ht hs hlo hhi).trans (congrArg _ (State.sealEpoch_first h0 hp hg hd hr hn))
    exact ⟨_, _, run, rfl, rfl, rfl, rfl, State.pushFrame_out _ (by simp [hl]), rfl, rfl⟩
  · exact ⟨_, _, execSegmentAggregateSend_due hc hf he, rfl, rfl, rfl, rfl, rfl, State.pushFrame_out _ (by rw [hl]; decide), rfl⟩
end

section
/-! ### Frames of replication that a node takes -/

namespace Sys2Proof.Machine

/-- A body that is not empty begins behind the header. -/
theorem u8_hdrFrame_body_of_pos {b : Bytes} (h : 0 < (hdrFrame b).body.length) : u8 b 20 = u8 (hdrFrame b).body 0 := by
  have one : 1 ≤ u16 b 16 := (Nat.succ_le_of_lt h).trans (List.length_take_le _ _)
  simp [hdrFrame, u8, sub, List.take_take, Nat.min_eq_left one]

/-! #### Where a counted frame goes -/

/-- Of a node that evaluates, without a transfer: the slot of its epoch, or a count of frames come late or early (R260). -/
theorem State.placeCounted_evaluating {s : State} {x : Nat} (hx : s.repl.lastEval = some x) (hq : s.repl.req = none)
    (f : CFrame) : s.placeCounted f =
      if f.epoch ≤ x then { s with repl.lateDiscards := sat32 (s.repl.lateDiscards + 1) }
      else if x + 8 < f.epoch then { s with repl.earlyDiscards := sat32 (s.repl.earlyDiscards + 1) }
      else { s with repl.frames := s.repl.frames ++ [f] } := by
  rw [State.placeCounted, hq, hx]
  rfl

theorem State.placeCounted_req (s : State) (f : CFrame) : (s.placeCounted f).repl.req = s.repl.req :=
  (congrArg (fun t : State => t.repl.req) (s.placeCounted_frame f)).trans rfl

/-- Without a transfer no log can be full (R267). -/
theorem State.placeLogged_idle {s : State} (hq : s.repl.req = none) (f : CFrame) : s.placeLogged f = s.placeCounted f := by
  rw [State.placeLogged]
  exact if_neg (by simp [State.placeCounted_req, hq])

/-- What a row that places a counted frame answers, by the epoch of the frame. -/
theorem placed_of_run {s a : State} {i : Instr} {c : CFrame} (hr : a.repl = s.repl)
    (run : s.repl.req = none → exec i s = .next (a.placeCounted c)) (x : Nat) (hx : s.repl.lastEval = some x)
    (hq : s.repl.req = none) :
    (x < c.epoch → c.epoch ≤ x + 8 → exec i s = .next { a with repl := { s.repl with frames := s.repl.frames ++ [c] } })
    ∧ (c.epoch ≤ x → exec i s = .next { a with repl := { s.repl with lateDiscards := sat32 (s.repl.lateDiscards + 1) } })
    ∧ (x + 8 < c.epoch →
        exec i s = .next { a with repl := { s.repl with earlyDiscards := sat32 (s.repl.earlyDiscards + 1) } }) := by
  rw [run hq, State.placeCounted_evaluating (hr ▸ hx) (hr ▸ hq), ← hr]
  refine ⟨fun hlo hhi => ?_, fun h => ?_, fun h => ?_⟩
  · rw [if_neg (by omega), if_neg (by omega)]
  · rw [if_pos h]
  · rw [if_neg (by omega), if_pos h]

/-! #### What each body brings -/

section
variable {s : State} {f : Frame}

theorem State.onSeal_holds (hl : f.body.length = 12) (h0 : u8 f.body 0 = 0) (h1 : u8 f.body 1 ≤ 7)
    (hz : allZero f.body 10 2 = true) (hs : segOf f.origin = segOf s.node) (hw : wanted s (liftEpoch s (u32 f.body 4)) = true)
    (hn : sealOf s (liftEpoch s (u32 f.body 4)) f.origin = none) :
    s.onSeal f = { s with repl := { s.repl with
      founding := { s.repl.founding with quietSince := s.tm.now }
      seals := s.repl.seals ++ [{ epoch := liftEpoch s (u32 f.body 4), node := f.origin, flags := BitVec.ofNat 8 (u8 f.body 1)
                                  counted := u16 f.body 2, lanes := u8 f.body 8, state := u8 f.body 9 }] } } := by
  simp [State.onSeal, hl, h0, Nat.not_lt.2 h1, hz, hs, hw, hn]

/-- With an aggregate beside those held. -/
def State.withAggregate (s : State) (a : AggIn) : State :=
  { s with repl := { s.repl with founding := { s.repl.founding with quietSince := s.tm.now }, aggs := s.repl.aggs ++ [a] } }

/-- A fault of the membership writes its record alone (R279). -/
theorem State.membershipFault_logs (hr : s.core = .running) (e fault n : Nat) : Logs s (s.membershipFault e fault n) [0x0316] :=
  State.logNotifyAt_logs _ _ _ _ _ _ hr

theorem State.membershipFault_frame (s : State) (e fault n : Nat) :
    s.membershipFault e fault n = { s with rcd := (s.membershipFault e fault n).rcd } := State.enqueue_frame _ _

/-- An aggregate is held, and where it is the first to differ from the other bridge's the fault is recorded (R251). -/
theorem State.onAggregate_holds (hr : s.core = .running) (hl : f.body.length = 176) (h0 : u8 f.body 0 = 1)
    (h1 : u8 f.body 1 ≤ 63) (hz : allZero f.body 2 2 = true) (ho : segOf f.origin = u8 f.body 1) (hs : u8 f.body 1 ≠ segOf s.node)
    (hw : wanted s (liftEpoch s (u32 f.body 4)) = true)
    (hn : ∀ a ∈ aggsOf s (liftEpoch s (u32 f.body 4)) (u8 f.body 1), a.bridge ≠ f.origin) :
    Logs s (s.onAggregate f)
        (if aggsDiffer (s.withAggregate (aggregateOf s f)) (liftEpoch s (u32 f.body 4)) (u8 f.body 1)
          && !aggsDiffer s (liftEpoch s (u32 f.body 4)) (u8 f.body 1) then [0x0316] else [])
      ∧ s.onAggregate f = { s.withAggregate (aggregateOf s f) with rcd := (s.onAggregate f).rcd } := by
  have epoch : (aggregateOf s f).epoch = liftEpoch s (u32 f.body 4) := rfl
  have seg : (aggregateOf s f).seg = u8 f.body 1 := rfl
  have new : (aggsOf s (liftEpoch s (u32 f.body 4)) (u8 f.body 1)).any (·.bridge == f.origin) = false := by simpa using hn
  have held : s.onAggregate f =
      if aggsDiffer (s.withAggregate (aggregateOf s f)) (liftEpoch s (u32 f.body 4)) (u8 f.body 1)
          && !aggsDiffer s (liftEpoch s (u32 f.body 4)) (u8 f.body 1) then
        (s.withAggregate (aggregateOf s f)).membershipFault (liftEpoch s (u32 f.body 4) % 0x100000000) 2 (u8 f.body 1)
      else s.withAggregate (aggregateOf s f) := by
    unfold State.onAggregate
    dsimp only
    rw [epoch, seg, if_neg (by simp [hl, h0, hz, ho, hs, hw]; omega), new]
    rfl
  rw [held]
  split
  · exact ⟨State.membershipFault_logs (s := s.withAggregate (aggregateOf s f)) hr .., State.membershipFault_frame ..⟩
  · exact ⟨.nil_of_eq rfl, rfl⟩

theorem State.onVote_holds (hl : f.body.length = 12)
    (hk : u8 f.body 0 = 1 ∧ u8 f.body 1 ≤ 1 ∧ segOf f.origin = segOf s.node ∨ u8 f.body 0 = 3 ∧ 2 ≤ u8 f.body 1 ∧ u8 f.body 1 ≤ 3)
    (hlo : 1 ≤ u8 f.body 2) (hhi : u8 f.body 2 ≤ 63) (h3 : allZero f.body 3 1 = true) (hz : allZero f.body 10 2 = true)
    (hw : wanted s (liftEpoch s (u32 f.body 4)) = true) :
    s.onVote f = { s with repl := { s.repl with
      votes := s.repl.votes ++ [{ epoch := liftEpoch s (u32 f.body 4), kind := u8 f.body 0, port := u8 f.body 1
                                  run := u8 f.body 2, subject := u16 f.body 8, voter := f.origin }] } } := by
  have nonzero : u8 f.body 2 ≠ 0 := by omega
  unfold State.onVote
  obtain ⟨kind, port, seg⟩ | ⟨kind, lo, hi⟩ := hk
  · simp [kind, port, seg, hl, nonzero, Nat.not_lt.2 hhi, h3, hz, hw]
  · simp [kind, lo, hi, hl, nonzero, Nat.not_lt.2 hhi, h3, hz, hw]

theorem State.onJoin_places (hl : f.body.length = 12) (h1 : allZero f.body 1 3 = true) (hz : allZero f.body 10 2 = true) :
    s.onJoin f = s.placeCounted { epoch := liftEpoch s (u32 f.body 4), origin := f.origin, seq := f.seq
                                  body := .join (u16 f.body 8) } := by
  simp [State.onJoin, hl, h1, hz]

/-- The entries of a TAG_UPDATE (Table 09-1). -/
def entriesOf (b : Bytes) : List Upd := (List.range (b.length / 16)).map fun i => Upd.ofBytes (sub b (16 * i) 16)

theorem State.onTagUpdate_places {port : Nat} {u : Upd} (hl : f.body.length % 16 = 0) (hu : (entriesOf f.body).head? = some u)
    (he : ∀ v ∈ entriesOf f.body, epochOf s v.stamp = epochOf s u.stamp) (hq : s.repl.req = none) :
    s.onTagUpdate port f = s.placeCounted { epoch := epochOf s u.stamp, origin := f.origin, seq := f.seq
                                            body := .updates (entriesOf f.body) } := by
  obtain ⟨us, entries⟩ := List.head?_eq_some_iff.1 hu
  have whole : ¬ (f.body.length % 16 ≠ 0 ∨ (u :: us).any (fun v => epochOf s v.stamp != epochOf s u.stamp) = true) := by
    rw [entries] at he
    simpa [hl] using he
  rw [entries]
  rw [entriesOf] at entries
  unfold State.onTagUpdate
  simp only [entries]
  rw [if_neg whole, State.placeLogged_idle hq]

theorem State.onAction_places (hl : 16 ≤ f.body.length) (hi : u8 f.body 12 < u8 f.body 13) (hn : u8 f.body 13 ≤ 19)
    (hp : u8 f.body 14 ≤ 7) (hz : allZero f.body 15 1 = true) (hq : s.repl.req = none) :
    s.onAction f = s.placeCounted { epoch := epochOf s (u64 f.body 0), origin := f.origin, seq := f.seq
                                    body := .part { stamp := u64 f.body 0, opcode := u16 f.body 8, number := u16 f.body 10
                                                    port := u8 f.body 14, origin := f.origin, payload := f.body.drop 16 }
                                      (u8 f.body 12) (u8 f.body 13) } := by
  unfold State.onAction
  dsimp only
  rw [if_neg (by simp [hz]; omega), State.placeLogged_idle hq]

theorem State.onDigest_holds (hl : f.body.length = 16) (hz : allZero f.body 4 4 = true)
    (hn : ∀ v, (liftEpoch s (u32 f.body 0), f.origin, v) ∉ s.repl.digests) :
    s.onDigest f = { s with repl := { s.repl with
      digests := s.repl.digests ++ [(liftEpoch s (u32 f.body 0), f.origin, u64 f.body 8)] } } := by
  have new : s.repl.digests.any (fun d => d.1 == liftEpoch s (u32 f.body 0) && d.2.1 == f.origin) = false := by
    rw [List.any_eq_false]
    rintro ⟨e, n, v⟩ mem same
    simp only [Bool.and_eq_true, beq_iff_eq] at same
    obtain ⟨rfl, rfl⟩ := same
    exact hn v mem
  simp [State.onDigest, hl, hz, new]

end

/-! #### Each row, for a frame for the node alone -/

section
variable {s : State} {rx : RxFrame} {os : List OriginEntry} (h : ArrivesHere s rx os) (hr : s.core = .running)
include h hr

theorem execSealReceived_here (ht : (hdrFrame rx.bytes).type = 1) (hl : 0 < (hdrFrame rx.bytes).body.length)
    (hk : u8 (hdrFrame rx.bytes).body 0 = 0) :
    execSealReceived rx s = .next ((s.accepted rx os).onSeal (hdrFrame rx.bytes)) := by
  have type : u8 rx.bytes 0 = 1 := ht
  have kind : u8 rx.bytes 20 = 0 := (u8_hdrFrame_body_of_pos hl).trans hk
  have row : execSealReceived rx s = .next (s.arrive rx) := by simp [execSealReceived, frameRow, type, kind]
  rw [row, h.arrive_delivers hr (by rw [ht]; decide)]
  simp [State.deliver, State.accepted, hr, ht, hk]

theorem execSegmentAggregateReceived_here (ht : (hdrFrame rx.bytes).type = 1) (hk : u8 (hdrFrame rx.bytes).body 0 = 1) :
    execSegmentAggregateReceived rx s = .next ((s.accepted rx os).onAggregate (hdrFrame rx.bytes)) :=
  (h.rowKind hr ht hk (by decide) (by decide)).trans (by simp [State.deliver, State.accepted, hr, ht, hk])

theorem execSegmentVoteReceived_here (ht : (hdrFrame rx.bytes).type = 2) (hk : u8 (hdrFrame rx.bytes).body 0 = 1) :
    execSegmentVoteReceived rx s = .next ((s.accepted rx os).onVote (hdrFrame rx.bytes)) :=
  (h.rowKind hr ht hk (by decide) (by decide)).trans (by simp [State.deliver, State.accepted, hr, ht, hk])

theorem execTrunkVoteReceived_here (ht : (hdrFrame rx.bytes).type = 2) (hk : u8 (hdrFrame rx.bytes).body 0 = 3) :
    execTrunkVoteReceived rx s = .next ((s.accepted rx os).onVote (hdrFrame rx.bytes)) :=
  (h.rowKind hr ht hk (by decide) (by decide)).trans (by simp [State.deliver, State.accepted, hr, ht, hk])

theorem execMembershipJoinReceived_here (ht : (hdrFrame rx.bytes).type = 2) (hk : u8 (hdrFrame rx.bytes).body 0 = 2) :
    execMembershipJoinReceived rx s = .next ((s.accepted rx os).onJoin (hdrFrame rx.bytes)) :=
  (h.rowKind hr ht hk (by decide) (by decide)).trans (by simp [State.deliver, State.accepted, hr, ht, hk])

theorem execTagUpdateReceived_here (ht : (hdrFrame rx.bytes).type = 0x10) :
    execTagUpdateReceived rx s = .next ((s.accepted rx os).onTagUpdate rx.port (hdrFrame rx.bytes)) :=
  (h.row hr ht (by decide)).trans (by simp [State.deliver, State.accepted, hr, ht])

theorem execActionReceived_here (ht : (hdrFrame rx.bytes).type = 0x11) :
    execActionReceived rx s = .next ((s.accepted rx os).onAction (hdrFrame rx.bytes)) :=
  (h.row hr ht (by decide)).trans (by simp [State.deliver, State.accepted, hr, ht])

theorem execDigestReceived_here (ht : (hdrFrame rx.bytes).type = 3) :
    execDigestReceived rx s = .next ((s.accepted rx os).onDigest (hdrFrame rx.bytes)) :=
  (h.row hr ht (by decide)).trans (by simp [State.deliver, State.accepted, hr, ht])

end
end Sys2Proof.Machine

open Sys2Proof.Machine in
/-- Settles O45: a frame for the node is delivered in `accepted` (log entry 12), whose replication is that of `s`, and its body
brings what the lemma of its kind says. -/
theorem replicationFramesAreHeld : Obligations.ReplicationFramesAreHeld := by
  intro s rx os hu hr h
  refine ⟨?_, ?_, ?_, ?_, ?_, ?_, ?_⟩
  · intro ht hl h0 h1 hz hs hw hn
    exact (execSealReceived_here h hr ht (by omega) h0).trans
      (congrArg _ (State.onSeal_holds (s := s.accepted rx os) hl h0 h1 hz hs hw hn))
  · intro ht hl h0 h1 hz ho hs hw hn
    obtain ⟨logs, frame⟩ := State.onAggregate_holds (s := s.accepted rx os) hr hl h0 h1 hz ho hs hw hn
    exact ⟨_, execSegmentAggregateReceived_here h hr ht h0, logs, frame⟩
  · intro ht hl hk hlo hhi h3 hz hw
    have holds := State.onVote_holds (s := s.accepted rx os) hl hk hlo hhi h3 hz hw
    obtain ⟨kind, -, -⟩ | ⟨kind, -, -⟩ := hk
    · rw [if_pos kind]
      exact (execSegmentVoteReceived_here h hr ht kind).trans (congrArg _ holds)
    · rw [if_neg (by omega)]
      exact (execTrunkVoteReceived_here h hr ht kind).trans (congrArg _ holds)
  · intro ht hl h0 h1 hz
    exact placed_of_run (a := s.accepted rx os) rfl fun _ =>
      (execMembershipJoinReceived_here h hr ht h0).trans (congrArg _ (State.onJoin_places hl h1 hz))
  · rintro _ u ht hl rfl hu he
    exact placed_of_run (a := s.accepted rx os) rfl fun hq =>
      (execTagUpdateReceived_here h hr ht).trans (congrArg _ (State.onTagUpdate_places hl hu he hq))
  · intro ht hl hi hn hp hz
    exact placed_of_run (a := s.accepted rx os) rfl fun hq =>
      (execActionReceived_here h hr ht).trans (congrArg _ (State.onAction_places hl hi hn hp hz hq))
  · intro ht hl hz hn
    exact (execDigestReceived_here h hr ht).trans (congrArg _ (State.onDigest_holds (s := s.accepted rx os) hl hz hn))
end

section
set_option Elab.async false
/-! ### The analogue side: what an operation reads and what it leaves

`Touches B C s t` says that `t` differs from `s` at most in the parts `B` and in the channels `C`. -/

namespace Sys2Proof.Machine

/-! #### What is read after one part is set -/

/-- An element set to what it is already leaves the list. -/
theorem upd_eq_self {α : Type} [Inhabited α] (l : List α) (i : Nat) (f : α → α) (h : f (nth l i) = nth l i) : upd l i f = l := by
  refine List.ext_getElem (by simp) fun j hj _ => ?_
  have hj' : j < l.length := by simpa using hj
  have at_j := nth_upd l i j f
  simp only [nth, List.getD_eq_getElem?_getD, List.getElem?_eq_getElem hj, List.getElem?_eq_getElem hj'
    , Option.getD_some] at at_j h
  rw [at_j]
  split
  · next e => obtain ⟨rfl, -⟩ := e; simpa [List.getElem?_eq_getElem hj'] using h
  · rfl

theorem upd_congr {α : Type} [Inhabited α] (l : List α) (i : Nat) (f g : α → α) (h : f (nth l i) = g (nth l i)) :
    upd l i f = upd l i g := by
  induction l generalizing i with
  | nil => rfl
  | cons a l ih => cases i with
    | zero => exact congrArg (· :: l) h
    | succ i => exact congrArg (a :: ·) (ih i h)

theorem upd_upd {α : Type} (l : List α) (i : Nat) (f g : α → α) : upd (upd l i f) i g = upd l i (g ∘ f) := by
  induction l generalizing i with
  | nil => rfl
  | cons a l ih => cases i with
    | zero => rfl
    | succ i => exact congrArg (a :: ·) (ih i)

section
variable (s : State) (b c d k n : Nat)

@[simp] theorem chan_setSlice (f : Slice → Slice) : chan (s.setSlice b k f) d = chan s d := rfl
@[simp] theorem chan_setBank (f : BankState → BankState) : chan (s.setBank b f) d = chan s d := rfl
@[simp] theorem chan_setLoop (f : Loop → Loop) : chan (s.setLoop c f) d = chan s d := rfl
@[simp] theorem slice_setChan (f : Chan → Chan) : slice (s.setChan c f) b k = slice s b k := rfl
@[simp] theorem slice_setBank (f : BankState → BankState) : slice (s.setBank d f) b k = slice s b k := rfl
@[simp] theorem bankSt_setChan (f : Chan → Chan) : bankSt (s.setChan c f) b = bankSt s b := rfl
@[simp] theorem chan_replyF (m : Cmd) (o st : Nat) (x : Bytes) (fl : Nat) : chan (s.replyF m o st x fl) d = chan s d := rfl
@[simp] theorem loopSt_replyF (m : Cmd) (o st : Nat) (x : Bytes) (fl : Nat) : loopSt (s.replyF m o st x fl) d = loopSt s d := rfl

variable {s b c d k n}

theorem chan_setChan_self (f : Chan → Chan) (h : c < s.ana.chans.length) : chan (s.setChan c f) c = f (chan s c) :=
  nth_upd_self _ _ _ h
theorem chan_setChan_ne (f : Chan → Chan) (h : d ≠ c) : chan (s.setChan c f) d = chan s d := nth_upd_ne _ _ h
theorem loopSt_setLoop_self (f : Loop → Loop) (h : c < s.ana.loops.length) : loopSt (s.setLoop c f) c = f (loopSt s c) :=
  nth_upd_self _ _ _ h
theorem loopSt_setLoop_ne (f : Loop → Loop) (h : d ≠ c) : loopSt (s.setLoop c f) d = loopSt s d := nth_upd_ne _ _ h
theorem bankSt_setBank_self (f : BankState → BankState) (h : b < s.ana.banks.length) : bankSt (s.setBank b f) b = f (bankSt s b) :=
  nth_upd_self _ _ _ h
theorem slice_setSlice_self (f : Slice → Slice) (h : 10 * b + k < s.ana.slices.length) :
    slice (s.setSlice b k f) b k = f (slice s b k) := nth_upd_self _ _ _ h

/-- A channel set to what it is already leaves the node. -/
theorem State.setChan_eq_self (f : Chan → Chan) (h : f (chan s c) = chan s c) : s.setChan c f = s := by
  have e : upd s.ana.chans c f = s.ana.chans := upd_eq_self _ _ _ h
  show { s with ana := { s.ana with chans := upd s.ana.chans c f } } = s
  rw [e]

theorem State.setChan_congr (f g : Chan → Chan) (h : f (chan s c) = g (chan s c)) : s.setChan c f = s.setChan c g := by
  simp only [State.setChan, upd_congr s.ana.chans c f g h]

theorem State.setChan_setChan (f g : Chan → Chan) : (s.setChan c f).setChan c g = s.setChan c (g ∘ f) := by
  simp only [State.setChan, upd_upd]

/-- A field that an update of any channel keeps. -/
theorem chan_setChan_field {α : Type} (g : Chan → α) {f : Chan → Chan} (h : ∀ x, g (f x) = g x) :
    g (chan (s.setChan c f) d) = g (chan s d) := by
  simp only [chan, State.setChan_chans, nth_upd]
  split
  · next e => rw [h, e.1]
  · rfl

end

/-- Records stand in every state with the same recorder. -/
theorem Logs.of_rcd {s t u : State} {l : List Nat} (h : Logs s t l) (e : u.rcd = t.rcd) : Logs s u l := by
  simpa only [Logs, e] using h

theorem Logs.replyF {s t : State} {l : List Nat} (h : Logs s t l) (c : Cmd) (o st : Nat) (d : Bytes) (fl : Nat) :
    Logs s (t.replyF c o st d fl) l := h.of_rcd (State.replyF_rcd ..)

/-! #### The parts -/

/-- How a channel is served: whether it is retired, its slice and its remap. -/
def Chan.service (x : Chan) : Nat × Option Nat × Option Remap := (x.retired, x.slice, x.remap)

/-- What was delivered of a channel to CHAN.READ, and whether it is open and settles. -/
def Chan.reading (x : Chan) : Bool × Word × Nat × Bool := (x.isOpen, x.last, x.endUs, x.settling)

/-- The parts of the node that the operations of the analogue side change; `service` and `reading` are what `Chan.service`
and `Chan.reading` give of every channel, `retired` that the retired slices stay so. -/
inductive AnaPart where
  | ports | rcd | repl | age | fresh | slices | banks | chans | loops | q30 | service | reading | retired
  deriving DecidableEq

/-- `t` agrees with `s` in a part. -/
def AnaPart.Same : AnaPart → State → State → Prop
  | .ports, s, t => t.ports = s.ports
  | .rcd, s, t => t.rcd = s.rcd
  | .repl, s, t => t.repl = s.repl
  | .age, s, t => t.age = s.age
  | .fresh, s, t => t.fresh = s.fresh
  | .slices, s, t => t.ana.slices = s.ana.slices
  | .banks, s, t => t.ana.banks = s.ana.banks
  | .chans, s, t => t.ana.chans = s.ana.chans
  | .loops, s, t => t.ana.loops = s.ana.loops
  | .q30, s, t => t.ana.q30 = s.ana.q30
  | .service, s, t => ∀ d, (chan t d).service = (chan s d).service
  | .reading, s, t => ∀ d, (chan t d).reading = (chan s d).reading
  | .retired, s, t => ∀ i, (nth s.ana.slices i).phase = .retired → (nth t.ana.slices i).phase = .retired

/-- `t` comes from `s` by records put behind the recorder, results published, and changes of the parts `B` and, of the
channels and their loops, of those of `C`. -/
structure Touches (B : List AnaPart) (C : Set Nat) (s t : State) : Prop where
  frame : t = { s with ports := t.ports, rcd := t.rcd, repl := t.repl, ana := t.ana, age := t.age, fresh := t.fresh }
  same : ∀ p ∉ B, p.Same s t
  logs : ∃ l, Logs s t l
  publishes : Publishes s t
  sizes : t.ana.sizes = s.ana.sizes
  others : ∀ d ∉ C, chan t d = chan s d ∧ loopSt t d = loopSt s d

theorem AnaPart.Same.refl (p : AnaPart) (s : State) : p.Same s s := by cases p <;> simp [AnaPart.Same]

theorem AnaPart.Same.trans {p : AnaPart} {s t u : State} (h : p.Same s t) (k : p.Same t u) : p.Same s u := by
  cases p
  case service => exact fun d => (k d).trans (h d)
  case reading => exact fun d => (k d).trans (h d)
  case retired => exact fun i hi => k i (h i hi)
  all_goals exact Eq.trans k h

section
variable {B B' : List AnaPart} {C C' : Set Nat} {s t u : State}

theorem Touches.refl (B : List AnaPart) (C : Set Nat) (s : State) : Touches B C s s where
  frame := rfl
  same p _ := .refl p s
  logs := ⟨[], .nil_of_eq rfl⟩
  publishes := rfl
  sizes := rfl
  others _ _ := ⟨rfl, rfl⟩

theorem Publishes.trans (h : Publishes s t) (k : Publishes t u) : Publishes s u := by
  unfold Publishes at *; rw [k, h]

/-- One operation after another. -/
theorem Touches.then (h : Touches B C s t) (k : Touches B' C' t u) (hB : B' ⊆ B := by decide) (hC : C' ⊆ C := by simp) :
    Touches B C s u where
  frame := by rw [k.frame, h.frame]
  same p hp := (h.same p hp).trans (k.same p fun hp' => hp (hB hp'))
  logs := by
    obtain ⟨l, hl⟩ := h.logs
    obtain ⟨m, hm⟩ := k.logs
    exact ⟨l ++ m, hl.trans hm⟩
  publishes := h.publishes.trans k.publishes
  sizes := k.sizes.trans h.sizes
  others d hd :=
    have ⟨chan1, loop1⟩ := h.others d hd
    have ⟨chan2, loop2⟩ := k.others d fun hd' => hd (hC hd')
    ⟨chan2.trans chan1, loop2.trans loop1⟩

theorem Touches.mono (h : Touches B' C' s t) (hB : B' ⊆ B := by decide) (hC : C' ⊆ C := by simp) : Touches B C s t :=
  (Touches.refl B C s).then h hB hC

theorem Touches.ite {p : Prop} [Decidable p] (ht : Touches B C s t) (hu : Touches B C s u) :
    Touches B C s (if p then t else u) := by split <;> assumption

theorem Touches.foldl {α : Type} {l : List α} {f : State → α → State} (hf : ∀ u, ∀ x ∈ l, Touches B C u (f u x)) :
    Touches B C s (l.foldl f s) := by
  induction l generalizing s with
  | nil => exact .refl B C s
  | cons x l ih => exact (hf s x (by simp)).then (ih fun u y hy => hf u y (by simp [hy])) (fun _ h => h) (fun _ h => h)

/-- What stands outside of the parts and channels that may change. -/
theorem Touches.onlyChannel {c : Nat} (h : Touches B {c} s t) : OnlyChannel s t c := h.others

theorem Touches.core (h : Touches B C s t) : t.core = s.core := by rw [h.frame]
theorem Touches.node (h : Touches B C s t) : t.node = s.node := by rw [h.frame]
theorem Touches.tm (h : Touches B C s t) : t.tm = s.tm := by rw [h.frame]
theorem Touches.lanes (h : Touches B C s t) : t.lanes = s.lanes := by rw [h.frame]
theorem Touches.chanCfg (h : Touches B C s t) (d : Nat) : chanCfg t d = chanCfg s d := by rw [h.frame]; rfl

theorem Touches.lengths (h : Touches B C s t) : t.ana.slices.length = s.ana.slices.length
    ∧ t.ana.chans.length = s.ana.chans.length ∧ t.ana.loops.length = s.ana.loops.length
    ∧ t.ana.banks.length = s.ana.banks.length := by
  simpa only [Analog.sizes, List.cons.injEq, and_true] using h.sizes

theorem Touches.effRate (h : Touches B C s t) (k : ChanCfg) : effRate t k = effRate s k := by
  unfold Machine.effRate; rw [h.lanes]
theorem Touches.effChop (h : Touches B C s t) (k : ChanCfg) : effChop t k = effChop s k := by
  unfold Machine.effChop; rw [h.effRate, h.lanes]

theorem Touches.service (h : Touches B C s t) (hB : .service ∉ B := by decide) (d : Nat) :
    (chan t d).service = (chan s d).service := h.same _ hB d
theorem Touches.reading (h : Touches B C s t) (hB : .reading ∉ B := by decide) (d : Nat) :
    (chan t d).reading = (chan s d).reading := h.same _ hB d
theorem Touches.slice (h : Touches B C s t) (hB : .slices ∉ B := by decide) (b k : Nat) : slice t b k = slice s b k := by
  have e : t.ana.slices = s.ana.slices := h.same _ hB
  unfold Machine.slice; rw [e]
theorem Touches.bankSt (h : Touches B C s t) (hB : .banks ∉ B := by decide) (b : Nat) : bankSt t b = bankSt s b := by
  have e : t.ana.banks = s.ana.banks := h.same _ hB
  unfold Machine.bankSt; rw [e]
theorem Touches.loopSt (h : Touches B C s t) (hB : .loops ∉ B := by decide) (d : Nat) : loopSt t d = loopSt s d := by
  have e : t.ana.loops = s.ana.loops := h.same _ hB
  unfold Machine.loopSt; rw [e]
theorem Touches.chan (h : Touches B C s t) (hB : .chans ∉ B := by decide) (d : Nat) : chan t d = chan s d := by
  have e : t.ana.chans = s.ana.chans := h.same _ hB
  unfold Machine.chan; rw [e]

/-- A frame in which all of the analogue side may differ, and of the other parts those of `B`. -/
theorem Touches.eq (h : Touches B C s t) : t = { s with
    ports := if .ports ∈ B then t.ports else s.ports, rcd := if .rcd ∈ B then t.rcd else s.rcd
    repl := if .repl ∈ B then t.repl else s.repl, ana := t.ana, age := if .age ∈ B then t.age else s.age
    fresh := if .fresh ∈ B then t.fresh else s.fresh } := by
  have part {α : Type} (p : AnaPart) (g : State → α) (hp : p.Same s t → g t = g s) : (if p ∈ B then g t else g s) = g t := by
    split
    · rfl
    · next hB => exact (hp (h.same p hB)).symm
  rw [part .ports State.ports id, part .rcd State.rcd id, part .repl State.repl id, part .age State.age id
    , part .fresh State.fresh id]
  exact h.frame

end

theorem Chan.service_eq {x y : Chan} : x.service = y.service ↔ x.retired = y.retired ∧ x.slice = y.slice ∧ x.remap = y.remap := by
  simp [Chan.service]
theorem Chan.service_iff {x : Chan} {a : Nat} {b : Option Nat} {r : Option Remap} :
    x.service = (a, b, r) ↔ x.retired = a ∧ x.slice = b ∧ x.remap = r := by simp [Chan.service]
theorem Chan.reading_eq {x y : Chan} : x.reading = y.reading ↔
    x.isOpen = y.isOpen ∧ x.last = y.last ∧ x.endUs = y.endUs ∧ x.settling = y.settling := by
  simp [Chan.reading]

/-! #### Operations on one part -/

section
variable {s : State} {b c k : Nat}

/-- A change of the analogue side alone. -/
theorem touches_setAna {B : List AnaPart} {C : Set Nat} {a : Analog} (same : ∀ p ∉ B, p.Same s { s with ana := a })
    (sizes : a.sizes = s.ana.sizes) (others : ∀ d ∉ C, chan { s with ana := a } d = chan s d ∧ loopSt { s with ana := a } d = loopSt s d) :
    Touches B C s { s with ana := a } where
  frame := rfl
  same := same
  logs := ⟨[], .nil_of_eq rfl⟩
  publishes := rfl
  sizes := sizes
  others := others

/-- A change of other parts than the analogue side. -/
theorem touches_of_ana {B : List AnaPart} {t : State}
    (frame : t = { s with ports := t.ports, rcd := t.rcd, repl := t.repl, age := t.age, fresh := t.fresh })
    (same : ∀ p ∈ [AnaPart.ports, .rcd, .repl, .age, .fresh], p ∉ B → p.Same s t) (logs : ∃ l, Logs s t l)
    (publishes : Publishes s t) : Touches B ∅ s t := by
  have ana : t.ana = s.ana := by rw [frame]
  have chans (d : Nat) : chan t d = chan s d := by simp only [chan, ana]
  have loops (d : Nat) : loopSt t d = loopSt s d := by simp only [loopSt, ana]
  refine ⟨?_, fun p hp => ?_, logs, publishes, by rw [ana], fun d _ => ⟨chans d, loops d⟩⟩
  · rw [ana]; exact frame
  · by_cases outside : p ∈ [AnaPart.ports, .rcd, .repl, .age, .fresh]
    · exact same p outside hp
    · cases p <;> simp [AnaPart.Same, ana, chans] at outside ⊢

theorem setChan_touches_any (f : Chan → Chan) : Touches [.chans, .service, .reading] {c} s (s.setChan c f) := by
  refine touches_setAna (fun p hp => ?_) (by simp [Analog.sizes]) fun d hd => ⟨chan_setChan_ne f hd, rfl⟩
  cases p <;> simp_all [AnaPart.Same]

/-- An update that leaves how a channel is served. -/
theorem setChan_touches_service (f : Chan → Chan) (h : ∀ x, (f x).service = x.service := by intro; rfl) :
    Touches [.chans, .reading] {c} s (s.setChan c f) where
  __ := setChan_touches_any (s := s) (c := c) f
  same p hp := by
    by_cases e : p = .service
    · subst e; exact fun d => chan_setChan_field Chan.service h
    · exact (setChan_touches_any f).same p (by simp_all)

/-- An update that leaves its readings too. -/
theorem setChan_touches (f : Chan → Chan) (h : ∀ x, (f x).service = x.service := by intro; rfl)
    (k : ∀ x, (f x).reading = x.reading := by intro; rfl) : Touches [.chans] {c} s (s.setChan c f) where
  __ := setChan_touches_any (s := s) (c := c) f
  same p hp := by
    by_cases e : p = .reading
    · subst e; exact fun d => chan_setChan_field Chan.reading k
    · exact (setChan_touches_service f h).same p (by simp_all)

theorem setSlice_touches_any (f : Slice → Slice) : Touches [.slices, .retired] ∅ s (s.setSlice b k f) := by
  refine touches_setAna (fun p hp => ?_) (by simp [Analog.sizes]) fun _ _ => ⟨rfl, rfl⟩
  cases p <;> simp_all [AnaPart.Same, chan]

/-- An update that leaves a retired slice so. -/
theorem setSlice_touches (f : Slice → Slice) (h : ∀ y, y.phase = .retired → (f y).phase = .retired) :
    Touches [.slices] ∅ s (s.setSlice b k f) where
  __ := setSlice_touches_any (s := s) (b := b) (k := k) f
  same p hp := by
    by_cases e : p = .retired
    · subst e
      intro i hi
      rw [State.setSlice_slices, nth_upd]
      split
      · next e => exact h _ (e.1 ▸ hi)
      · exact hi
    · exact (setSlice_touches_any f).same p (by simp_all)

theorem setBank_touches (f : BankState → BankState) : Touches [.banks] ∅ s (s.setBank b f) := by
  refine touches_setAna (fun p hp => ?_) (by simp [Analog.sizes]) fun _ _ => ⟨rfl, rfl⟩
  cases p <;> simp_all [AnaPart.Same, chan]

theorem setLoop_touches (f : Loop → Loop) : Touches [.loops] {c} s (s.setLoop c f) := by
  refine touches_setAna (fun p hp => ?_) (by simp [Analog.sizes]) fun d hd => ⟨rfl, loopSt_setLoop_ne f hd⟩
  cases p <;> simp_all [AnaPart.Same, chan]

theorem setQ30_touches (l : List LoopReq) : Touches [.q30] ∅ s { s with ana.q30 := l } := by
  refine touches_setAna (fun p hp => ?_) rfl fun _ _ => ⟨rfl, rfl⟩
  cases p <;> simp_all [AnaPart.Same, chan]

theorem replyF_touches (m : Cmd) (o st : Nat) (d : Bytes) (fl : Nat) : Touches [.ports] ∅ s (s.replyF m o st d fl) :=
  touches_of_ana rfl (by simp [AnaPart.Same]) ⟨[], .nil_of_eq rfl⟩ rfl

theorem takeFree_touches : Touches [.fresh] ∅ s s.takeFree.2 :=
  touches_of_ana rfl (by simp [AnaPart.Same]) ⟨[], .nil_of_eq rfl⟩ rfl

theorem setAge_touches (x : Ledger) : Touches [.age] ∅ s { s with age := x } :=
  touches_of_ana rfl (by simp [AnaPart.Same]) ⟨[], .nil_of_eq rfl⟩ rfl

/-- A record, while the core runs. -/
theorem logNotifyAt_touches (t : Nat) (bs : Bytes) (o e : Nat) (n : Bytes) :
    Touches [.rcd] ∅ s (s.logNotifyAt t bs o e n) := by
  refine touches_of_ana ?_ (by simp [AnaPart.Same]) ?_ (by simp [Publishes])
  · simpa using State.enqueue_frame s _
  · by_cases h : s.core = .running
    · exact ⟨_, State.logNotifyAt_logs s t bs o e n h⟩
    · exact ⟨[], .nil_of_eq (congrArg State.rcd (State.enqueue_held s _ h))⟩

theorem chanEvent_logs (ev bank ch sl sl2 detail : Nat) (x y : Int) (h : s.core = .running) :
    Logs s (s.chanEvent ev bank ch sl sl2 detail x y) [0x0200 + ev] := State.logNotifyAt_logs s _ _ _ _ _ h

theorem chanEvent_touches (ev bank ch sl sl2 detail : Nat) (x y : Int) :
    Touches [.rcd] ∅ s (s.chanEvent ev bank ch sl sl2 detail x y) := logNotifyAt_touches ..

/-- Results of tags, and the updates they wait with. -/
theorem setResults_touches (r : List (Nat × BitVec 8 × Word)) (p : List Upd) (q : List (Nat × BitVec 8 × Word)) :
    Touches [.repl] ∅ s { s with repl.results := r, repl.pending := p, repl.published := q } :=
  touches_of_ana rfl (by simp [AnaPart.Same]) ⟨[], .nil_of_eq rfl⟩ rfl

theorem publish_touches (tag : Nat) (q : BitVec 8) (v : Word) : Touches [.repl] ∅ s (s.publish tag q v) := by
  unfold State.publish State.publishAs
  dsimp only
  split
  · exact setResults_touches _ _ _
  · split <;> exact setResults_touches _ _ _

/-! #### Operations of a channel (chapters 10 to 12) -/

theorem publishSource_touches (kind ref : Nat) (q : BitVec 8) (v : Word) : Touches [.repl] ∅ s (s.publishSource kind ref q v) :=
  .foldl fun _ _ _ => publish_touches ..

theorem publishChan_touches (q : BitVec 8) (v : Word) : Touches [.chans, .repl] {c} s (s.publishChan c q v) :=
  ((Touches.refl _ _ s).then (setChan_touches _)).then (publishSource_touches ..)

theorem publishBad_touches (q : BitVec 8) : Touches [.chans, .repl] {c} s (s.publishBad c q) :=
  ((Touches.refl _ _ s).then (setChan_touches _)).then (.foldl fun _ _ _ => publish_touches ..)

theorem publishValid_touches (x : ChanCfg) (q : BitVec 8) (v : Word) :
    Touches [.chans, .repl] {c} s (s.publishValid c x q v) := by
  unfold State.publishValid
  split
  · exact .ite (publishChan_touches ..) (.refl ..)
  · exact publishChan_touches ..

theorem instBad_touches (slot : Nat) : Touches [.repl, .loops] {c} s (s.instBad c slot) :=
  ((Touches.refl _ _ s).then (.foldl fun _ _ _ => publish_touches ..)).then (setLoop_touches _)

theorem loopUnavailable_touches : Touches [.ports, .loops, .q30] {c} s (s.loopUnavailable c) :=
  (((Touches.refl _ _ s).then (setQ30_touches _)).then (setLoop_touches _)).then (.foldl fun _ _ _ => replyF_touches ..)

theorem suspendFsk_touches : Touches [.ports, .repl, .loops, .q30] {c} s (s.suspendFsk c) := by
  refine .ite ?_ (.refl ..)
  exact ((Touches.refl _ _ s).then loopUnavailable_touches).then (.foldl fun _ _ _ => instBad_touches _)

theorem endLoopForce_touches (detail : Nat) : Touches [.rcd, .loops] {c} s (s.endLoopForce c detail) := by
  unfold State.endLoopForce
  split
  · exact ((Touches.refl _ _ s).then (setLoop_touches _)).then (chanEvent_touches ..)
  · exact .refl ..

theorem breakWindow_touches : Touches [.chans] {c} s (s.breakWindow c) :=
  .ite (setChan_touches _) (.refl ..)

theorem tryComplete_touches : Touches [.ports, .chans] {c} s (s.tryComplete c) := by
  unfold State.tryComplete
  split
  · split
    · exact ((Touches.refl _ _ s).then (setChan_touches _)).then (replyF_touches ..)
    · exact .refl ..
  · exact .refl ..

theorem noteCheck_touches (f : ChanCheck → ChanCheck) : Touches [.ports, .chans] {c} s (s.noteCheck c f) :=
  ((Touches.refl _ _ s).then (setChan_touches _)).then tryComplete_touches

/-- Without a CHAN.CHECK there is nothing to note. -/
theorem noteCheck_of_none {f : ChanCheck → ChanCheck} (h : (chan s c).check = none) : s.noteCheck c f = s := by
  have e : s.setChan c (fun x => { x with check := x.check.map f }) = s := State.setChan_eq_self _ (by rw [h, Option.map_none, ← h])
  rw [State.noteCheck, e, State.tryComplete, h]

theorem toOff_keeps_retired (y : Slice) (h : y.phase = .retired) : y.toOff.phase = .retired := by simp [Slice.toOff, h]
theorem toIdle_keeps_retired (x : Bool) (y : Slice) (h : y.phase = .retired) : (y.toIdle x).phase = .retired := by
  simp [Slice.toIdle, h]
theorem toCheck_keeps_retired (y : Slice) (h : y.phase = .retired) : y.toCheck.phase = .retired := by simp [Slice.toCheck, h]
theorem toLead_keeps_retired (x : ChanCfg) (n : Nat) (y : Slice) (h : y.phase = .retired) : (y.toLead x n).phase = .retired := by
  simp [Slice.toLead, h]

theorem dropVisit_touches : Touches [.slices, .banks] ∅ s (s.dropVisit b k) :=
  ((Touches.refl _ _ s).then (setBank_touches _)).then (setSlice_touches _ toOff_keeps_retired)

theorem endVisit_touches : Touches [.slices, .banks] ∅ s (s.endVisit b k) :=
  dropVisit_touches.then (setSlice_touches _ toCheck_keeps_retired)

theorem endCheck_touches : Touches [.ports, .chans, .banks] {c} s (s.endCheck c) :=
  (((Touches.refl _ _ s).then (setBank_touches _)).then (noteCheck_touches _)).then (noteCheck_touches _)

theorem takeRover_touches : Touches [.ports, .slices, .banks, .chans] Set.univ s (s.takeRover b k) := by
  have dropped : Touches [.ports, .slices, .banks, .chans] Set.univ s (s.dropVisit b k) := dropVisit_touches.mono
  unfold State.takeRover
  dsimp only
  split
  · exact .ite dropped (.ite (dropped.then (noteCheck_touches _)) (.ite (dropped.then (setBank_touches _)) dropped))
  · exact dropped

theorem checkRovers_touches : Touches [.ports, .banks, .chans] Set.univ s (s.checkRovers b) := by
  refine .ite ?_ (.refl ..)
  exact ((Touches.refl _ _ s).then (setBank_touches _)).then
    (B' := [.ports, .chans]) (C' := Set.univ) (.foldl fun _ _ _ => (noteCheck_touches _).mono)

end
end Sys2Proof.Machine
end

section
set_option Elab.async false
/-! ### CHAN.CHECK -/

namespace Sys2Proof.Machine

/-- A reply stands in every state with the same ports. -/
theorem Answers.of_ports {s t u : State} {c : Cmd} {o st fl : Nat} {d : Bytes} (h : Answers s t c o st fl d)
    (e : u.ports = t.ports) : Answers s u c o st fl d := by
  simpa only [Answers, Replies, e] using h

/-- A channel named by an acting opcode is one of the node's, and in use. -/
theorem chanNamed_lt {s : State} {p : Bytes} (h : chanNamed s p = true) : u8 p 0 < 32 ∧ (chanCfg s (u8 p 0)).mode ≠ 0 := by
  simp only [chanNamed, Bool.and_eq_true, decide_eq_true_eq] at h
  exact ⟨h.1.2, h.2⟩

/-- A check that has no impedance yet is not complete. -/
theorem tryComplete_of_no_ohms {s : State} {c : Nat} (h : ∀ k, (chan s c).check = some k → k.ohms = none) :
    s.tryComplete c = s := by
  unfold State.tryComplete
  split
  · next k hk => simp [h k hk]
  · rfl

/-- Noting something of a check that has no impedance yet is an update of the channel. -/
theorem noteCheck_of_no_ohms {s : State} {c : Nat} {f : ChanCheck → ChanCheck}
    (h : ∀ k, (chan s c).check = some k → (f k).ohms = none) :
    s.noteCheck c f = s.setChan c fun x => { x with check := x.check.map f } := by
  refine tryComplete_of_no_ohms fun k hk => ?_
  simp only [chan, State.setChan_chans, nth_upd, true_and] at hk
  split at hk
  · obtain ⟨j, hj, rfl⟩ := Option.map_eq_some_iff.1 hk
    exact h j hj
  · next hc =>
    have out : (chan s c).check = none := by simp [chan, nth, List.getD_eq_getElem?_getD, Nat.not_lt.1 hc]; rfl
    exact absurd (out.symm.trans hk) nofun

/-- CHAN.CHECK accepted (R43). -/
def State.acceptCheck (s : State) (c : Cmd) (ch : Nat) : State :=
  (s.replyF c 0x0542 Status.acceptedPending [] 0).setChan ch fun x => { x with check := some { cmd := c } }

/-- CHAN.CHECK begun: without a rover no visit comes, else the channel waits for one (R320). -/
def State.beginCheck (s : State) (c : Cmd) (ch : Nat) : State :=
  if (rovers s (ch / 8)).isEmpty then (s.acceptCheck c ch).noVisit ch
  else (s.acceptCheck c ch).setBank (ch / 8) fun b => { b with wanted := b.wanted ++ [ch % 8] }

theorem execChanCheck_named {s : State} {c : Cmd} (ha : Admitted s c) (hn : chanNamed s c.payload = true) :
    execChanCheck c s = .next (
      if (chan s (u8 c.payload 0)).retired ≠ 0 then s.replyF c 0x0542 Status.channelRetired [] 0
      else if (chan s (u8 c.payload 0)).check.isSome then s.replyF c 0x0542 Status.checkBusy [] 0
      else s.beginCheck c (u8 c.payload 0)) := by
  unfold execChanCheck
  rw [runSilent_admitted ha]
  simp only [hn, Bool.not_true, Bool.false_eq_true, if_false, State.reply_eq]
  rfl

section
variable {s : State} {ch : Nat} (hu : Units s) (c : Cmd) (h : ch < 32)

theorem acceptCheck_touches : Touches [.ports, .chans] {ch} s (s.acceptCheck c ch) :=
  ((Touches.refl _ _ s).then (replyF_touches ..)).then (setChan_touches _)

include hu h

theorem chan_acceptCheck : chan (s.acceptCheck c ch) ch = { chan s ch with check := some { cmd := c } } := by
  unfold State.acceptCheck
  rw [chan_setChan_self _ (by exact hu.chans ▸ h)]; rfl

/-- Without a rover the check of the command has its visit's result at once, and waits for its window. -/
theorem beginCheck_unroved (hr : rovers s (ch / 8) = []) : s.beginCheck c ch = (s.acceptCheck c ch).setChan ch fun x =>
    { x with check := x.check.map fun k => { k with visit := some (k.visit.getD (3, none)), selfCheck := some (k.selfCheck.getD 2) } } := by
  simp only [State.beginCheck, hr, List.isEmpty_nil, if_true]
  refine noteCheck_of_no_ohms fun k hk => ?_
  obtain rfl : { cmd := c } = k := by simpa [chan_acceptCheck hu c h] using hk
  rfl

/-- What CHAN.CHECK begins is the check of its command, on its channel alone. -/
theorem beginCheck_begins : (chan (s.beginCheck c ch) ch).check.map (·.cmd) = some c
    ∧ (s.beginCheck c ch).ports = (s.replyF c 0x0542 Status.acceptedPending [] 0).ports
    ∧ Touches [.ports, .chans, .banks] {ch} s (s.beginCheck c ch) := by
  have accepted : Touches [.ports, .chans, .banks] {ch} s (s.acceptCheck c ch) := (acceptCheck_touches c).mono
  have len : ch < (s.acceptCheck c ch).ana.chans.length := by rw [accepted.lengths.2.1]; exact hu.chans ▸ h
  by_cases hr : rovers s (ch / 8) = []
  · rw [beginCheck_unroved hu c h hr]
    refine ⟨?_, rfl, accepted.then (setChan_touches _)⟩
    rw [chan_setChan_self _ len, chan_acceptCheck hu c h]; rfl
  · simp only [State.beginCheck, List.isEmpty_iff, hr, if_false]
    refine ⟨?_, rfl, accepted.then (setBank_touches _)⟩
    rw [chan_setBank, chan_acceptCheck hu c h]; rfl

theorem beginCheck_wanted (hr : rovers s (ch / 8) ≠ []) :
    (bankSt (s.beginCheck c ch) (ch / 8)).wanted = (bankSt s (ch / 8)).wanted ++ [ch % 8] := by
  simp only [State.beginCheck, List.isEmpty_iff, hr, if_false]
  have len : ch / 8 < (s.acceptCheck c ch).ana.banks.length := by
    rw [(acceptCheck_touches c).lengths.2.2.2, hu.banks]; omega
  rw [bankSt_setBank_self _ len]; rfl

end

end Sys2Proof.Machine

open Sys2Proof.Machine in
/-- Settles O18: a refusal is a reply alone, and what is accepted begins the check (`beginCheck_begins`). -/
theorem channelCheckRunsOnce : Obligations.ChannelCheckRunsOnce := by
  rintro s c ch ha hn rfl
  have run := execChanCheck_named ha hn
  have refusal (st : Nat) := State.replyF_answers s c 0x0542 st [] 0 ha.ring
  by_cases hr : (chan s (u8 c.payload 0)).retired = 0
  case neg =>
    rw [if_pos hr] at run
    obtain ⟨answers, frame⟩ := refusal Status.channelRetired
    exact ⟨_, run, by simpa only [if_pos hr] using answers, fun _ => frame, fun h => absurd h hr⟩
  rw [if_neg (not_not.2 hr)] at run
  by_cases hk : (chan s (u8 c.payload 0)).check = none
  case neg =>
    have busy : (chan s (u8 c.payload 0)).check.isSome = true := Option.isSome_iff_ne_none.2 hk
    rw [if_pos busy] at run
    obtain ⟨answers, frame⟩ := refusal Status.checkBusy
    exact ⟨_, run, by simpa only [hr, busy, ne_eq, not_true_eq_false, if_false, if_true] using answers, fun _ => frame
      , fun _ h => absurd h hk⟩
  have lt := (chanNamed_lt hn).1
  obtain ⟨begun, ports, touches⟩ := beginCheck_begins ha.units c lt
  obtain ⟨answers, -⟩ := refusal Status.acceptedPending
  simp only [hk, Option.isSome_none, Bool.false_eq_true, if_false] at run ⊢
  exact ⟨_, run, by simpa only [hr, ne_eq, not_true_eq_false, if_false] using answers.of_ports ports, fun h => absurd h (by simp [hr])
    , fun _ _ => ⟨begun, touches.onlyChannel, touches.same .slices (by decide), beginCheck_wanted ha.units c lt, touches.eq⟩⟩
end

section
set_option Elab.async false
/-! ### CHAN.RETIRE and CHAN.RESTORE -/

namespace Sys2Proof.Machine

/-! #### Out of service -/

/-- A channel taken off its slice, with what it was about to do (R312, R314). -/
def State.offSlice (s : State) (c kind : Nat) : State :=
  let s1 : State := match (chan s c).slice with
    | some n => s.setSlice (c / 8) n Slice.toOff
    | none => s
  s1.setChan c fun y => { y with retired := kind, slice := none, remap := none, isOpen := false, excFault := false
                                 settling := false, inWindow := false, toneHz := 0, late := none }

/-- The record of a channel's retirement, with its tags gone BAD (R314). -/
def State.chanRetired (s : State) (c kind : Nat) : State :=
  ((s.offSlice c kind).publishBad c qChannel).chanEvent 3 (c / 8) c (sliceOr (chan s c)) 0xFF (if kind = 4 then 2 else 1) 0 0

/-- The visit on a channel ends. -/
def State.unvisit (s : State) (c : Nat) : State := (visitOn s c).elim s fun v => s.endVisit (c / 8) v.rover

theorem State.retireChan_eq (s : State) (c kind : Nat) : s.retireChan c kind =
    (((((s.chanRetired c kind).suspendFsk c).endLoopForce c 4).stopDriver c).unvisit c).endCheck c := rfl

section
variable {s : State} {c : Nat} (kind : Nat)

theorem offSlice_touches : Touches [.slices, .chans, .service, .reading] {c} s (s.offSlice c kind) := by
  unfold State.offSlice
  dsimp only
  split
  · exact ((Touches.refl _ _ s).then (setSlice_touches _ toOff_keeps_retired)).then (setChan_touches_any _)
  · exact (setChan_touches_any _).mono

theorem chanRetired_touches : Touches [.rcd, .repl, .slices, .chans, .service, .reading] {c} s (s.chanRetired c kind) :=
  (((Touches.refl _ _ s).then (offSlice_touches kind)).then (publishBad_touches _)).then (chanEvent_touches ..)

theorem unvisit_touches : Touches [.slices, .banks] ∅ s (s.unvisit c) := by
  unfold State.unvisit
  cases visitOn s c with
  | none => exact .refl ..
  | some v => exact endVisit_touches

theorem chan_offSlice (h : c < s.ana.chans.length) : (chan (s.offSlice c kind) c).service = (kind, none, none) := by
  unfold State.offSlice
  dsimp only
  rw [chan_setChan_self _ (by split <;> exact h)]
  rfl

/-- After its record, a retirement stops what the channel's loop does and ends its visit and its check. -/
theorem retireChan_after : Touches [.ports, .rcd, .repl, .slices, .banks, .chans, .loops, .q30] {c}
    (s.chanRetired c kind) (s.retireChan c kind) := by
  rw [State.retireChan_eq]
  exact (((((Touches.refl _ _ _).then suspendFsk_touches).then (endLoopForce_touches _)).then (setLoop_touches _)).then
    unvisit_touches).then endCheck_touches

theorem retireChan_touches : Touches [.ports, .rcd, .repl, .slices, .banks, .chans, .loops, .q30, .service, .reading] {c}
    s (s.retireChan c kind) :=
  ((Touches.refl _ _ s).then (chanRetired_touches kind)).then (retireChan_after kind)

/-- A retired channel has no slice (R314). -/
theorem chan_retireChan (h : c < s.ana.chans.length) : (chan (s.retireChan c kind) c).service = (kind, none, none) := by
  have recorded : Touches [.rcd, .repl, .chans] {c} (s.offSlice c kind) (s.chanRetired c kind) :=
    ((Touches.refl _ _ _).then (publishBad_touches _)).then (chanEvent_touches ..)
  rw [(retireChan_after kind).service, recorded.service, chan_offSlice kind h]

/-- The first record of a retirement is its own. -/
theorem retireChan_logs (h : s.core = .running) : ∃ l, Logs s (s.retireChan c kind) (0x0203 :: l) := by
  obtain ⟨l, after⟩ := (retireChan_after (s := s) (c := c) kind).logs
  have bad : Touches [.slices, .repl, .chans, .service, .reading] {c} s ((s.offSlice c kind).publishBad c qChannel) :=
    ((Touches.refl _ _ _).then (offSlice_touches kind)).then (publishBad_touches _)
  have record := chanEvent_logs (s := (s.offSlice c kind).publishBad c qChannel) 3 (c / 8) c (sliceOr (chan s c)) 0xFF
    (if kind = 4 then 2 else 1) 0 0 (bad.core.trans h)
  exact ⟨l, ((Logs.nil_of_eq (bad.same .rcd (by decide))).trans record).trans after⟩

/-- A force that ends leaves none. -/
theorem endLoopForce_forced {detail : Nat} (h : c < s.ana.loops.length) : (loopSt (s.endLoopForce c detail) c).forced = none := by
  unfold State.endLoopForce
  split
  · rw [State.forceEvent, (chanEvent_touches ..).loopSt, loopSt_setLoop_self _ h]
  · assumption

/-- The loop of a retired channel drives nothing and is not forced (R358, R370). -/
theorem loopSt_retireChan (h : c < s.ana.loops.length) : (loopSt (s.retireChan c kind) c).setpoint = 0
    ∧ (loopSt (s.retireChan c kind) c).latched = 0 ∧ (loopSt (s.retireChan c kind) c).forced = none := by
  let s4 := (s.chanRetired c kind).suspendFsk c
  have stopped : Touches [.ports, .slices, .banks, .chans] {c} ((s4.endLoopForce c 4).stopDriver c) (s.retireChan c kind) := by
    rw [State.retireChan_eq]
    exact ((Touches.refl _ _ _).then unvisit_touches).then endCheck_touches
  have work : Touches [.ports, .rcd, .repl, .slices, .chans, .loops, .q30, .service, .reading] {c} s s4 :=
    ((Touches.refl _ _ s).then (chanRetired_touches kind)).then suspendFsk_touches
  have len4 : c < s4.ana.loops.length := by rw [work.lengths.2.2.1]; exact h
  have len5 : c < (s4.endLoopForce c 4).ana.loops.length := by rw [(endLoopForce_touches 4).lengths.2.2.1]; exact len4
  rw [stopped.loopSt, State.stopDriver, loopSt_setLoop_self _ len5]
  exact ⟨rfl, rfl, endLoopForce_forced len4⟩

end

/-! #### Back in service -/

/-- The slice that CHAN.RESTORE puts a channel on (R319). -/
def restorePlace (s : State) (ch : Nat) : Option Nat :=
  if sliceFree s (ch / 8) (ch % 8) = true then some (ch % 8) else (freeSlices s (ch / 8)).head?

/-- A retired channel put on slice `n`, which may be a rover's. -/
def State.putOn (s : State) (ch n : Nat) : State :=
  ((s.takeRover (ch / 8) n).setChan ch fun x => { x with retired := 0, slice := some n, remap := none }).checkRovers (ch / 8)

/-- A channel begins its conversions anew on slice `n` (R293, R366). -/
def State.beginAnew (s : State) (ch n : Nat) (k : ChanCfg) (now : Nat) : State :=
  ((((s.startSchedules ch).startConversion ch).setChan ch fun x => { x with requestDue := now + k.interval * 1000 }).setSlice
    (ch / 8) n fun y => y.toLead k (now + k.lead)).readInstruments ch

theorem execChanRestore_in_service {s : State} {c : Cmd} (ha : Admitted s c) (hn : chanNamed s c.payload = true)
    (hr : (chan s (u8 c.payload 0)).retired = 0) : execChanRestore c s = .next (s.replyF c 0x0541 Status.ok [] 0) := by
  unfold execChanRestore
  rw [runOpcode_admitted ha]
  simp [hn, hr]

theorem execChanRestore_nowhere {s : State} {c : Cmd} (ha : Admitted s c) (hn : chanNamed s c.payload = true)
    (hr : (chan s (u8 c.payload 0)).retired ≠ 0) (hp : restorePlace s (u8 c.payload 0) = none) :
    execChanRestore c s = .next (s.replyF c 0x0541 Status.channelRetired [] 0) := by
  unfold restorePlace at hp
  unfold execChanRestore
  rw [runOpcode_admitted ha]
  simp [hn, hr, hp, refuse]

theorem execChanRetire_in_service {s : State} {c : Cmd} (ha : Admitted s c) (hn : chanNamed s c.payload = true)
    (hr : (chan s (u8 c.payload 0)).retired = 0) :
    execChanRetire c s = .next ((s.retireChan (u8 c.payload 0) 4).replyF c 0x0540 Status.ok [] 0) := by
  unfold execChanRetire
  rw [runOpcode_admitted ha]
  simp only [hn, hr, Bool.not_true, Bool.false_eq_true, ne_eq, not_true_eq_false, if_false]

theorem execChanRetire_retired {s : State} {c : Cmd} (ha : Admitted s c) (hn : chanNamed s c.payload = true)
    (hr : (chan s (u8 c.payload 0)).retired ≠ 0) : execChanRetire c s = .next (s.replyF c 0x0540 Status.ok [] 0) := by
  unfold execChanRetire
  rw [runOpcode_admitted ha]
  simp only [hn, hr, Bool.not_true, Bool.false_eq_true, ne_eq, not_false_eq_true, if_false, if_true]

/-- A retired channel restored on slice `n`, with its record (R319, R321). -/
def State.restored (s : State) (ch n : Nat) : State :=
  ((s.putOn ch n).beginAnew ch n (chanCfg s ch) s.tm.now).chanEvent 4 (ch / 8) ch n 0xFF 0 0 0

theorem execChanRestore_placed {s : State} {c : Cmd} {n : Nat} (ha : Admitted s c) (hn : chanNamed s c.payload = true)
    (hr : (chan s (u8 c.payload 0)).retired ≠ 0) (hp : restorePlace s (u8 c.payload 0) = some n) :
    execChanRestore c s = .next ((s.restored (u8 c.payload 0) n).replyF c 0x0541 Status.ok [] 0) := by
  unfold restorePlace at hp
  unfold execChanRestore
  rw [runOpcode_admitted ha]
  simp only [hn, hr, hp, Bool.not_true, Bool.false_eq_true, if_false]
  rfl

section
variable {s : State} {c n : Nat}

theorem idleOrLead_touches : Touches [.slices, .chans] {c} s (s.idleOrLead c n) :=
  .ite (((Touches.refl _ _ s).then (setChan_touches _)).then (setSlice_touches _ (toLead_keeps_retired _ _)))
    (setSlice_touches _ (toIdle_keeps_retired _)).mono

theorem startConversion_touches : Touches [.slices, .chans, .reading] {c} s (s.startConversion c) := by
  unfold State.startConversion
  split
  · next n _ =>
    extract_lets k s1
    have h1 : Touches [.slices, .chans, .reading] {c} s s1 := (setChan_touches_service _).mono
    exact .ite (h1.then (setSlice_touches _ toOff_keeps_retired)) (.ite (h1.then idleOrLead_touches)
      (h1.then (setSlice_touches _ (toLead_keeps_retired _ _))))
  · exact .refl ..

theorem beginAnew_touches (k : ChanCfg) (now : Nat) :
    Touches [.slices, .chans, .loops, .reading] {c} s (s.beginAnew c n k now) :=
  (((((Touches.refl _ _ s).then (setChan_touches _)).then startConversion_touches).then (setChan_touches _)).then
    (setSlice_touches _ (toLead_keeps_retired _ _))).then (setLoop_touches _)

theorem putOn_touches : Touches [.ports, .slices, .banks, .chans, .service, .reading] Set.univ s (s.putOn c n) :=
  (((Touches.refl _ _ s).then takeRover_touches).then (setChan_touches_any _)).then checkRovers_touches

/-- The channel is in service on the slice named. -/
theorem chan_putOn (h : c < s.ana.chans.length) : (chan (s.putOn c n) c).service = (0, some n, none) := by
  rw [State.putOn, checkRovers_touches.service, chan_setChan_self _ (takeRover_touches.lengths.2.1.symm ▸ h)]
  rfl

theorem restored_touches : Touches [.ports, .rcd, .slices, .banks, .chans, .loops, .service, .reading] Set.univ s (s.restored c n) :=
  (((Touches.refl _ _ s).then putOn_touches).then (beginAnew_touches _ _)).then (chanEvent_touches ..)

/-- The restored channel is in service on its new slice, and what was done is recorded (R319, R321). -/
theorem restored_serves (hr : s.core = .running) (h : c < s.ana.chans.length) : (chan (s.restored c n) c).retired = 0
    ∧ (chan (s.restored c n) c).slice = some n ∧ Logs s (s.restored c n) [0x0204] := by
  have anew : Touches [.ports, .slices, .banks, .chans, .loops, .service, .reading] Set.univ s
      ((s.putOn c n).beginAnew c n (chanCfg s c) s.tm.now) :=
    ((Touches.refl _ _ s).then putOn_touches).then (beginAnew_touches _ _)
  have served : (chan (s.restored c n) c).service = (0, some n, none) := by
    rw [State.restored, (chanEvent_touches ..).service, (beginAnew_touches _ _).service, chan_putOn h]
  obtain ⟨retired, slice, -⟩ := Chan.service_iff.1 served
  exact ⟨retired, slice, (Logs.nil_of_eq (anew.same .rcd (by decide))).trans
    (chanEvent_logs 4 (c / 8) c n 0xFF 0 0 0 (anew.core.trans hr))⟩

/-! Where no CHAN.CHECK runs, taking a rover completes none. -/

section
variable (hn : ∀ d, (chan s d).check = none)
include hn

theorem takeRover_of_no_checks {b k : Nat} : Touches [.slices, .banks] ∅ s (s.takeRover b k) := by
  have dropped : Touches [.slices, .banks] ∅ s (s.dropVisit b k) := dropVisit_touches
  have noted (d : Nat) : (s.dropVisit b k).noVisit d = s.dropVisit b k := noteCheck_of_none (hn d)
  unfold State.takeRover
  dsimp only
  split
  · rw [noted]
    exact .ite dropped (.ite dropped (.ite (dropped.then (setBank_touches _)) dropped))
  · exact dropped

theorem checkRovers_of_no_checks {b : Nat} : Touches [.banks] ∅ s (s.checkRovers b) := by
  refine .ite ?_ (.refl ..)
  rw [List.foldl_fixed']
  · exact setBank_touches _
  · exact fun j => noteCheck_of_none (hn (8 * b + j))

theorem putOn_of_no_checks : Touches [.slices, .banks, .chans, .service, .reading] {c} s (s.putOn c n) := by
  have taken := takeRover_of_no_checks hn (b := c / 8) (k := n)
  refine (((Touches.refl _ _ s).then taken).then (setChan_touches_any _)).then (checkRovers_of_no_checks fun d => ?_)
  refine (chan_setChan_field (·.check) fun _ => by rfl).trans ?_
  rw [taken.chan]
  exact hn d

theorem restored_of_no_checks : Touches [.rcd, .slices, .banks, .chans, .loops, .service, .reading] {c} s (s.restored c n) :=
  (((Touches.refl _ _ s).then (putOn_of_no_checks hn)).then (beginAnew_touches _ _)).then (chanEvent_touches ..)

end

/-- A list of channels that all satisfy what the default channel does. -/
theorem chan_check_of_all (h : s.ana.chans.all (·.check.isNone) = true) (d : Nat) : (chan s d).check = none := by
  by_cases hd : d < s.ana.chans.length
  · have mem : chan s d ∈ s.ana.chans := by simp [chan, nth, hd]
    simpa using List.all_eq_true.1 h _ mem
  · simp [chan, nth, List.getD_eq_getElem?_getD, Nat.not_lt.1 hd]; rfl

end

end Sys2Proof.Machine

open Sys2Proof.Machine in
/-- Settles O17: CHAN.RETIRE is `retireChan`; CHAN.RESTORE is `putOn`, `beginAnew`, a record and the reply. -/
theorem channelsAreRetiredAndRestored : Obligations.ChannelsAreRetiredAndRestored := by
  intro s c ch ha hn hch place
  have lt : ch < 32 := hch ▸ (chanNamed_lt hn).1
  have lenC : ch < s.ana.chans.length := ha.units.chans ▸ lt
  have lenL : ch < s.ana.loops.length := ha.units.loops ▸ lt
  have reply := fun o st => State.replyF_answers s c o st [] 0 ha.ring
  refine ⟨fun hr => ?retire, fun hr => ?retired, fun hr => ?inService, fun n hr hp => ?placed, fun hr hp => ?nowhere⟩
  all_goals subst hch
  case retire =>
    obtain ⟨retired, slice, -⟩ := Chan.service_iff.1 (chan_retireChan (s := s) 4 lenC)
    obtain ⟨setpoint, latched, forced⟩ := loopSt_retireChan (s := s) 4 lenL
    obtain ⟨l, logs⟩ := retireChan_logs (c := u8 c.payload 0) 4 ha.running
    have replied := (retireChan_touches (s := s) (c := u8 c.payload 0) 4).then (replyF_touches c 0x0540 Status.ok [] 0)
    refine ⟨_, l, execChanRetire_in_service ha hn hr, ?_, ?_, ?_, ?_, ?_, logs.replyF .., replied.publishes
      , replied.onlyChannel, replied.eq⟩
    · rw [chan_replyF]; exact retired
    · rw [chan_replyF]; exact slice
    · rw [loopSt_replyF]; exact setpoint
    · rw [loopSt_replyF]; exact latched
    · rw [loopSt_replyF]; exact forced
  case retired => exact ⟨_, execChanRetire_retired ha hn hr, reply _ _⟩
  case inService => exact ⟨_, execChanRestore_in_service ha hn hr, reply _ _⟩
  case placed =>
    obtain ⟨retired, slice, logs⟩ := restored_serves (n := n) ha.running lenC
    refine ⟨_, execChanRestore_placed ha hn hr hp, ?_, ?_, logs.replyF .., fun hk => ?_
      , (restored_touches.then (replyF_touches ..)).eq⟩
    · rw [chan_replyF]; exact retired
    · rw [chan_replyF]; exact slice
    have touches := restored_of_no_checks (chan_check_of_all hk) (c := u8 c.payload 0) (n := n)
    exact ⟨State.replyF_answers_of s _ c 0x0541 Status.ok [] 0 ha.ring (touches.same .ports (by decide)) touches.node
      , (touches.mono (B := [.ports, .rcd, .slices, .banks, .chans, .loops, .service, .reading])).then (replyF_touches ..) |>.onlyChannel⟩
  case nowhere => exact ⟨_, execChanRestore_nowhere ha hn hr hp, reply _ _⟩
end

section
set_option Elab.async false
/-! ### Results of conversions -/

namespace Sys2Proof.Machine

/-! #### The slice that serves a channel -/

section
variable {s t : State} {b c d n k : Nat}

/-- The channel a slice serves is one of its bank, and has it (R280). -/
theorem servedBy_spec (h : servedBy s b k = some c) : b = c / 8 ∧ (chan s c).slice = some k := by
  have mem := List.mem_of_find?_eq_some h
  have pred := List.find?_some h
  obtain ⟨i, hi, rfl⟩ := List.mem_map.1 mem
  exact ⟨by have := List.mem_range.1 hi; omega, by simpa using pred⟩

theorem servedBy_congr (h : ∀ d, (chan t d).slice = (chan s d).slice) (b k : Nat) : servedBy t b k = servedBy s b k := by
  unfold servedBy
  congr 1
  funext d
  rw [h]

/-- Slice `n` serves the channel, and no rover visits it. -/
structure Serving (s : State) (c n : Nat) : Prop where
  chans : c < s.ana.chans.length
  slices : 10 * (c / 8) + n < s.ana.slices.length
  served : servedBy s (c / 8) n = some c
  unvisited : visitOn s c = none

theorem Serving.slice (h : Serving s c n) : (chan s c).slice = some n := (servedBy_spec h.served).2

theorem Touches.servedBy {B : List AnaPart} {C : Set Nat} (h : Touches B C s t) (hB : .service ∉ B := by decide) (b k : Nat) :
    servedBy t b k = servedBy s b k :=
  servedBy_congr (fun d => (Chan.service_eq.1 (h.service hB d)).2.1) b k

theorem Touches.visitOn {B : List AnaPart} {C : Set Nat} (h : Touches B C s t) (hB : .banks ∉ B := by decide) (c : Nat) :
    visitOn t c = visitOn s c := by
  unfold Machine.visitOn; rw [h.bankSt hB]

theorem Serving.of_touches {B : List AnaPart} {C : Set Nat} (h : Serving s c n) (k : Touches B C s t)
    (hS : .service ∉ B := by decide) (hB : .banks ∉ B := by decide) : Serving t c n := by
  obtain ⟨slices, chans, -, -⟩ := k.lengths
  exact ⟨by rw [chans]; exact h.chans, by rw [slices]; exact h.slices, by rw [k.servedBy hS]; exact h.served
    , by rw [k.visitOn hB]; exact h.unvisited⟩

/-! #### The self-check of the slice in place (R308, R313) -/

/-- A window in progress is broken off and waits to run again (R301). -/
def Chan.windowBroken (x : Chan) : Chan :=
  if x.inWindow then { x with inWindow := false, toneHz := 0, windowWaits := true
                              check := x.check.map fun q => { q with window := false } } else x

theorem State.breakWindow_eq (s : State) (c : Nat) : s.breakWindow c = s.setChan c Chan.windowBroken := by
  unfold State.breakWindow
  split
  · next h => exact State.setChan_congr _ _ (by simp [Chan.windowBroken, h])
  · next h => exact (State.setChan_eq_self _ (by simp [Chan.windowBroken, h])).symm

/-- A channel whose slice goes to check settles anew. -/
def Chan.checking (x : Chan) : Chan := { x with settling := true }.windowBroken

/-- What a result leaves in its channel: the word delivered and its end, and what of the upsets and the overrange. -/
def Chan.outcome (x : Chan) : Word × Nat × Nat × Bool × Bool := (x.last, x.endUs, x.upsets, x.inRange, x.retry)

theorem Chan.outcome_eq {x y : Chan} : x.outcome = y.outcome ↔ x.last = y.last ∧ x.endUs = y.endUs ∧ x.upsets = y.upsets
    ∧ x.inRange = y.inRange ∧ x.retry = y.retry := by
  simp [Chan.outcome]

theorem Chan.checking_keeps (x : Chan) : x.checking.service = x.service ∧ x.checking.outcome = x.outcome
    ∧ x.checking.settling = true ∧ x.checking.checkDue = x.checkDue := by
  unfold Chan.checking Chan.windowBroken; split <;> exact ⟨rfl, rfl, rfl, rfl⟩

/-- The self-check of the slice of a channel that no rover visits: at once, or in IDLE. -/
theorem State.checkNow_eq (h : Serving s c n) (hp : (chanCfg s c).pulsed = true → (Machine.slice s (c / 8) n).phase = .idle) :
    s.checkNow c = (s.setChan c Chan.checking).setSlice (c / 8) n Slice.toCheck := by
  have settles : Touches [.chans, .reading] {c} s (s.setChan c fun x => { x with settling := true }) := setChan_touches_service _
  have uncovered : covered s c = false := by simp [covered, h.unvisited]
  have inPlace : (s.setChan c fun x => { x with settling := true }).checkInPlace c n
      = (s.setChan c Chan.checking).setSlice (c / 8) n Slice.toCheck := by
    unfold State.checkInPlace
    rw [settles.chanCfg, slice_setChan, if_neg fun e => e.2 (hp e.1)]
    simp only [State.checkSlice, settles.servedBy, h.served, Option.elim_some, State.breakWindow_eq, State.setChan_setChan]
    rfl
  have unvisited : Machine.visitOn ((s.setChan c Chan.checking).setSlice (c / 8) n Slice.toCheck) c = none := h.unvisited
  simp only [State.checkNow, h.slice, uncovered, Bool.false_eq_true, if_false, inPlace, State.restartVisit, unvisited]

/-- The slice is in CHECK, and the channel settles; what was delivered of it stands. -/
theorem checkNow_checks (h : Serving s c n) (hp : (chanCfg s c).pulsed = true → (Machine.slice s (c / 8) n).phase = .idle)
    (hr : (Machine.slice s (c / 8) n).phase ≠ .retired) : (Machine.slice (s.checkNow c) (c / 8) n).phase = .check
      ∧ (chan (s.checkNow c) c) = (chan s c).checking ∧ Touches [.slices, .chans, .reading] {c} s (s.checkNow c) := by
  rw [State.checkNow_eq h hp]
  refine ⟨?_, ?_, ?_⟩
  · rw [slice_setSlice_self _ (by exact h.slices), slice_setChan, Slice.toCheck, if_neg hr]
  · rw [chan_setSlice, chan_setChan_self _ h.chans]
  · exact ((Touches.refl _ _ s).then (setChan_touches_service _ fun x => x.checking_keeps.1)).then
      (setSlice_touches _ toCheck_keeps_retired)


/-! #### What follows a result (R295, R299, R311) -/

/-- Two slices in the same phase with the settings in force. -/
theorem settingsChanged_congr {B : List AnaPart} {C : Set Nat} (h : Touches B C s t) (hB : .slices ∉ B := by decide) (c n : Nat) :
    settingsChanged t c n = settingsChanged s c n := by
  simp only [settingsChanged, h.slice hB, h.chanCfg, h.effRate, h.effChop]

theorem clearClamps_touches : Touches [.banks, .chans] {c} s (s.clearClamps c) :=
  ((Touches.refl _ _ s).then (setBank_touches _)).then (setChan_touches _)

theorem chan_clearClamps (h : c < s.ana.chans.length) : chan (s.clearClamps c) c = { chan s c with clamped := false } := by
  unfold State.clearClamps
  dsimp only
  rw [chan_setChan_self _ (by exact h)]; rfl

/-- A slice that is not at its conversions is left as it is. -/
theorem afterResult_of_not_run (h : (Machine.slice s (c / 8) n).phase ≠ .run) : s.afterResult c n = s := if_pos h

/-- The next conversion of a continuous channel starts under the same settings. -/
theorem afterResult_of_run (h : (Machine.slice s (c / 8) n).phase = .run) (hp : (chanCfg s c).pulsed = false)
    (hs : settingsChanged s c n = false) : s.afterResult c n = s.clearClamps c := by
  simp [State.afterResult, h, hp, hs]

/-- What ends the work on a result of a continuous channel: the slice goes to check where that is due, else the next
conversion starts. -/
theorem result_concludes {p : Bool} (h : Serving s c n) (hp : (chanCfg s c).pulsed = false)
    (hr : (Machine.slice s (c / 8) n).phase = .run) (hs : settingsChanged s c n = false) :
    (Machine.slice ((if p then s.checkNow c else s).afterResult c n) (c / 8) n).phase = (if p then .check else .run)
      ∧ (chan ((if p then s.checkNow c else s).afterResult c n) c).outcome = (chan s c).outcome
      ∧ (chan ((if p then s.checkNow c else s).afterResult c n) c).settling = (p || (chan s c).settling)
      ∧ Touches [.slices, .banks, .chans, .reading] {c} s ((if p then s.checkNow c else s).afterResult c n) := by
  cases p with
  | true =>
    obtain ⟨phase, chan, touches⟩ := checkNow_checks h (by simp [hp]) (by simp [hr])
    obtain ⟨-, outcome, settles, -⟩ := (Machine.chan s c).checking_keeps
    rw [if_pos rfl, afterResult_of_not_run (by simp [phase])]
    exact ⟨phase, by rw [chan, outcome], by rw [chan, settles]; rfl, touches.mono⟩
  | false =>
    rw [if_neg (by decide), afterResult_of_run hr hp hs]
    refine ⟨?_, ?_, ?_, clearClamps_touches.mono⟩
    · rw [clearClamps_touches.slice, hr]; rfl
    · rw [chan_clearClamps h.chans]; rfl
    · rw [chan_clearClamps h.chans]; rfl

/-! #### Reports -/

theorem deliverWord_touches (w : Word) (e : Nat) : Touches [.chans, .reading] {c} s (s.deliverWord c w e) :=
  setChan_touches_service _

theorem excitation_touches (limit : Bool) : Touches [.rcd, .repl, .chans] {c} s (s.excitation c limit) := by
  unfold State.excitation
  dsimp only
  refine .ite (.ite (setChan_touches _).mono ?_) (.ite (.ite ?_ (setChan_touches _).mono) (.refl ..))
  · exact (((Touches.refl _ _ s).then (setChan_touches _)).then (publishBad_touches _)).then (chanEvent_touches ..)
  · exact ((Touches.refl _ _ s).then (setChan_touches _)).then (chanEvent_touches ..)

theorem ne43_touches (cls : Nat) (x : Word) : Touches [.rcd, .loops] {c} s (s.ne43 c cls x) := by
  have ev {f : Loop → Loop} {m detail : Nat} : Touches [.rcd, .loops] {c} s ((s.setLoop c f).chanEvent m (c / 8) c
      (sliceOr (Machine.chan s c)) 0xFF detail (toUa x) 0) :=
    ((Touches.refl _ _ s).then (setLoop_touches _)).then (chanEvent_touches ..)
  exact .ite ev (.ite ev (.refl ..))

/-- A VALID result is linearised and published: what was delivered of the channel stands. -/
theorem validResult_touches (x : ChanCfg) (sl : Slice) (code : Int) (clamp : Bool) (e : Nat) :
    Touches [.rcd, .repl, .fresh, .chans, .loops] {c} s (s.validResult c x sl code clamp e) := by
  unfold State.validResult
  split
  next fv s0 free =>
  extract_lets err sig classed cls s1 s2
  have h0 : Touches [.rcd, .repl, .fresh, .chans, .loops] {c} s s0 := by
    rw [← show _ = s0 from congrArg Prod.snd free]
    exact ((Touches.refl _ _ s).then (setChan_touches _)).then takeFree_touches
  have h1 : Touches [.rcd, .repl, .fresh, .chans, .loops] {c} s s1 := .ite (h0.then (ne43_touches _ _)) h0
  have h2 : Touches [.rcd, .repl, .fresh, .chans, .loops] {c} s s2 := h1.then (setChan_touches _)
  clear_value s2 s1 cls
  refine .ite h0 ?_
  split
  · exact h2.then (publishBad_touches _)
  · next u y _ _ =>
    have valued := h1.then (setChan_touches (c := c) fun z => { z with base := some (u, e), value := y })
    exact .ite (valued.then (publishBad_touches _)) (.ite (valued.then (publishValid_touches ..)) (.ite
      (valued.then (publishValid_touches ..)) (.ite (valued.then (publishValid_touches ..)) (valued.then (publishValid_touches ..)))))

end
end Sys2Proof.Machine
end

section
set_option Elab.async false
/-! ### CONVERSION_RESULT on a continuous channel -/

namespace Sys2Proof.Machine

section
variable {s t : State} {c n : Nat} {r : ConvResult}

/-- The state in which a result of slice `n` finds its channel: the slice runs, and a bad frame is counted (R282). -/
def State.received (s : State) (c n : Nat) (r : ConvResult) : State :=
  (s.setSlice (c / 8) n fun y => { y with phase := .run }).countUpset c r

theorem countUpset_touches : Touches [.chans] {c} s (s.countUpset c r) := .ite (.refl ..) (setChan_touches _)

theorem received_touches : Touches [.slices, .retired, .chans] {c} s (s.received c n r) :=
  ((Touches.refl _ _ s).then (setSlice_touches_any _)).then countUpset_touches

theorem slice_received (h : Serving s c n) : slice (s.received c n r) (c / 8) n = { slice s (c / 8) n with phase := .run } := by
  unfold State.received
  rw [countUpset_touches.slice, slice_setSlice_self _ h.slices]

theorem chan_received (h : Serving s c n) : chan (s.received c n r) c
    = { chan s c with upsets := if frameOk r.frame then (chan s c).upsets else sat16 ((chan s c).upsets + 1) } := by
  unfold State.received State.countUpset
  by_cases hf : frameOk r.frame = true
  · simp only [hf, if_true, chan_setSlice]
  · rw [if_neg hf, if_neg hf, chan_setChan_self _ (by exact h.chans)]; rfl

theorem clampSet_received (h : Serving s c n) : clampSet (s.received c n r) c = clampSet s c := by
  simp only [clampSet, chan_received h, received_touches.chanCfg, received_touches.bankSt]

/-- The conversions of slice `n` run under the settings in force (R295). -/
theorem settings_received (h : Serving s c n) (hr : (slice s (c / 8) n).rate = effRate s (chanCfg s c))
    (hc : (slice s (c / 8) n).chop = effChop s (chanCfg s c)) : settingsChanged (s.received c n r) c n = false := by
  simp [settingsChanged, slice_received h, received_touches.chanCfg, received_touches.effRate, received_touches.effChop, hr, hc]

/-- The code of a result of slice `n`, before saturation (R292, R294). -/
def convCode (s : State) (c n : Nat) (r : ConvResult) : Int :=
  resultCode (chanCfg s c) (slice s (c / 8) n) (slice s (c / 8) n).chop r

/-- The result word of a status (Table 10-5). -/
def convWord (s : State) (c n : Nat) (r : ConvResult) (st : Nat) : Word :=
  resultWord st (convCode s c n r) (clampSet s c) (slice s (c / 8) n).chop false

theorem convCode_received (h : Serving s c n) : convCode (s.received c n r) c n r = convCode s c n r := by
  unfold convCode; rw [slice_received h, received_touches.chanCfg]; rfl

theorem convWord_received (h : Serving s c n) (st : Nat) : convWord (s.received c n r) c n r st = convWord s c n r st := by
  unfold convWord; rw [convCode_received h, slice_received h, clampSet_received h]

/-! #### What is delivered -/

theorem remapped_of_none (h : (chan s c).remap = none) : s.remapped c = s := by simp [State.remapped, h]

theorem excitation_of_none (h : (chan s c).excFault = false) : s.excitation c false = s := by simp [State.excitation, h]

/-- An open circuit or an excitation fault is delivered as OPEN (R302). -/
theorem channelResult_open {sg : Slice} (hm : (chan s c).remap = none)
    (ho : (chan s c).isOpen = true ∨ (chan s c).excFault = true ∧ r.excLimit = true) :
    s.channelResult c n sg r false = ((s.excitation c r.excLimit).deliverWord c (convWord s c n r 2) r.endUs).setChan c
      fun y => { y with retry := false } := by
  have excited := excitation_touches (s := s) (c := c) r.excLimit
  have remap : (chan (s.excitation c r.excLimit) c).remap = none := by
    rw [(Chan.service_eq.1 (excited.service (by decide) c)).2.2, hm]
  have isOpen : ((chan (s.excitation c r.excLimit) c).isOpen || (chan (s.excitation c r.excLimit) c).excFault) = true := by
    rcases ho with ho | ⟨hf, hl⟩
    · rw [(Chan.reading_eq.1 (excited.reading (by decide) c)).1, ho]; rfl
    · have e : s.excitation c r.excLimit = s.setChan c fun y => { y with excGood := 0 } := by simp [State.excitation, hf, hl]
      rw [e, chan_setChan_field (·.excFault) fun _ => by rfl, hf, Bool.or_true]
  simp only [State.channelResult, remapped_of_none remap, isOpen, if_true]
  rfl

/-- Without a fault, what is delivered depends on whether the code is beyond its range (R292, R308). -/
theorem channelResult_intact {sg : Slice} (hm : (chan s c).remap = none) (ho : (chan s c).isOpen = false)
    (hf : (chan s c).excFault = false) (hl : r.excLimit = false) (hp : (chanCfg s c).pulsed = false) :
    s.channelResult c n sg r false = if overloaded r (convCode s c n r) then
        if (chan s c).overrange then s.deliverWord c (convWord s c n r 3) r.endUs
        else if (chan s c).inRange && !(chan s c).retry then
          s.setChan c fun y => { y with retry := true, upsets := sat16 (y.upsets + 1) }
        else ((s.deliverWord c (convWord s c n r 3) r.endUs).setChan c fun y => { y with inRange := false, retry := true }).checkNow c
      else
        let z := (s.deliverWord c (convWord s c n r 0) r.endUs).validResult c (chanCfg s c) sg (satCode (convCode s c n r))
          (clampSet s c) r.endUs
        if (chan s c).retry && (chan s c).inRange && unroved s c then
          z.checkNow c else z := by
  simp only [State.channelResult, hl, excitation_of_none hf, remapped_of_none hm, ho, hf, hp, Bool.or_self, Bool.false_eq_true, if_false]
  rfl

/-- A good result of a channel that no rover visits: what `channelResult` leaves, with the self-check that a frame read
twice calls for, and what follows. -/
theorem workingResult_good (hv : visitOn s c = none) (hg : goodResult r = true)
    (hz : visitOn ((s.received c n r).channelResult c n (slice (s.received c n r) (c / 8) n) r false) c = none) :
    s.workingResult c n r =
      let z := (s.received c n r).channelResult c n (slice (s.received c n r) (c / 8) n) r false
      (if !frameOk r.frame && unroved s c then z.checkNow c else z).afterResult c n := by
  unfold State.received at hz ⊢
  simp only [State.workingResult, hv, Option.filter_none, hg, Bool.not_true, Bool.false_eq_true, if_false, hz]

/-- A result whose frame and re-read both fail (R282). -/
theorem workingResult_bad (hv : visitOn s c = none) (hg : goodResult r = false) :
    s.workingResult c n r = (((s.received c n r).linkCrc c n r false).checkNow c).afterResult c n := by
  simp only [State.workingResult, hv, Option.filter_none, hg, Bool.not_false, if_true]
  rfl

/-! #### The step -/

/-- What CONVERSION_RESULT changes. -/
abbrev resultParts : List AnaPart := [.rcd, .repl, .fresh, .slices, .banks, .chans, .loops, .reading, .retired]

/-- A frame as the statements about results have it. -/
theorem Touches.resultFrame (h : Touches resultParts {c} s t) : OnlyChannel s t c ∧ (∃ l, Logs s t l) ∧ Publishes s t
    ∧ t = { s with ana := t.ana, rcd := t.rcd, repl := t.repl, fresh := t.fresh } :=
  ⟨h.onlyChannel, h.logs, h.publishes, h.eq⟩

/-- Slice `n` serves a continuous channel in use, at conversions under the settings in force. -/
structure Converting (s : State) (c n : Nat) : Prop extends Serving s c n where
  lt : c < 32
  nine : n < 10
  running : s.core = .running
  phase : (Machine.slice s (c / 8) n).phase = .settle ∨ (Machine.slice s (c / 8) n).phase = .run
  used : (chanCfg s c).mode ≠ 0
  continuous : (chanCfg s c).pulsed = false
  prompt : (chan s c).late = none
  rate : (Machine.slice s (c / 8) n).rate = effRate s (chanCfg s c)
  chop : (Machine.slice s (c / 8) n).chop = effChop s (chanCfg s c)

theorem execConversionResult_working (h : Converting s c n) :
    execConversionResult (c / 8) n r s = .next (s.workingResult c n r) := by
  have row : ¬ (s.core ≠ .running ∨ 3 < c / 8 ∨ 9 < n) := by
    have := h.lt; have := h.nine; simp only [h.running, ne_eq, not_true_eq_false, false_or]; omega
  have phase : ¬ ((chanCfg s c).mode = 0 ∨ (slice s (c / 8) n).phase ≠ .settle ∧ (slice s (c / 8) n).phase ≠ .run) := by
    have := h.phase; have := h.used; tauto
  simp only [execConversionResult, if_neg row, h.served, h.prompt, Option.filter_none, if_neg phase]

/-- What is left of a result that is reported, once what follows it is done. -/
theorem report_concludes {z : State} {p : Bool} (h : Converting s c n)
    (hz : Touches [.rcd, .repl, .fresh, .chans, .loops, .reading] {c} (s.received c n r) z) :
    (slice ((if p then z.checkNow c else z).afterResult c n) (c / 8) n).phase = (if p then .check else .run)
      ∧ (chan ((if p then z.checkNow c else z).afterResult c n) c).outcome = (chan z c).outcome
      ∧ (chan ((if p then z.checkNow c else z).afterResult c n) c).settling = (p || (chan z c).settling)
      ∧ Touches resultParts {c} s ((if p then z.checkNow c else z).afterResult c n) := by
  have serving : Serving z c n := (h.toServing.of_touches received_touches).of_touches hz
  have continuous : (chanCfg z c).pulsed = false := by rw [hz.chanCfg, received_touches.chanCfg, h.continuous]
  have running : (slice z (c / 8) n).phase = .run := by rw [hz.slice, slice_received h.toServing]
  have settings : settingsChanged z c n = false := by rw [settingsChanged_congr hz, settings_received h.toServing h.rate h.chop]
  obtain ⟨phase, outcome, settling, touches⟩ := result_concludes (p := p) serving continuous running settings
  exact ⟨phase, outcome, settling, (((Touches.refl _ _ s).then received_touches).then hz).then touches⟩

/-- The same where the report itself sends the slice to check. -/
theorem checked_concludes {w : State} {p : Bool} (h : Converting s c n)
    (hw : Touches [.rcd, .repl, .fresh, .chans, .loops, .reading] {c} (s.received c n r) w) :
    (slice ((if p then (w.checkNow c).checkNow c else w.checkNow c).afterResult c n) (c / 8) n).phase = .check
      ∧ (chan ((if p then (w.checkNow c).checkNow c else w.checkNow c).afterResult c n) c).outcome = (chan w c).outcome
      ∧ Touches resultParts {c} s ((if p then (w.checkNow c).checkNow c else w.checkNow c).afterResult c n)
      ∧ visitOn (w.checkNow c) c = none := by
  have serving : Serving w c n := (h.toServing.of_touches received_touches).of_touches hw
  have continuous : (chanCfg w c).pulsed = false := by rw [hw.chanCfg, received_touches.chanCfg, h.continuous]
  have running : (slice w (c / 8) n).phase = .run := by rw [hw.slice, slice_received h.toServing]
  obtain ⟨phase1, chan1, touches1⟩ := checkNow_checks serving (by simp [continuous]) (by simp [running])
  have outcome1 : (chan (w.checkNow c) c).outcome = (chan w c).outcome := by rw [chan1, (Chan.checking_keeps _).2.1]
  have serving1 := serving.of_touches touches1
  have done : Touches resultParts {c} s (w.checkNow c) := (((Touches.refl _ _ s).then received_touches).then hw).then touches1
  cases p with
  | false =>
    rw [if_neg (by decide), afterResult_of_not_run (by simp [phase1])]
    exact ⟨phase1, outcome1, done, serving1.unvisited⟩
  | true =>
    obtain ⟨phase2, chan2, touches2⟩ := checkNow_checks serving1
      (by simp [touches1.chanCfg, continuous]) (by simp [phase1])
    rw [if_pos rfl, afterResult_of_not_run (by simp [phase2])]
    exact ⟨phase2, by rw [chan2, (Chan.checking_keeps _).2.1, outcome1], done.then touches2, serving1.unvisited⟩

/-! #### The statuses (Table 10-5) -/

/-- The channel has no fault that a result reports, and no remap whose first result this is. -/
structure Intact (s : State) (c : Nat) (r : ConvResult) : Prop where
  good : goodResult r = true
  closed : (chan s c).isOpen = false
  excited : (chan s c).excFault = false
  within : r.excLimit = false
  settled : (chan s c).remap = none

/-- A report is the work on a good result. -/
theorem execConversionResult_good {z : State} (h : Converting s c n) (hg : goodResult r = true)
    (hz : (s.received c n r).channelResult c n (slice (s.received c n r) (c / 8) n) r false = z) (hv : visitOn z c = none) :
    execConversionResult (c / 8) n r s =
      .next ((if !frameOk r.frame && unroved s c then z.checkNow c else z).afterResult c n) := by
  subst hz
  rw [execConversionResult_working h, workingResult_good h.unvisited hg hv]

theorem channelResult_received (h : Converting s c n) (hi : Intact s c r) :
    (s.received c n r).channelResult c n (slice (s.received c n r) (c / 8) n) r false =
      if overloaded r (convCode s c n r) then
        if (chan s c).overrange then (s.received c n r).deliverWord c (convWord s c n r 3) r.endUs
        else if (chan s c).inRange && !(chan s c).retry then
          (s.received c n r).setChan c fun y => { y with retry := true, upsets := sat16 (y.upsets + 1) }
        else (((s.received c n r).deliverWord c (convWord s c n r 3) r.endUs).setChan c
          fun y => { y with inRange := false, retry := true }).checkNow c
      else
        let z := ((s.received c n r).deliverWord c (convWord s c n r 0) r.endUs).validResult c (chanCfg s c)
          (slice (s.received c n r) (c / 8) n) (satCode (convCode s c n r)) (clampSet s c) r.endUs
        if (chan s c).retry && (chan s c).inRange && unroved (s.received c n r) c then z.checkNow c else z := by
  have pulsed : (chanCfg (s.received c n r) c).pulsed = false := by rw [received_touches.chanCfg, h.continuous]
  have chan1 := chan_received (r := r) h.toServing
  rw [channelResult_intact (by rw [chan1]; exact hi.settled) (by rw [chan1]; exact hi.closed) (by rw [chan1]; exact hi.excited)
    hi.within pulsed]
  simp only [convCode_received h.toServing, convWord_received h.toServing, clampSet_received h.toServing, chan1
    , received_touches.chanCfg]

theorem chan_deliverWord (h : c < s.ana.chans.length) (w : Word) (e : Nat) :
    chan (s.deliverWord c w e) c = { chan s c with last := w, endUs := e, settling := false } := chan_setChan_self _ h

/-- A VALID result is delivered, and the slice checked where its frame was read twice and no rover visits (R308). -/
theorem conversion_valid (h : Converting s c n) (hi : Intact s c r) (ho : overloaded r (convCode s c n r) = false)
    (hr : (chan s c).retry = false) : ∃ t, execConversionResult (c / 8) n r s = .next t
      ∧ (chan t c).last = convWord s c n r 0 ∧ (chan t c).endUs = r.endUs
      ∧ (chan t c).settling = (!frameOk r.frame && unroved s c)
      ∧ (slice t (c / 8) n).phase = (if !frameOk r.frame && unroved s c then .check else .run) ∧ Touches resultParts {c} s t := by
  have eq := channelResult_received h hi
  simp only [ho, hr, Bool.false_and, Bool.false_eq_true, if_false] at eq
  have delivered := deliverWord_touches (s := s.received c n r) (c := c) (convWord s c n r 0) r.endUs
  have valid := validResult_touches (s := (s.received c n r).deliverWord c (convWord s c n r 0) r.endUs) (c := c) (chanCfg s c)
    (slice (s.received c n r) (c / 8) n) (satCode (convCode s c n r)) (clampSet s c) r.endUs
  have touches := ((Touches.refl [.rcd, .repl, .fresh, .chans, .loops, .reading] {c} _).then delivered).then valid
  have serving := h.toServing.of_touches (received_touches (c := c) (n := n) (r := r))
  obtain ⟨-, last, endUs, settling⟩ := Chan.reading_eq.1 (valid.reading (by decide) c)
  rw [chan_deliverWord serving.chans] at last endUs settling
  obtain ⟨phase, outcome, settles, done⟩ := report_concludes (p := !frameOk r.frame && unroved s c) h touches
  obtain ⟨last', endUs', -⟩ := Chan.outcome_eq.1 outcome
  refine ⟨_, execConversionResult_good h hi.good eq (serving.of_touches touches).unvisited, last'.trans last, endUs'.trans endUs
    , ?_, phase, done⟩
  rw [settles, settling, Bool.or_false]

/-- An OVERRANGE that stands is delivered as such. -/
theorem conversion_overrange (h : Converting s c n) (hi : Intact s c r) (ho : overloaded r (convCode s c n r) = true)
    (hd : (chan s c).overrange = true) : ∃ t, execConversionResult (c / 8) n r s = .next t
      ∧ (chan t c).last = convWord s c n r 3 ∧ (chan t c).endUs = r.endUs ∧ Touches resultParts {c} s t := by
  have eq := channelResult_received h hi
  simp only [ho, hd, if_true] at eq
  have serving := h.toServing.of_touches (received_touches (c := c) (n := n) (r := r))
  have delivered := deliverWord_touches (s := s.received c n r) (c := c) (convWord s c n r 3) r.endUs
  obtain ⟨-, outcome, -, done⟩ := report_concludes (p := !frameOk r.frame && unroved s c) h delivered.mono
  rw [chan_deliverWord serving.chans] at outcome
  obtain ⟨last, endUs, -⟩ := Chan.outcome_eq.1 outcome
  exact ⟨_, execConversionResult_good h hi.good eq (serving.of_touches delivered).unvisited, last, endUs, done⟩

/-- The first OVERRANGE after a result in range is discarded, and the next output replaces it (R308). -/
theorem conversion_discarded (h : Converting s c n) (hi : Intact s c r) (ho : overloaded r (convCode s c n r) = true)
    (hd : (chan s c).overrange = false) (hin : (chan s c).inRange = true) (hr : (chan s c).retry = false) :
    ∃ t, execConversionResult (c / 8) n r s = .next t ∧ (chan t c).last = (chan s c).last ∧ (chan t c).endUs = (chan s c).endUs
      ∧ (chan t c).retry = true ∧ Touches resultParts {c} s t := by
  have eq := channelResult_received h hi
  simp only [ho, hd, hin, hr, Bool.not_false, Bool.and_self, Bool.false_eq_true, if_true, if_false] at eq
  have serving := h.toServing.of_touches (received_touches (c := c) (n := n) (r := r))
  have discarded := setChan_touches (s := s.received c n r) (c := c) fun y => { y with retry := true, upsets := sat16 (y.upsets + 1) }
  obtain ⟨-, outcome, -, done⟩ := report_concludes (p := !frameOk r.frame && unroved s c) h discarded.mono
  rw [chan_setChan_self _ serving.chans, chan_received h.toServing] at outcome
  obtain ⟨last, endUs, -, -, retry⟩ := Chan.outcome_eq.1 outcome
  exact ⟨_, execConversionResult_good h hi.good eq (serving.of_touches discarded).unvisited, last, endUs, retry, done⟩

/-- An OVERRANGE whose repetition is one too, or that no result in range came before, is delivered and calls the
self-check (R308). -/
theorem conversion_declared (h : Converting s c n) (hi : Intact s c r) (ho : overloaded r (convCode s c n r) = true)
    (hd : (chan s c).overrange = false) (hin : (chan s c).inRange = false ∨ (chan s c).retry = true) :
    ∃ t, execConversionResult (c / 8) n r s = .next t ∧ (chan t c).last = convWord s c n r 3 ∧ (chan t c).endUs = r.endUs
      ∧ (chan t c).inRange = false ∧ (slice t (c / 8) n).phase = .check ∧ Touches resultParts {c} s t := by
  have eq := channelResult_received h hi
  have repeated : ((chan s c).inRange && !(chan s c).retry) = false := by rcases hin with e | e <;> simp [e]
  simp only [ho, hd, repeated, Bool.false_eq_true, if_true, if_false] at eq
  have serving := h.toServing.of_touches (received_touches (c := c) (n := n) (r := r))
  have delivered := deliverWord_touches (s := s.received c n r) (c := c) (convWord s c n r 3) r.endUs
  have declared := ((Touches.refl [.rcd, .repl, .fresh, .chans, .loops, .reading] {c} _).then delivered).then
    (setChan_touches (c := c) fun y => { y with inRange := false, retry := true })
  obtain ⟨phase, outcome, done, unvisited⟩ := checked_concludes (p := !frameOk r.frame && unroved s c) h declared
  rw [chan_setChan_self _ (by exact serving.of_touches delivered |>.chans), chan_deliverWord serving.chans] at outcome
  obtain ⟨last, endUs, -, inRange, -⟩ := Chan.outcome_eq.1 outcome
  exact ⟨_, execConversionResult_good h hi.good eq unvisited, last, endUs, inRange, phase, done⟩

/-- A result of a channel with a fault is delivered as OPEN (R302). -/
theorem conversion_open (h : Converting s c n) (hg : goodResult r = true) (hm : (chan s c).remap = none)
    (ho : (chan s c).isOpen = true ∨ (chan s c).excFault = true ∧ r.excLimit = true) :
    ∃ t, execConversionResult (c / 8) n r s = .next t ∧ (chan t c).last = convWord s c n r 2 ∧ (chan t c).endUs = r.endUs
      ∧ Touches resultParts {c} s t := by
  have serving := h.toServing.of_touches (received_touches (c := c) (n := n) (r := r))
  have chan1 := chan_received (r := r) h.toServing
  have eq := channelResult_open (s := s.received c n r) (n := n) (r := r) (sg := slice (s.received c n r) (c / 8) n)
    (by rw [chan1]; exact hm) (by rw [chan1]; exact ho)
  rw [convWord_received h.toServing] at eq
  have excited := excitation_touches (s := s.received c n r) (c := c) r.excLimit
  have delivered := ((Touches.refl [.rcd, .repl, .fresh, .chans, .loops, .reading] {c} _).then excited).then
    (deliverWord_touches (c := c) (convWord s c n r 2) r.endUs)
  have report := delivered.then (setChan_touches (c := c) fun y => { y with retry := false })
  obtain ⟨-, outcome, -, done⟩ := report_concludes (p := !frameOk r.frame && unroved s c) h report
  rw [chan_setChan_self _ (by exact serving.of_touches delivered |>.chans)
    , chan_deliverWord (serving.of_touches excited).chans] at outcome
  obtain ⟨last, endUs, -⟩ := Chan.outcome_eq.1 outcome
  exact ⟨_, execConversionResult_good h hg eq (serving.of_touches report).unvisited, last, endUs, done⟩

/-- A result whose frame and re-read both fail their CRC-8 is delivered as LINK_CRC (R282). -/
theorem conversion_linkCrc (h : Converting s c n) (hf : frameOk r.frame = false) (hr : frameOk r.reread = false) :
    ∃ t, execConversionResult (c / 8) n r s = .next t
      ∧ (chan t c).last = resultWord 4 0 (clampSet s c) (slice s (c / 8) n).chop false ∧ (chan t c).endUs = r.endUs
      ∧ (chan t c).upsets = sat16 ((chan s c).upsets + 1) ∧ (slice t (c / 8) n).phase = .check ∧ Touches resultParts {c} s t := by
  have serving := h.toServing.of_touches (received_touches (c := c) (n := n) (r := r))
  have delivered := deliverWord_touches (s := s.received c n r) (c := c)
    (resultWord 4 0 (clampSet (s.received c n r) c) (slice (s.received c n r) (c / 8) n).chop false) r.endUs
  have report : Touches [.rcd, .repl, .fresh, .chans, .loops, .reading] {c} (s.received c n r)
      ((s.received c n r).linkCrc c n r false) :=
    ((Touches.refl _ _ _).then delivered).then (setChan_touches (c := c) fun y => { y with retry := false })
  have word : chan ((s.received c n r).linkCrc c n r false) c = { chan s c with
      last := resultWord 4 0 (clampSet s c) (slice s (c / 8) n).chop false, endUs := r.endUs, settling := false, retry := false
      upsets := sat16 ((chan s c).upsets + 1) } := by
    unfold State.linkCrc
    rw [chan_setChan_self _ (by exact serving.of_touches delivered |>.chans), chan_deliverWord serving.chans
      , chan_received h.toServing, clampSet_received h.toServing, slice_received h.toServing, if_neg (by simp [hf])]
  obtain ⟨phase, outcome, done, -⟩ := checked_concludes (p := false) h report
  rw [if_neg (by decide)] at phase outcome done
  rw [word] at outcome
  obtain ⟨last, endUs, upsets, -⟩ := Chan.outcome_eq.1 outcome
  have run := execConversionResult_working (r := r) h
  rw [workingResult_bad h.unvisited (by simp [goodResult, hf, hr])] at run
  exact ⟨_, run, last, endUs, upsets, phase, done⟩

end
end Sys2Proof.Machine
end

section
set_option Elab.async false
/-! ### Requests, lead times and wire-check windows -/

namespace Sys2Proof.Machine

section
variable {s : State} {c n : Nat}

/-- The slice of a channel of the node is one of the node's. -/
theorem slice_index_lt (hu : Units s) (hc : c < 32) (hn : n < 10) : 10 * (c / 8) + n < s.ana.slices.length := by
  rw [hu.slices]; omega

/-- A code is beyond its range where its conversion saturated or it does not fit its 24 bits (R292). -/
theorem overloaded_eq_true {r : ConvResult} {code : Int} :
    overloaded r code = true ↔ r.overload = true ∨ code < -8388607 ∨ 8388607 < code := by
  simp only [overloaded, Bool.or_eq_true, decide_eq_true_eq]

theorem overloaded_eq_false {r : ConvResult} {code : Int} :
    overloaded r code = false ↔ r.overload = false ∧ -8388607 ≤ code ∧ code ≤ 8388607 := by
  simp only [overloaded, Bool.or_eq_false_iff, decide_eq_false_iff_not, not_or, not_lt]

/-! #### Requests (R293) -/

/-- A request is issued on an idle slice, whose lead time begins, and waits on another. -/
theorem execPulsedRequest_due (hr : s.core = .running) (hs : (chan s c).slice = some n) (hp : (chanCfg s c).pulsed = true)
    (hm : (chanCfg s c).mode ≠ 0) (hd : (chan s c).requestDue ≤ s.tm.now) :
    execPulsedRequest c s = .next (
      let s1 := s.setChan c fun y => { y with requestDue := s.tm.now + (chanCfg s c).interval * 1000 }
      if (slice s (c / 8) n).phase = .idle then
        s1.setSlice (c / 8) n fun y => y.toLead (chanCfg s c) (s.tm.now + (chanCfg s c).lead)
      else s1.setChan c fun y => { y with requestWaits := true }) := by
  simp only [execPulsedRequest, hs, hr, hp, hm, hd, ne_eq, not_false_eq_true, and_self, if_true]

theorem pulsedRequest_runs (hu : Units s) (hr : s.core = .running) (hc : c < 32) (hs : (chan s c).slice = some n) (hn : n < 10)
    (hp : (chanCfg s c).pulsed = true) (hm : (chanCfg s c).mode ≠ 0) (hd : (chan s c).requestDue ≤ s.tm.now) :
    ∃ t, execPulsedRequest c s = .next t ∧ (chan t c).requestDue = s.tm.now + (chanCfg s c).interval * 1000
      ∧ ((slice s (c / 8) n).phase = .idle → (slice t (c / 8) n).phase = .lead
          ∧ (slice t (c / 8) n).leadEnd = s.tm.now + (chanCfg s c).lead)
      ∧ ((slice s (c / 8) n).phase ≠ .idle → (chan t c).requestWaits = true ∧ t.ana.slices = s.ana.slices)
      ∧ Touches [.slices, .chans] {c} s t := by
  have run := execPulsedRequest_due hr hs hp hm hd
  have len : c < s.ana.chans.length := hu.chans ▸ hc
  have index := slice_index_lt hu hc hn
  have asked := (Touches.refl [.slices, .chans] {c} s).then (setChan_touches (c := c)
    fun y => { y with requestDue := s.tm.now + (chanCfg s c).interval * 1000 })
  by_cases hi : (slice s (c / 8) n).phase = .idle
  · simp only [if_pos hi] at run
    refine ⟨_, run, ?_, fun _ => ?_, fun h => absurd hi h, asked.then (setSlice_touches _ (toLead_keeps_retired _ _))⟩
    · rw [chan_setSlice, chan_setChan_self _ len]
    · rw [slice_setSlice_self _ (by exact index), slice_setChan, Slice.toLead, if_neg (by simp [hi])]
      exact ⟨rfl, rfl⟩
  · simp only [if_neg hi] at run
    have waits := asked.then (setChan_touches (c := c) fun y => { y with requestWaits := true })
    refine ⟨_, run, ?_, fun h => absurd h hi, fun _ => ⟨?_, rfl⟩, waits⟩ <;>
      rw [chan_setChan_self _ (by rw [asked.lengths.2.1]; exact len), chan_setChan_self _ len]

/-! #### The filter starts (R295, R299) -/

theorem leadTimeExpiry_starts (hu : Units s) (hr : s.core = .running) (hc : c < 32) (hn : n < 10)
    (hp : (slice s (c / 8) n).phase = .lead) (he : (slice s (c / 8) n).leadEnd ≤ s.tm.now)
    (hs : servedBy s (c / 8) n = some c) :
    execLeadTimeExpiry (c / 8) n s = .next (s.startFilter c n)
      ∧ slice (s.startFilter c n) (c / 8) n
          = (slice s (c / 8) n).filterStart (effRate s (chanCfg s c)) (effChop s (chanCfg s c)) ((fabUs s).getD 0)
      ∧ Touches [.slices, .retired, .banks, .chans] {c} s (s.startFilter c n) := by
  have bank : c / 8 < 4 := by omega
  refine ⟨?_, ?_, ((Touches.refl _ _ s).then (setSlice_touches_any _)).then clearClamps_touches⟩
  · simp only [execLeadTimeExpiry, hr, bank, hp, he, and_self, if_true, hs, Option.elim_some]
  · unfold State.startFilter
    rw [clearClamps_touches.slice, slice_setSlice_self _ (slice_index_lt hu hc hn)]

/-! #### Wire check (R300 to R302, R364) -/

/-- The loop is busy with a transaction or its carrier (R364). -/
def loopBusy (s : State) (c : Nat) : Bool :=
  (chanCfg s c).fsk && ((loopSt s c).trans.any (·.sent.isSome) || decide (s.tm.now < (loopSt s c).carrierEnd))

theorem openWindow_touches (early : Bool) : Touches [.chans] {c} s (s.openWindow c early) := setChan_touches _

/-- A window that is due starts, or waits while the loop is busy. -/
theorem execWireCheckWindowStart_due (hr : s.core = .running) (hs : (chan s c).slice = some n) (hm : (chanCfg s c).mode ≠ 0)
    (hw : (chan s c).inWindow = false) (hp : (slice s (c / 8) n).phase ≠ .check) (hk : (chanCfg s c).wire = true)
    (hd : (chan s c).windowDue ≤ s.tm.now) : execWireCheckWindowStart c s = .next (
      if loopBusy s c then s.setChan c fun y => { y with windowWaits := true } else s.openWindow c false) := by
  have due : windowIsDue s c = true := by simp [windowIsDue, hk, hd]
  cases sent : (loopSt s c).trans <;>
    simp only [execWireCheckWindowStart, hs, hr, hm, hw, hp, due, sent, loopBusy, Option.any_none, Option.any_some, ne_eq
      , not_false_eq_true, Bool.not_false, true_or, and_self, if_true]

theorem windowStart_runs (hu : Units s) (hr : s.core = .running) (hc : c < 32) (hs : (chan s c).slice = some n)
    (hm : (chanCfg s c).mode ≠ 0) (hw : (chan s c).inWindow = false) (hp : (slice s (c / 8) n).phase ≠ .check)
    (hk : (chanCfg s c).wire = true) (hd : (chan s c).windowDue ≤ s.tm.now) :
    ∃ t, execWireCheckWindowStart c s = .next t ∧ (chan t c).inWindow = (!loopBusy s c)
      ∧ (loopBusy s c = true → (chan t c).windowWaits = true)
      ∧ (loopBusy s c = false → (chan t c).windowDue = nextDue (chan s c).windowDue ((chanCfg s c).wireS * 1000000) s.tm.now
          ∧ (chan t c).toneHz = toneHz (chanCfg s c) (toneRate s c)
          ∧ (chan t c).windowEnd = s.tm.now + windowUs (chanCfg s c) (toneRate s c))
      ∧ OnlyChannel s t c ∧ t = { s with ana := { s.ana with chans := t.ana.chans } } := by
  have run := execWireCheckWindowStart_due hr hs hm hw hp hk hd
  have len : c < s.ana.chans.length := hu.chans ▸ hc
  cases hb : loopBusy s c with
  | true =>
    rw [hb, if_pos rfl] at run
    refine ⟨_, run, ?_, fun _ => ?_, nofun, (setChan_touches _).onlyChannel, rfl⟩ <;> rw [chan_setChan_self _ len]
    exact hw
  | false =>
    rw [hb, if_neg (by decide)] at run
    refine ⟨_, run, ?_, nofun, fun _ => ?_, (openWindow_touches _).onlyChannel, rfl⟩
    · rw [State.openWindow, chan_setChan_self _ len]; rfl
    · rw [State.openWindow, chan_setChan_self _ len]
      exact ⟨if_pos (.inr hd), rfl, rfl⟩

/-- The state in which a window starts all the same: the response in progress is discarded (R364 step 5). -/
theorem windowPreemption_starts (hu : Units s) (hr : s.core = .running) (hc : c < 32) (hw : (chan s c).windowWaits = true)
    (hd : (chan s c).windowDue + 500000 ≤ s.tm.now) :
    ∃ t, execWindowPreemption c s = .next t ∧ (chan t c).inWindow = true ∧ (chan t c).windowWaits = false
      ∧ (loopSt t c).preempts = sat16 ((loopSt s c).preempts + 1) ∧ (∀ tr, (loopSt t c).trans = some tr → tr.sent = none)
      ∧ OnlyChannel s t c ∧ t = { s with ana := { s.ana with chans := t.ana.chans, loops := t.ana.loops } } := by
  have run : execWindowPreemption c s = .next ((s.openWindow c false).setLoop c fun l =>
      { l with preempts := sat16 (l.preempts + 1), trans := l.trans.map fun t => { t with sent := none } }) := by
    simp only [execWindowPreemption, hr, hw, hd, and_self, if_true]
  have chans : c < s.ana.chans.length := hu.chans ▸ hc
  have loops : c < s.ana.loops.length := hu.loops ▸ hc
  have touches := ((Touches.refl [.chans, .loops] {c} s).then (openWindow_touches (c := c) false)).then (setLoop_touches (c := c) fun l =>
    { l with preempts := sat16 (l.preempts + 1), trans := l.trans.map fun t => { t with sent := none } })
  refine ⟨_, run, ?_, ?_, ?_, fun tr htr => ?_, touches.onlyChannel, rfl⟩
  · rw [chan_setLoop, State.openWindow, chan_setChan_self _ chans]
  · rw [chan_setLoop, State.openWindow, chan_setChan_self _ chans]
  · rw [loopSt_setLoop_self _ (by exact loops)]; rfl
  · rw [loopSt_setLoop_self _ (by exact loops)] at htr
    obtain ⟨tr0, -, rfl⟩ := Option.map_eq_some_iff.1 htr
    rfl

/-! #### The end of a window (R301, R302) -/

theorem startFilter_touches : Touches [.slices, .retired, .banks, .chans] {c} s (s.startFilter c n) :=
  ((Touches.refl _ _ s).then (setSlice_touches_any _)).then clearClamps_touches

theorem settleAgain_touches : Touches [.slices, .retired, .banks, .chans, .reading] {c} s (s.settleAgain c n) := by
  have settles : Touches [.slices, .retired, .banks, .chans, .reading] {c} s
      (s.setChan c fun x => { x with settling := true }) := (setChan_touches_service _).mono
  exact .ite (settles.then startFilter_touches) settles

theorem chan_settleAgain (h : c < s.ana.chans.length) :
    ∃ b, chan (s.settleAgain c n) c = { chan s c with settling := true, clamped := b } := by
  unfold State.settleAgain
  dsimp only
  split
  · refine ⟨false, ?_⟩
    rw [State.startFilter, chan_clearClamps (by simpa using h), chan_setSlice, chan_setChan_self _ h]
  · exact ⟨_, chan_setChan_self _ h⟩

/-- A BAD quality found is the channel's, and its last published value stays (R305). -/
theorem chan_publishBad (h : c < s.ana.chans.length) (q : BitVec 8) : chan (s.publishBad c q) c
    = { chan s c with quality := q, published := (chan s c).published.map fun p => (q, p.2) } := by
  have tags (l : List Nat) (u : State) : Touches [.repl] ∅ u (l.foldl (fun (acc : State) t => acc.publishHeld t q) u) :=
    .foldl fun _ _ _ => publish_touches ..
  unfold State.publishBad
  rw [(tags _ _).chan, chan_setChan_self _ h]

/-- What a window may change. -/
abbrev windowParts : List AnaPart := [.rcd, .repl, .slices, .retired, .banks, .chans, .reading]

/-- A window is judged: its channel is open or not, with the records of that, and nothing else of the window changes. -/
structure Judged (u t : State) (c : Nat) (isOpen : Bool) (types : List Nat) : Prop where
  inWindow : (chan t c).inWindow = (chan u c).inWindow
  ohms : (chan t c).ohms = (chan u c).ohms
  check : (chan t c).check = (chan u c).check
  found : (chan t c).isOpen = isOpen
  logs : Logs u t types
  touches : Touches windowParts {c} u t

section
variable {u : State} {ohms : Nat} (len : c < u.ana.chans.length)
include len

/-- The third window in a row below the threshold ends an open circuit (R302). -/
theorem judgeWindow_ends (hr : u.core = .running) (hf : (chanCfg u c).fsk = false) (ho : (chan u c).isOpen = true)
    (hb : ohms * 10 < 8 * (chanCfg u c).openKohm * 1000) (hg : 2 ≤ (chan u c).wireGood) :
    Judged u (u.judgeWindow c ohms) c false [0x0206] := by
  have third : 3 ≤ (chan u c).wireGood + 1 := by omega
  have eq : u.judgeWindow c ohms = ((u.setChan c fun y => { y with isOpen := false, wireGood := 0 }).settleAgain c
      (sliceOr (chan u c))).chanEvent 6 (c / 8) c (sliceOr (chan u c)) 0xFF 0 (satI32 ohms) 0 := by
    simp only [State.judgeWindow, ho, hb, third, hf, if_true, Bool.false_eq_true, if_false]
  rw [eq]
  have closed : Touches [.slices, .retired, .banks, .chans, .reading] {c} u (u.setChan c fun y => { y with isOpen := false, wireGood := 0 }) :=
    (setChan_touches_service _).mono
  have settles := closed.then (settleAgain_touches (c := c) (n := sliceOr (chan u c)))
  obtain ⟨b, chan1⟩ := chan_settleAgain (s := u.setChan c fun y => { y with isOpen := false, wireGood := 0 })
    (n := sliceOr (chan u c)) (by simpa using len)
  rw [chan_setChan_self _ len] at chan1
  refine ⟨?_, ?_, ?_, ?_, ?_, settles.mono.then (chanEvent_touches ..)⟩
  case refine_5 => exact (Logs.nil_of_eq (settles.same .rcd (by decide))).trans (chanEvent_logs _ _ _ _ _ _ _ _ (settles.core.trans hr))
  all_goals rw [(chanEvent_touches ..).chan, chan1]

/-- Any other window leaves an open circuit as it is. -/
theorem judgeWindow_stays (ho : (chan u c).isOpen = true)
    (hb : ¬ (ohms * 10 < 8 * (chanCfg u c).openKohm * 1000 ∧ 2 ≤ (chan u c).wireGood)) :
    Judged u (u.judgeWindow c ohms) c true [] := by
  have counted (m : Nat) : Judged u (u.setChan c fun y => { y with wireGood := m }) c true [] := by
    have touches : Touches windowParts {c} u (u.setChan c fun y => { y with wireGood := m }) := (setChan_touches _).mono
    refine ⟨?_, ?_, ?_, ?_, .nil_of_eq rfl, touches⟩ <;> rw [chan_setChan_self _ len]
    exact ho
  by_cases below : ohms * 10 < 8 * (chanCfg u c).openKohm * 1000
  · have few : ¬ 3 ≤ (chan u c).wireGood + 1 := fun h => hb ⟨below, by omega⟩
    have eq : u.judgeWindow c ohms = u.setChan c fun y => { y with wireGood := (chan u c).wireGood + 1 } := by
      simp only [State.judgeWindow, ho, below, few, if_true, if_false]
      exact State.setChan_congr _ _ rfl
    exact eq ▸ counted _
  · have eq : u.judgeWindow c ohms = u.setChan c fun y => { y with wireGood := 0 } := by
      simp only [State.judgeWindow, ho, below, if_true, if_false]
    exact eq ▸ counted 0

/-- A window above the threshold finds an open circuit (R301, R302). -/
theorem judgeWindow_opens (hr : u.core = .running) (hf : (chanCfg u c).fsk = false) (ho : (chan u c).isOpen = false)
    (hb : (chanCfg u c).openKohm * 1000 < ohms) :
    Judged u (u.judgeWindow c ohms) c true [0x0205] ∧ (chan (u.judgeWindow c ohms) c).quality = qOpen := by
  have opened : Touches [.repl, .chans, .reading] {c} u ((u.setChan c fun y => { y with isOpen := true, wireGood := 0 }).publishBad c qOpen) :=
    ((Touches.refl _ _ u).then (setChan_touches_service _)).then (publishBad_touches _)
  have fsk : (chanCfg (((u.setChan c fun y => { y with isOpen := true, wireGood := 0 }).publishBad c qOpen).chanEvent 5 (c / 8) c
      (sliceOr (chan u c)) 0xFF 1 (satI32 ohms) 0) c).fsk = false := by rw [(chanEvent_touches ..).chanCfg, opened.chanCfg, hf]
  have eq : u.judgeWindow c ohms = ((u.setChan c fun y => { y with isOpen := true, wireGood := 0 }).publishBad c qOpen).chanEvent
      5 (c / 8) c (sliceOr (chan u c)) 0xFF 1 (satI32 ohms) 0 := by
    simp only [State.judgeWindow, ho, hb, if_true, Bool.false_eq_true, if_false, State.suspendFsk, fsk]
  have found := chan_publishBad (s := u.setChan c fun y => { y with isOpen := true, wireGood := 0 }) (by simpa using len) qOpen
  rw [chan_setChan_self _ len] at found
  rw [eq]
  refine ⟨⟨?_, ?_, ?_, ?_, ?_, opened.mono.then (chanEvent_touches ..)⟩, ?_⟩
  case refine_5 => exact (Logs.nil_of_eq (opened.same .rcd (by decide))).trans (chanEvent_logs _ _ _ _ _ _ _ _ (opened.core.trans hr))
  all_goals rw [(chanEvent_touches ..).chan, found]

omit len in
theorem judgeWindow_closed (ho : (chan u c).isOpen = false) (hb : ¬ (chanCfg u c).openKohm * 1000 < ohms) :
    Judged u (u.judgeWindow c ohms) c false [] := by
  have eq : u.judgeWindow c ohms = u := by simp only [State.judgeWindow, ho, hb, Bool.false_eq_true, if_false]
  rw [eq]
  exact ⟨rfl, rfl, rfl, ho, .nil_of_eq rfl, .refl ..⟩

end

/-- The state in which a window that has run its length is judged. -/
def State.windowDone (s : State) (c ohms : Nat) : State :=
  s.setChan c fun x => { x with inWindow := false, toneHz := 0, ohms }

theorem execWireCheckWindowEnd_due {ohms : Nat} {isOpen : Bool} {types : List Nat} (hr : s.core = .running) (len : c < s.ana.chans.length)
    (hw : (chan s c).inWindow = true) (he : (chan s c).windowEnd ≤ s.tm.now) (hk : (chan s c).check = none)
    (hwire : (chanCfg s c).wire = true) (hz : ohms ≤ 10000000)
    (hj : Judged (s.windowDone c ohms) ((s.windowDone c ohms).judgeWindow c ohms) c isOpen types) :
    execWireCheckWindowEnd c ohms s = .next ((s.windowDone c ohms).judgeWindow c ohms) := by
  have none : (chan ((s.windowDone c ohms).judgeWindow c ohms) c).check = none := by
    rw [hj.check, State.windowDone, chan_setChan_self _ len]; exact hk
  have z : (if 10000000 < ohms then 0xFFFFFFFF else ohms) = ohms := if_neg (Nat.not_lt.2 hz)
  have noted := noteCheck_of_none (f := fun q => if q.window then { q with ohms := some (q.ohms.getD ohms) } else q) none
  simp only [execWireCheckWindowEnd, hr, hw, he, and_self, if_true, z, hwire]
  exact congrArg _ noted

/-- A window that ends is judged (R301, R302). -/
theorem windowEnd_runs {ohms : Nat} (hu : Units s) (hr : s.core = .running) (hc : c < 32) (hw : (chan s c).inWindow = true)
    (he : (chan s c).windowEnd ≤ s.tm.now) (hk : (chan s c).check = none) (hwire : (chanCfg s c).wire = true)
    (hz : ohms ≤ 10000000) (hf : (chanCfg s c).fsk = false) :
    ∃ t, execWireCheckWindowEnd c ohms s = .next t ∧ (chan t c).inWindow = false ∧ (chan t c).ohms = ohms
      ∧ ((chan s c).isOpen = false → ((chan t c).isOpen = true ↔ (chanCfg s c).openKohm * 1000 < ohms)
          ∧ ((chan t c).isOpen = true → (chan t c).quality = qOpen))
      ∧ ((chan s c).isOpen = true → ((chan t c).isOpen = false ↔
          ohms * 10 < 8 * (chanCfg s c).openKohm * 1000 ∧ 2 ≤ (chan s c).wireGood))
      ∧ Logs s t (if (chan t c).isOpen = (chan s c).isOpen then [] else if (chan t c).isOpen then [0x0205] else [0x0206])
      ∧ Touches windowParts {c} s t := by
  have len : c < s.ana.chans.length := hu.chans ▸ hc
  have ended : Touches [.chans] {c} s (s.windowDone c ohms) := setChan_touches _
  have len1 : c < (s.windowDone c ohms).ana.chans.length := by rw [ended.lengths.2.1]; exact len
  have chan1 : chan (s.windowDone c ohms) c = { chan s c with inWindow := false, toneHz := 0, ohms } := chan_setChan_self _ len
  have cfg1 := ended.chanCfg c
  have running : (s.windowDone c ohms).core = .running := ended.core.trans hr
  have fsk : (chanCfg (s.windowDone c ohms) c).fsk = false := by rw [cfg1, hf]
  have judged {isOpen : Bool} {types : List Nat}
      (hj : Judged (s.windowDone c ohms) ((s.windowDone c ohms).judgeWindow c ohms) c isOpen types) :
      execWireCheckWindowEnd c ohms s = .next ((s.windowDone c ohms).judgeWindow c ohms)
        ∧ (chan ((s.windowDone c ohms).judgeWindow c ohms) c).inWindow = false
        ∧ (chan ((s.windowDone c ohms).judgeWindow c ohms) c).ohms = ohms
        ∧ Logs s ((s.windowDone c ohms).judgeWindow c ohms) types
        ∧ Touches windowParts {c} s ((s.windowDone c ohms).judgeWindow c ohms) := by
    refine ⟨execWireCheckWindowEnd_due hr len hw he hk hwire hz hj, ?_, ?_, (Logs.nil_of_eq rfl).trans hj.logs
      , ended.mono.then hj.touches⟩
    · rw [hj.inWindow, chan1]
    · rw [hj.ohms, chan1]
  by_cases ho : (chan s c).isOpen = true
  · by_cases hb : ohms * 10 < 8 * (chanCfg s c).openKohm * 1000 ∧ 2 ≤ (chan s c).wireGood
    · have hj := judgeWindow_ends (ohms := ohms) len1 running fsk (by rw [chan1, ho]) (by rw [cfg1]; exact hb.1)
        (by rw [chan1]; exact hb.2)
      obtain ⟨run, inWindow, z, logs, touches⟩ := judged hj
      refine ⟨_, run, inWindow, z, fun h => absurd (ho.symm.trans h) (by decide), fun _ => ⟨fun _ => hb, fun _ => hj.found⟩, ?_, touches⟩
      rw [hj.found, ho]; exact logs
    · have hj := judgeWindow_stays (ohms := ohms) len1 (by rw [chan1, ho]) (by rw [cfg1, chan1]; exact hb)
      obtain ⟨run, inWindow, z, logs, touches⟩ := judged hj
      refine ⟨_, run, inWindow, z, fun h => absurd (ho.symm.trans h) (by decide)
        , fun _ => ⟨fun h => absurd (hj.found.symm.trans h) (by decide), fun h => absurd h hb⟩, ?_, touches⟩
      rw [hj.found, ho]; exact logs
  · rw [Bool.not_eq_true] at ho
    by_cases hb : (chanCfg s c).openKohm * 1000 < ohms
    · obtain ⟨hj, quality⟩ := judgeWindow_opens (ohms := ohms) len1 running fsk (by rw [chan1, ho]) (by rw [cfg1]; exact hb)
      obtain ⟨run, inWindow, z, logs, touches⟩ := judged hj
      refine ⟨_, run, inWindow, z, fun _ => ⟨⟨fun _ => hb, fun _ => hj.found⟩, fun _ => quality⟩
        , fun h => absurd (ho.symm.trans h) (by decide), ?_, touches⟩
      rw [hj.found, ho]; exact logs
    · have hj := judgeWindow_closed (u := s.windowDone c ohms) (ohms := ohms) (by rw [chan1, ho]) (by rw [cfg1]; exact hb)
      obtain ⟨run, inWindow, z, logs, touches⟩ := judged hj
      have closed (h : (chan ((s.windowDone c ohms).judgeWindow c ohms) c).isOpen = true) : False :=
        absurd (hj.found.symm.trans h) (by decide)
      refine ⟨_, run, inWindow, z, fun _ => ⟨⟨fun h => (closed h).elim, fun h => absurd h hb⟩, fun h => (closed h).elim⟩
        , fun h => absurd (ho.symm.trans h) (by decide), ?_, touches⟩
      rw [hj.found, ho]; exact logs

end
end Sys2Proof.Machine

open Sys2Proof.Machine in
/-- Settles O53: a result of a slice that is `Converting` has the lemma of its status, and requests, lead times and windows
have theirs. -/
theorem conversionsAndWindowsRun : Obligations.ConversionsAndWindowsRun := by
  intro s hu hr
  refine ⟨fun b n c r hb hn hph hs hm hv hp hl hrate hchop => ?results, fun c n hc hs hn hp hm hd => ?requests
    , fun b n c hb hn hph he hs => ?lead, fun c n hc hs hn hm => ⟨fun hw hph hk hd => ?starts, fun hw hd => ?preempts
    , fun ohms hw he hk hwire hz hf => ?ends⟩⟩
  case results =>
    obtain ⟨rfl, -⟩ := servedBy_spec hs
    have lt : c < 32 := by omega
    have conv : Converting s c n := ⟨⟨hu.chans ▸ lt, slice_index_lt hu lt hn, hs, hv⟩, lt, hn, hr, hph, hm, hp, hl, hrate, hchop⟩
    intro y code word frame intact recheck
    have intactOf (h : intact) : Intact s c r := by
      obtain ⟨good, closed, excited, within, settled⟩ := h
      exact ⟨good, closed, excited, within, settled⟩
    refine ⟨fun h retry sat low high => ?valid, fun h beyond => ?beyond, fun good fault settled => ?isOpen, fun bad again => ?linkCrc⟩
    case valid =>
      obtain ⟨t, run, last, endUs, settling, phase, touches⟩ :=
        conversion_valid conv (intactOf h) (overloaded_eq_false.2 ⟨sat, low, high⟩) retry
      exact ⟨t, run, last, endUs, settling, phase, touches.resultFrame⟩
    case beyond =>
      have beyond : overloaded r (convCode s c n r) = true := overloaded_eq_true.2 beyond
      refine ⟨fun stands => ?_, fun first inRange retry => ?_, fun first repeated => ?_⟩
      · obtain ⟨t, run, last, endUs, touches⟩ := conversion_overrange conv (intactOf h) beyond stands
        exact ⟨t, run, last, endUs, touches.resultFrame⟩
      · obtain ⟨t, run, last, endUs, again, touches⟩ := conversion_discarded conv (intactOf h) beyond first inRange retry
        exact ⟨t, run, last, endUs, again, touches.resultFrame⟩
      · obtain ⟨t, run, last, endUs, inRange, phase, touches⟩ := conversion_declared conv (intactOf h) beyond first repeated
        exact ⟨t, run, last, endUs, inRange, phase, touches.resultFrame⟩
    case isOpen =>
      obtain ⟨t, run, last, endUs, touches⟩ := conversion_open conv good settled fault
      exact ⟨t, run, last, endUs, touches.resultFrame⟩
    case linkCrc =>
      obtain ⟨t, run, last, endUs, upsets, phase, touches⟩ := conversion_linkCrc conv bad again
      exact ⟨t, run, last, endUs, upsets, phase, touches.resultFrame⟩
  case requests =>
    obtain ⟨t, run, due, idle, waits, touches⟩ := pulsedRequest_runs hu hr hc hs hn hp hm hd
    exact ⟨t, run, due, idle, waits, touches.onlyChannel, touches.eq⟩
  case lead =>
    obtain ⟨rfl, -⟩ := servedBy_spec hs
    obtain ⟨run, started, touches⟩ := leadTimeExpiry_starts hu hr (by omega) hn hph he hs
    exact ⟨_, run, started, touches.onlyChannel, touches.eq⟩
  case starts => exact windowStart_runs hu hr hc hs hm hw hph hk hd
  case preempts => exact windowPreemption_starts hu hr hc hw hd
  case ends =>
    obtain ⟨t, run, inWindow, z, closed, isOpen, logs, touches⟩ := windowEnd_runs hu hr hc hw he hk hwire hz hf
    exact ⟨t, run, inWindow, z, closed, isOpen, logs, touches.onlyChannel, touches.publishes, touches.eq⟩
end

section
set_option Elab.async false
/-! ### Banks: clamps and self-checks -/

namespace Sys2Proof.Machine

section
variable {s t : State} {b c n : Nat}

/-- A frame in which every part of the analogue side that is not in `B` stands. -/
theorem Touches.eq_parts {B : List AnaPart} {C : Set Nat} (h : Touches B C s t) : t = { s with
    ports := if .ports ∈ B then t.ports else s.ports, rcd := if .rcd ∈ B then t.rcd else s.rcd
    repl := if .repl ∈ B then t.repl else s.repl, age := if .age ∈ B then t.age else s.age
    fresh := if .fresh ∈ B then t.fresh else s.fresh
    ana := { slices := if .slices ∈ B then t.ana.slices else s.ana.slices
             chans := if .chans ∈ B then t.ana.chans else s.ana.chans
             banks := if .banks ∈ B then t.ana.banks else s.ana.banks
             loops := if .loops ∈ B then t.ana.loops else s.ana.loops
             q30 := if .q30 ∈ B then t.ana.q30 else s.ana.q30 } } := by
  have part {α : Type} (p : AnaPart) (g : State → α) (hp : p.Same s t → g t = g s) : (if p ∈ B then g t else g s) = g t := by
    split
    · rfl
    · next hB => exact (hp (h.same p hB)).symm
  rw [part .slices (·.ana.slices) id, part .chans (·.ana.chans) id, part .banks (·.ana.banks) id, part .loops (·.ana.loops) id
    , part .q30 (·.ana.q30) id]
  exact h.eq

theorem Touches.visitBy {B : List AnaPart} {C : Set Nat} (h : Touches B C s t) (hB : .banks ∉ B := by decide) (k : Nat) :
    visitBy t b k = visitBy s b k := by
  unfold Machine.visitBy; rw [h.bankSt hB]

theorem bank_index_lt (hu : Units s) (hb : b < 4) : b < s.ana.banks.length := by rw [hu.banks]; exact hb

/-! #### Clamps (R299) -/

section
variable {term : Nat}

/-- A change of one clamp of a bank. -/
def State.setClamp (s : State) (b i : Nat) (f : Clamp → Clamp) : State :=
  s.setBank b fun x => { x with clamps := upd x.clamps i f }

theorem setClamp_touches (i : Nat) (f : Clamp → Clamp) : Touches [.banks] ∅ s (s.setClamp b i f) := setBank_touches _

theorem clamp_setClamp {i : Nat} (f : Clamp → Clamp) (hb : b < s.ana.banks.length) (hi : i < (bankSt s b).clamps.length) :
    nth (bankSt (s.setClamp b i f) b).clamps i = f (nth (bankSt s b).clamps i) := by
  rw [State.setClamp, bankSt_setBank_self _ hb]
  exact nth_upd_self _ _ _ hi

/-- Conduction of a clamp is reported once in 60 s, and not within 10 s after its flag was cleared (R299). -/
def clampReported (k : Clamp) (now : Nat) : Bool :=
  !k.flag && decide (k.cleared + 10000000 ≤ now) && (match k.lastEvent with | some t => decide (t + 60000000 ≤ now) | none => true)

/-- The channel that claims a terminal of a bank. -/
def clampOwner (s : State) (b term : Nat) : Option Nat :=
  ((List.range 8).map (8 * b + ·)).find? fun c => (claimed (chanCfg s c)).contains term

/-- A clamp that conducts has its flag, and the results of the channel that claims its terminal are marked (R299). -/
def State.clampConducts (s : State) (b term : Nat) : State :=
  let z := s.setClamp b (term - 1) fun x =>
    { x with conducting := true, flag := true
             lastEvent := if clampReported (nth (bankSt s b).clamps (term - 1)) s.tm.now then some s.tm.now else x.lastEvent }
  (clampOwner s b term).elim z fun c => z.setChan c fun x => { x with clamped := true }

theorem clampConducts_touches : Touches [.banks, .chans] Set.univ s (s.clampConducts b term) := by
  unfold State.clampConducts
  dsimp only
  cases clampOwner s b term with
  | none => exact (setClamp_touches ..).mono
  | some c => exact ((Touches.refl _ _ s).then (setClamp_touches ..)).then (setChan_touches (c := c) _)

theorem clamp_clampConducts (hb : b < s.ana.banks.length) (hi : term - 1 < (bankSt s b).clamps.length) :
    (nth (bankSt (s.clampConducts b term) b).clamps (term - 1)).flag = true
      ∧ (nth (bankSt (s.clampConducts b term) b).clamps (term - 1)).conducting = true := by
  unfold State.clampConducts
  dsimp only
  cases clampOwner s b term with
  | none => rw [Option.elim_none, clamp_setClamp _ hb hi]; exact ⟨rfl, rfl⟩
  | some c => rw [Option.elim_some, bankSt_setChan, clamp_setClamp _ hb hi]; exact ⟨rfl, rfl⟩

/-- The events of a clamp reach a bank with its power, on its own terminals. -/
theorem clampRow (hr : s.core = .running) (hb : b < 4) (h1 : 1 ≤ term) (h40 : term ≤ 40) :
    ¬ ((s.core ≠ .running ∧ (!s.pw.valid) = true) ∨ 3 < b ∨ term = 0 ∨ 40 < term) := by
  simp only [hr, ne_eq, not_true_eq_false, false_and, false_or]; omega

theorem execClampConduction_on (hr : s.core = .running) (hb : b < 4) (h1 : 1 ≤ term) (h40 : term ≤ 40) :
    execClampConduction b term true s = .next (if clampReported (nth (bankSt s b).clamps (term - 1)) s.tm.now then
      (s.clampConducts b term).chanEvent 8 b ((clampOwner s b term).getD 0xFF)
        ((clampOwner s b term).elim 0xFF fun c => sliceOr (chan s c)) 0xFF term 0 0
      else s.clampConducts b term) := by
  unfold State.clampConducts
  cases owner : clampOwner s b term <;>
    unfold clampOwner at owner <;>
    simp only [execClampConduction, if_neg (clampRow hr hb h1 h40), Bool.not_true, Bool.false_eq_true, if_false, owner] <;> rfl

theorem clampConduction_starts (hu : Units s) (hr : s.core = .running) (hb : b < 4) (h1 : 1 ≤ term) (h40 : term ≤ 40)
    (hl : (bankSt s b).clamps.length = 40) : ∃ t, execClampConduction b term true s = .next t
      ∧ (nth (bankSt t b).clamps (term - 1)).flag = true ∧ (nth (bankSt t b).clamps (term - 1)).conducting = true
      ∧ Logs s t (if clampReported (nth (bankSt s b).clamps (term - 1)) s.tm.now then [0x0208] else [])
      ∧ Touches [.banks, .chans, .rcd] Set.univ s t := by
  have run := execClampConduction_on hr hb h1 h40
  have conducts : Touches [.banks, .chans] Set.univ s (s.clampConducts b term) := clampConducts_touches
  obtain ⟨flag, conducting⟩ := clamp_clampConducts (term := term) (bank_index_lt hu hb) (by omega)
  have recorder : Logs s (s.clampConducts b term) [] := .nil_of_eq (conducts.same .rcd (by decide))
  by_cases report : clampReported (nth (bankSt s b).clamps (term - 1)) s.tm.now = true
  · rw [if_pos report] at run ⊢
    refine ⟨_, run, ?_, ?_, recorder.trans (chanEvent_logs _ _ _ _ _ _ _ _ (conducts.core.trans hr))
      , conducts.mono.then (chanEvent_touches ..)⟩ <;> rw [(chanEvent_touches ..).bankSt] <;> assumption
  · rw [if_neg report] at run ⊢
    exact ⟨_, run, flag, conducting, recorder, conducts.mono⟩

theorem clampConduction_ends (hu : Units s) (hr : s.core = .running) (hb : b < 4) (h1 : 1 ≤ term) (h40 : term ≤ 40)
    (hl : (bankSt s b).clamps.length = 40) : ∃ t, execClampConduction b term false s = .next t
      ∧ (nth (bankSt t b).clamps (term - 1)).conducting = false
      ∧ (nth (bankSt t b).clamps (term - 1)).flag = (nth (bankSt s b).clamps (term - 1)).flag ∧ Touches [.banks] ∅ s t := by
  have run : execClampConduction b term false s = .next (s.setClamp b (term - 1) fun x =>
      { x with conducting := false, ended := if x.conducting then s.tm.now else x.ended }) := by
    simp only [execClampConduction, if_neg (clampRow hr hb h1 h40), Bool.not_false, if_true]; rfl
  refine ⟨_, run, ?_, ?_, setClamp_touches ..⟩ <;> rw [clamp_setClamp _ (bank_index_lt hu hb) (by omega)]

theorem clampFlagTimeout_clears (hu : Units s) (hr : s.core = .running) (hb : b < 4) (h1 : 1 ≤ term) (h40 : term ≤ 40)
    (hl : (bankSt s b).clamps.length = 40)
    (ho : (((List.range 8).map (8 * b + ·)).any fun c => (claimed (chanCfg s c)).contains term) = false)
    (hf : (nth (bankSt s b).clamps (term - 1)).flag = true) (hc : (nth (bankSt s b).clamps (term - 1)).conducting = false)
    (he : (nth (bankSt s b).clamps (term - 1)).ended + 1000000 ≤ s.tm.now) :
    ∃ t, execClampFlagTimeout b term s = .next t ∧ (nth (bankSt t b).clamps (term - 1)).flag = false ∧ Touches [.banks] ∅ s t := by
  have run : execClampFlagTimeout b term s = .next (s.setClamp b (term - 1) fun x => { x with flag := false, cleared := s.tm.now }) := by
    simp only [execClampFlagTimeout, hr, hb, h1, h40, ho, hf, hc, he, Bool.not_false, and_self, if_true]; rfl
  refine ⟨_, run, ?_, setClamp_touches ..⟩
  rw [clamp_setClamp _ (bank_index_lt hu hb) (by omega)]

end

/-! #### Self-checks (R307) -/

section
variable {off gain : Int}

theorem noteSelfCheck_of_none (h : (chan s c).check = none) (v : Nat) : s.noteSelfCheck c v = s := noteCheck_of_none h

theorem noteSelfCheck_touches (v : Nat) : Touches [.ports, .chans] {c} s (s.noteSelfCheck c v) := noteCheck_touches _

/-- A slice after a self-check that passed. -/
def Slice.checkPassed (y : Slice) (off gain : Int) : Slice :=
  { y with lastOffset := off, lastGain := gain, fails := 0, passed := (off, gain) :: y.passed }

/-- A slice after a self-check that failed. -/
def Slice.checkFailed (y : Slice) (off gain : Int) : Slice :=
  { y with lastOffset := off, lastGain := gain, fails := y.fails + 1, failedEver := sat16 (y.failedEver + 1) }

/-- A slice at work again for the channel it serves: idle until the next request where that is pulsed, else in LEAD. -/
def Slice.toWork (y : Slice) (s : State) (c : Nat) : Slice :=
  if (chanCfg s c).pulsed then y.toIdle (requestNear s c) else y.toLead (chanCfg s c) (s.tm.now + (chanCfg s c).lead)

theorem execSelfCheckDone_due (hr : s.core = .running) (hb : b < 4) (hn : n < 10) (hp : (slice s b n).phase = .check) :
    execSelfCheckDone b n off gain s = .next (s.selfCheck b n off gain) := by
  simp only [execSelfCheckDone, hr, hb, hn, hp, and_self, if_true]

/-- After a self-check within its limits the slice is at work again, and its channel's next check is due in 600 s (R307, R313). -/
theorem selfCheck_passes (ho : -839 ≤ off ∧ off ≤ 839) (hg : -500 ≤ gain ∧ gain ≤ 500) (hs : servedBy s (c / 8) n = some c)
    (hv : visitOn s c = none) (hk : (chan s c).check = none) (hr : (chan s c).retry = false)
    (hw : (chanCfg s c).pulsed = true → (chan s c).requestWaits = false) : s.selfCheck (c / 8) n off gain =
      ((s.setSlice (c / 8) n (·.checkPassed off gain)).setSlice (c / 8) n (·.toWork s c)).setChan c fun x =>
        { x with checkDue := s.tm.now + 600000000, retry := false, overrange := x.overrange || false } := by
  have off1 : decide (off < -839 ∨ 839 < off) = false := decide_eq_false (by omega)
  have gain1 : decide (gain < -500 ∨ 500 < gain) = false := decide_eq_false (by omega)
  have noted : (s.setSlice (c / 8) n (·.checkPassed off gain)).noteSelfCheck c 0 = s.setSlice (c / 8) n (·.checkPassed off gain) :=
    noteSelfCheck_of_none (by exact hk) 0
  have uncovered : covered (s.setSlice (c / 8) n (·.checkPassed off gain)) c = false := by
    have none : visitOn (s.setSlice (c / 8) n (·.checkPassed off gain)) c = none := hv
    simp [covered, none]
  have work : (if (chanCfg s c).pulsed then (s.setSlice (c / 8) n (·.checkPassed off gain)).idleOrLead c n
      else (s.setSlice (c / 8) n (·.checkPassed off gain)).setSlice (c / 8) n fun y =>
        y.toLead (chanCfg s c) (s.tm.now + (chanCfg s c).lead))
      = (s.setSlice (c / 8) n (·.checkPassed off gain)).setSlice (c / 8) n (·.toWork s c) := by
    unfold Slice.toWork
    split
    · next hp =>
      have idle : (chan (s.setSlice (c / 8) n (·.checkPassed off gain)) c).requestWaits = false := hw hp
      simp only [State.idleOrLead, idle, Bool.false_eq_true, if_false]
      rfl
    · rfl
  simp only [State.selfCheck, off1, gain1, hs, Bool.not_false, Bool.and_self, Bool.not_true, Bool.false_eq_true, if_true, if_false]
  unfold Slice.checkPassed at noted uncovered work ⊢
  simp only [noted, uncovered, work, chan_setSlice, hr, Bool.false_and, Bool.false_eq_true, if_false]

/-- The state after a self-check beyond its limits, with its record. -/
def State.checkFailed (s : State) (b n : Nat) (off gain : Int) : State :=
  let z := (s.setSlice b n (·.checkFailed off gain)).chanEvent 9 b ((servedBy s b n).getD 0xFF) n 0xFF
    (flagBits [decide (off < -839 ∨ 839 < off), decide (gain < -500 ∨ 500 < gain)]) off gain
  (servedBy s b n).elim z fun c => z.noteSelfCheck c 1

theorem setSlice_checkFailed_touches : Touches [.slices] ∅ s (s.setSlice b n (·.checkFailed off gain)) :=
  setSlice_touches _ fun _ h => h

theorem checkFailed_touches : Touches [.ports, .rcd, .slices, .chans] Set.univ s (s.checkFailed b n off gain) := by
  unfold State.checkFailed
  dsimp only
  have failed {k : Nat} : Touches [.ports, .rcd, .slices, .chans] Set.univ s ((s.setSlice b n (·.checkFailed off gain)).chanEvent 9 b
      k n 0xFF (flagBits [decide (off < -839 ∨ 839 < off), decide (gain < -500 ∨ 500 < gain)]) off gain) :=
    ((Touches.refl _ _ s).then setSlice_checkFailed_touches).then (chanEvent_touches ..)
  cases servedBy s b n with
  | none => exact failed
  | some c => exact failed.then (noteSelfCheck_touches 1)

theorem checkFailed_logs (hr : s.core = .running) : Logs s (s.checkFailed b n off gain) [0x0209] := by
  have record {k : Nat} : Logs s ((s.setSlice b n (·.checkFailed off gain)).chanEvent 9 b
      k n 0xFF (flagBits [decide (off < -839 ∨ 839 < off), decide (gain < -500 ∨ 500 < gain)]) off gain) [0x0209] :=
    (Logs.nil_of_eq (setSlice_checkFailed_touches.same .rcd (by decide))).trans (chanEvent_logs _ _ _ _ _ _ _ _ hr)
  unfold State.checkFailed
  dsimp only
  cases servedBy s b n with
  | none => exact record
  | some c => exact record.of_rcd ((noteSelfCheck_touches 1).same .rcd (by decide))

theorem slice_checkFailed (h : 10 * b + n < s.ana.slices.length) :
    slice (s.checkFailed b n off gain) b n = (slice s b n).checkFailed off gain := by
  unfold State.checkFailed
  dsimp only
  cases servedBy s b n with
  | none => rw [Option.elim_none, (chanEvent_touches ..).slice, slice_setSlice_self _ h]
  | some c => rw [Option.elim_some, (noteSelfCheck_touches 1).slice, (chanEvent_touches ..).slice, slice_setSlice_self _ h]

theorem selfCheck_fails (hbad : off < -839 ∨ 839 < off ∨ gain < -500 ∨ 500 < gain) (hv : visitBy s b n = none)
    (h : 10 * b + n < s.ana.slices.length) : s.selfCheck b n off gain =
      if 3 ≤ (slice s b n).fails + 1 then (s.checkFailed b n off gain).retireSlice b n 1 0 else s.checkFailed b n off gain := by
  have bad : (!decide (off < -839 ∨ 839 < off) && !decide (gain < -500 ∨ 500 < gain)) = false := by
    rw [← Bool.not_or, Bool.not_eq_false', Bool.or_eq_true, decide_eq_true_eq, decide_eq_true_eq]; omega
  have unvisited : visitBy (s.checkFailed b n off gain) b n = none := by rw [checkFailed_touches.visitBy, hv]
  have fails : (slice (s.setSlice b n (·.checkFailed off gain)) b n).fails = (slice s b n).fails + 1 := by
    rw [slice_setSlice_self _ h]; rfl
  unfold State.checkFailed Slice.checkFailed at *
  cases served : servedBy s b n with
  | none =>
    simp only [served, Option.elim_none] at unvisited ⊢
    simp only [State.selfCheck, bad, served, Bool.not_false, Bool.false_eq_true, if_true, if_false, fails, unvisited]
  | some c =>
    simp only [served, Option.elim_some] at unvisited ⊢
    simp only [State.selfCheck, bad, served, Bool.not_false, Bool.false_eq_true, if_true, if_false, fails, unvisited]

/-! #### A slice retired (R312, R314) -/

theorem judgeEntry_touches (m : Nat) : Touches [.rcd, .repl, .age] ∅ s (s.judgeEntry m) := by
  have refreshed : Touches [.rcd, .repl, .age] ∅ s (s.refreshEntry m) := by
    unfold State.refreshEntry
    split <;> exact (setAge_touches _).mono
  have noted (u : State) : Touches [.rcd, .repl, .age] ∅ u (u.marginState m) :=
    ((Touches.refl _ _ u).then (publishSource_touches ..)).then (logNotifyAt_touches ..)
  exact .ite refreshed (refreshed.then (noted _))

theorem loseVisit_touches (v : Visit) : Touches [.ports, .slices, .banks, .chans] Set.univ s (s.loseVisit b v) := by
  have dropped : Touches [.ports, .slices, .banks, .chans] Set.univ s (s.dropVisit b v.rover) := dropVisit_touches.mono
  exact .ite (dropped.then (noteCheck_touches _)) dropped

/-- The channel of a slice that is lost, as it waits for its place. -/
def State.unplaced (s : State) (c : Nat) : State := (s.breakWindow c).setChan c fun x => { x with slice := none, late := none }

theorem unplaced_touches : Touches [.chans, .service, .reading] {c} s (s.unplaced c) :=
  ((Touches.refl _ _ s).then breakWindow_touches).then (setChan_touches_any _)

theorem chan_unplaced (h : c < s.ana.chans.length) : (chan (s.unplaced c) c).slice = none := by
  unfold State.unplaced
  rw [chan_setChan_self _ (by rw [(breakWindow_touches (s := s) (c := c)).lengths.2.1]; exact h)]

/-- What a channel's loss of its slice changes. -/
abbrev remapParts : List AnaPart :=
  [.ports, .rcd, .repl, .slices, .banks, .chans, .loops, .q30, .service, .reading]

/-- A channel that loses its slice has none, whether it waits for another or is retired. -/
theorem remapChan_leaves (h : c < s.ana.chans.length) (old : Nat) :
    Touches remapParts Set.univ s (s.remapChan b c old) ∧ (chan (s.remapChan b c old) c).slice = none := by
  have off : Touches remapParts Set.univ s (s.unplaced c) := unplaced_touches.mono
  have len : c < (s.unplaced c).ana.chans.length := by rw [off.lengths.2.1]; exact h
  rw [show s.remapChan b c old = match successor (s.unplaced c) b c with
    | none => (s.unplaced c).retireChan c 3
    | some (k, onIt) =>
      let s1 := if onIt then (visitOn (s.unplaced c) c).elim (s.unplaced c) fun v => (s.unplaced c).loseVisit b v
        else (s.unplaced c).takeRover b k
      let s2 := s1.setLoop c fun l => { l with trans := l.trans.map fun t => { t with sent := none } }
      (s2.setChan c fun x => { x with settling := true, remap := some { new := k, old, decided := s.tm.now
                                                                        at_ := s.tm.now + (if onIt then 0 else 100) } }).checkRovers b from rfl]
  split
  · refine ⟨off.then (retireChan_touches 3), ?_⟩
    obtain ⟨-, slice, -⟩ := Chan.service_iff.1 (chan_retireChan 3 len)
    exact slice
  · next k onIt _ =>
    extract_lets s1 s2
    have freed : Touches [.ports, .slices, .banks, .chans] Set.univ (s.unplaced c) s1 := by
      refine .ite ?_ takeRover_touches
      cases visitOn (s.unplaced c) c with
      | none => exact .refl ..
      | some v => exact loseVisit_touches v
    have stopped : Touches [.ports, .slices, .banks, .chans, .loops] Set.univ (s.unplaced c) s2 :=
      ((Touches.refl _ _ _).then freed).then (setLoop_touches (c := c) _)
    refine ⟨(((off.then stopped).then (setChan_touches_any _)).then checkRovers_touches), ?_⟩
    obtain ⟨-, slice, -⟩ := Chan.service_eq.1 (stopped.service (by decide) c)
    rw [(Chan.service_eq.1 (checkRovers_touches.service (by decide) c)).2.1]
    exact ((chan_setChan_field (·.slice) fun _ => by rfl).trans slice).trans (chan_unplaced h)

/-- The state after a slice's retirement is recorded, before its channel is placed anew (R312). -/
def State.sliceRetired (s : State) (b n reason : Nat) (d : Int) : State :=
  ((s.setSlice b n Slice.retire).chanEvent 1 b ((servedBy s b n).getD 0xFF) n 0xFF reason d 0).setBank b fun x =>
    { x with visits := x.visits.filter (·.rover != n) }

theorem retireSlice_eq (reason : Nat) (d : Int) : s.retireSlice b n reason d =
    let z := [4, 5, 6].foldl (fun (acc : State) m => acc.judgeEntry m) (s.sliceRetired b n reason d)
    match servedBy s b n with
    | some c => z.remapChan b c n
    | none => z.checkRovers b := rfl

theorem sliceRetired_touches (reason : Nat) (d : Int) : Touches [.rcd, .slices, .banks] ∅ s (s.sliceRetired b n reason d) :=
  (((Touches.refl _ _ s).then (setSlice_touches Slice.retire fun _ _ => rfl)).then (chanEvent_touches ..)).then (setBank_touches _)

/-- A retired slice stays so, its retirement is the first record, and the channel it served has it no more. -/
theorem retireSlice_leaves (hr : s.core = .running) (h : 10 * b + n < s.ana.slices.length) (hb : b < 4) (hc : s.ana.chans.length = 32)
    (reason : Nat) (d : Int) : (slice (s.retireSlice b n reason d) b n).phase = .retired
      ∧ (∀ c, servedBy s b n = some c → (chan (s.retireSlice b n reason d) c).slice = none)
      ∧ ∃ l, Logs s (s.retireSlice b n reason d) (0x0201 :: l) := by
  let z := [4, 5, 6].foldl (fun (acc : State) m => acc.judgeEntry m) (s.sliceRetired b n reason d)
  have judged : Touches [.rcd, .repl, .age] ∅ (s.sliceRetired b n reason d) z := .foldl fun _ m _ => judgeEntry_touches m
  have placed : Touches remapParts Set.univ z (s.retireSlice b n reason d)
      ∧ ∀ c, servedBy s b n = some c → (chan (s.retireSlice b n reason d) c).slice = none := by
    rw [retireSlice_eq]
    cases served : servedBy s b n with
    | none => exact ⟨checkRovers_touches.mono, nofun⟩
    | some c =>
      obtain ⟨rfl, -⟩ := servedBy_spec served
      have len : c < z.ana.chans.length := by
        rw [judged.lengths.2.1, (sliceRetired_touches reason d).lengths.2.1, hc]; omega
      obtain ⟨touches, slice⟩ := remapChan_leaves (b := c / 8) len n
      exact ⟨touches, fun c' e => Option.some.inj e ▸ slice⟩
  have after : Touches (.age :: remapParts) Set.univ (s.sliceRetired b n reason d) (s.retireSlice b n reason d) :=
    judged.mono.then placed.1
  refine ⟨?_, placed.2, ?_⟩
  · refine after.same .retired (by decide) _ ?_
    show (slice (s.sliceRetired b n reason d) b n).phase = .retired
    rw [State.sliceRetired, slice_setBank, (chanEvent_touches ..).slice, slice_setSlice_self _ h]
    rfl
  · obtain ⟨l, hl⟩ := after.logs
    have record : Logs s (s.sliceRetired b n reason d) [0x0201] := chanEvent_logs 1 b _ n 0xFF reason d 0 hr
    exact ⟨l, record.trans hl⟩

end
end
end Sys2Proof.Machine
end

section
set_option Elab.async false
/-! ### Banks: checks in place, visits and remaps -/

namespace Sys2Proof.Machine

section
variable {s t : State} {b c n : Nat} {off gain : Int}

/-! #### SELF_CHECK_DONE (R307) -/

theorem toWork_checkPassed {y : Slice} (h : y.phase = .check) : (Slice.toWork (y.checkPassed off gain) s c).fails = 0
    ∧ (Slice.toWork (y.checkPassed off gain) s c).lastOffset = off ∧ (Slice.toWork (y.checkPassed off gain) s c).lastGain = gain
    ∧ (Slice.toWork (y.checkPassed off gain) s c).phase = if (chanCfg s c).pulsed then .idle else .lead := by
  have working : ¬ (y.checkPassed off gain).phase = .retired := by simp [Slice.checkPassed, h]
  unfold Slice.toWork
  split
  · rw [Slice.toIdle, if_neg working]; exact ⟨rfl, rfl, rfl, rfl⟩
  · rw [Slice.toLead, if_neg working]; exact ⟨rfl, rfl, rfl, rfl⟩

theorem toWork_keeps_retired (y : Slice) (h : y.phase = .retired) : (y.toWork s c).phase = .retired := by
  unfold Slice.toWork
  split
  · exact toIdle_keeps_retired _ _ h
  · exact toLead_keeps_retired _ _ _ h

theorem selfCheckDone_passes (hu : Units s) (hr : s.core = .running) (hb : c / 8 < 4) (hn : n < 10)
    (hp : (slice s (c / 8) n).phase = .check) (ho : -839 ≤ off ∧ off ≤ 839) (hg : -500 ≤ gain ∧ gain ≤ 500)
    (hs : servedBy s (c / 8) n = some c) (hv : visitOn s c = none) (hk : (chan s c).check = none) (ht : (chan s c).retry = false)
    (hw : (chanCfg s c).pulsed = true → (chan s c).requestWaits = false) :
    ∃ t, execSelfCheckDone (c / 8) n off gain s = .next t ∧ (slice t (c / 8) n).fails = 0 ∧ (slice t (c / 8) n).lastOffset = off
      ∧ (slice t (c / 8) n).lastGain = gain ∧ (slice t (c / 8) n).phase = (if (chanCfg s c).pulsed then .idle else .lead)
      ∧ (chan t c).checkDue = s.tm.now + 600000000 ∧ Touches [.slices, .chans] {c} s t := by
  have lt : c < 32 := by omega
  have index := slice_index_lt hu lt hn
  have run := execSelfCheckDone_due (off := off) (gain := gain) hr hb hn hp
  rw [selfCheck_passes ho hg hs hv hk ht hw] at run
  have passed : Touches [.slices, .chans] {c} s (s.setSlice (c / 8) n (·.checkPassed off gain)) :=
    (setSlice_touches _ fun _ h => by exact h).mono
  have works := passed.then (setSlice_touches (b := c / 8) (k := n) (·.toWork s c) toWork_keeps_retired)
  have done : slice ((s.setSlice (c / 8) n (·.checkPassed off gain)).setSlice (c / 8) n (·.toWork s c)) (c / 8) n
      = ((slice s (c / 8) n).checkPassed off gain).toWork s c := by
    rw [slice_setSlice_self _ (by rw [passed.lengths.1]; exact index), slice_setSlice_self _ index]
  obtain ⟨fails, offset, slope, phase⟩ := toWork_checkPassed (s := s) (c := c) (off := off) (gain := gain) hp
  refine ⟨_, run, ?_, ?_, ?_, ?_, ?_, works.then (setChan_touches _)⟩
  · rw [slice_setChan, done, fails]
  · rw [slice_setChan, done, offset]
  · rw [slice_setChan, done, slope]
  · rw [slice_setChan, done, phase]
  · rw [chan_setChan_self _ (by rw [works.lengths.2.1, hu.chans]; exact lt)]

section
variable (hr : s.core = .running) (hb : b < 4) (hn : n < 10) (hp : (slice s b n).phase = .check) (hv : visitBy s b n = none)
  (index : 10 * b + n < s.ana.slices.length) (bad : off < -839 ∨ 839 < off ∨ gain < -500 ∨ 500 < gain)
include hr hb hn hp hv index bad

/-- A failed self-check is repeated (R307). -/
theorem selfCheckDone_repeats (hf : (slice s b n).fails + 1 < 3) (hk : ∀ c, servedBy s b n = some c → (chan s c).check = none) :
    ∃ t, execSelfCheckDone b n off gain s = .next t ∧ (slice t b n).fails = (slice s b n).fails + 1
      ∧ (slice t b n).phase = .check ∧ Logs s t [0x0209] ∧ Touches [.rcd, .slices] ∅ s t := by
  have run := execSelfCheckDone_due (off := off) (gain := gain) hr hb hn hp
  rw [selfCheck_fails bad hv index, if_neg (by omega)] at run
  have touches : Touches [.rcd, .slices] ∅ s (s.checkFailed b n off gain) := by
    unfold State.checkFailed
    dsimp only
    have recorded {k : Nat} : Touches [.rcd, .slices] ∅ s ((s.setSlice b n (·.checkFailed off gain)).chanEvent 9 b
        k n 0xFF (flagBits [decide (off < -839 ∨ 839 < off), decide (gain < -500 ∨ 500 < gain)]) off gain) :=
      ((Touches.refl _ _ s).then setSlice_checkFailed_touches).then (chanEvent_touches ..)
    cases served : servedBy s b n with
    | none => exact recorded
    | some c =>
      rw [Option.elim_some, noteSelfCheck_of_none (by rw [recorded.chan]; exact hk c served)]
      exact recorded
  exact ⟨_, run, by rw [slice_checkFailed index]; rfl, by rw [slice_checkFailed index]; exact hp, checkFailed_logs hr, touches⟩

/-- The third failure in a row retires the slice (R307, R312). -/
theorem selfCheckDone_retires (hc : s.ana.chans.length = 32) (hf : 2 ≤ (slice s b n).fails) :
    ∃ t l, execSelfCheckDone b n off gain s = .next t ∧ (slice t b n).phase = .retired
      ∧ (∀ c, servedBy s b n = some c → (chan t c).slice ≠ some n) ∧ Logs s t (0x0209 :: 0x0201 :: l) := by
  have run := execSelfCheckDone_due (off := off) (gain := gain) hr hb hn hp
  rw [selfCheck_fails bad hv index, if_pos (by omega)] at run
  have failed : Touches [.ports, .rcd, .slices, .chans] Set.univ s (s.checkFailed b n off gain) := checkFailed_touches
  obtain ⟨phase, lost, l, logs⟩ := retireSlice_leaves (s := s.checkFailed b n off gain) (n := n) (failed.core.trans hr)
    (by rw [failed.lengths.1]; exact index) hb (failed.lengths.2.1.trans hc) 1 0
  refine ⟨_, l, run, phase, fun c served => ?_, (checkFailed_logs hr).trans logs⟩
  rw [lost c (by rw [failed.servedBy]; exact served)]
  nofun

end

/-! #### IN_PLACE_CHECK_TIMER (R313) -/

/-- The slice of a channel that no rover visits goes to check, and the next check is due in 600 s. -/
theorem inPlaceCheck_runs (hr : s.core = .running) (hc : c < 32) (h : Serving s c n) (hd : (chan s c).checkDue ≤ s.tm.now)
    (hm : (chanCfg s c).mode ≠ 0) (hu : (chanCfg s c).noRove = true ∨ rovers s (c / 8) = [])
    (hk : (slice s (c / 8) n).phase ≠ .check) (ht : (slice s (c / 8) n).phase ≠ .retired)
    (hp : (chanCfg s c).pulsed = true → (slice s (c / 8) n).phase = .idle) :
    ∃ t, execInPlaceCheckTimer c s = .next t ∧ (slice t (c / 8) n).phase = .check
      ∧ (chan t c).checkDue = s.tm.now + 600000000 ∧ Touches [.slices, .chans, .reading] {c} s t := by
  have alone : unroved s c = true := by simpa [unroved, h.unvisited] using hu
  have idle : ¬ ((slice s (c / 8) n).phase = .check ∨ (chanCfg s c).pulsed = true ∧ (slice s (c / 8) n).phase ≠ .idle) := by tauto
  have run : execInPlaceCheckTimer c s =
      .next ((s.setChan c fun y => { y with checkDue := s.tm.now + 600000000 }).checkNow c) := by
    simp only [execInPlaceCheckTimer, hr, hc, hd, hm, alone, h.slice, idle, ne_eq, not_false_eq_true, and_self, if_true, if_false]
  have due : Touches [.chans] {c} s (s.setChan c fun y => { y with checkDue := s.tm.now + 600000000 }) := setChan_touches _
  obtain ⟨phase, chan1, touches⟩ := checkNow_checks (h.of_touches due) (by rw [due.chanCfg, due.slice]; exact hp)
    (by rw [due.slice]; exact ht)
  refine ⟨_, run, phase, ?_, due.mono.then touches⟩
  rw [chan1, (Chan.checking_keeps _).2.2.2, chan_setChan_self _ h.chans]

/-! #### ROVE_VISIT_START (R309) -/

/-- A rover is a slice of the bank that serves no channel. -/
theorem rover_free (h : n ∈ rovers s b) : n < 10 ∧ servedBy s b n = none := by
  have free : n ∈ freeSlices s b := List.mem_of_mem_take h
  obtain ⟨lt, free⟩ := List.mem_filter.1 (List.mem_reverse.1 free)
  rw [sliceFree, Bool.and_eq_true, Bool.and_eq_true, Option.isNone_iff_eq_none] at free
  exact ⟨List.mem_range.1 lt, free.1.2⟩

/-- A rover checks itself first on the visit of the next channel of its rotation. -/
theorem roveVisit_starts (hu : Units s) (hr : s.core = .running) (hb : b < 4) (hn : n ∈ rovers s b) (hv : visitBy s b n = none)
    (hp : (slice s b n).phase = .off) (hw : (bankSt s b).wanted = [])
    (hx : nextVisit s b ((rovers s b).findIdx (· == n)) = some c) :
    ∃ t, execRoveVisitStart b n s = .next t ∧ (slice t b n).phase = .check
      ∧ (bankSt t b).visits = (bankSt s b).visits ++ [{ rover := n, channel := c }] ∧ Touches [.slices, .banks] ∅ s t := by
  obtain ⟨lt, unserving⟩ := rover_free hn
  have checks : s.checkSlice b n = s.setSlice b n Slice.toCheck := by rw [State.checkSlice, unserving]; rfl
  have run : execRoveVisitStart b n s = .next ((s.setSlice b n Slice.toCheck).setBank b fun x =>
      { x with visits := x.visits ++ [{ rover := n, channel := c }], wanted := x.wanted.filter (· != c % 8)
               rotation := upd x.rotation ((rovers s b).findIdx (· == n)) fun _ => (c % 8 + 1) % 8 }) := by
    simp only [execRoveVisitStart, hr, hb, hv, hp, hw, hx, checks, List.contains_iff_mem, hn, Option.isNone_none, List.find?_nil
      , Option.isSome_none, Bool.false_eq_true, and_self, if_true, if_false]
  have checked : Touches [.slices, .banks] ∅ s (s.setSlice b n Slice.toCheck) := (setSlice_touches _ toCheck_keeps_retired).mono
  refine ⟨_, run, ?_, ?_, checked.then (setBank_touches _)⟩
  · rw [slice_setBank, slice_setSlice_self _ (by rw [hu.slices]; omega), Slice.toCheck, if_neg (by simp [hp])]
  · rw [bankSt_setBank_self _ (by rw [checked.lengths.2.2.2]; exact bank_index_lt hu hb)]
    rfl

/-! #### REMAP_HANDOVER (R312, R358) -/

/-- The new slice serves the channel, and the response of a transaction in progress is discarded. -/
theorem remapHandover_runs {r : Remap} (hu : Units s) (hr : s.core = .running) (hc : c < 32) (hm : (chan s c).remap = some r)
    (hd : r.done = false) (ha : r.at_ ≤ s.tm.now) :
    ∃ t, execRemapHandover c s = .next t ∧ (chan t c).slice = some r.new ∧ (chan t c).remap = some { r with done := true }
      ∧ (∀ tr, (loopSt t c).trans = some tr → tr.sent = none)
      ∧ Touches [.slices, .chans, .loops, .service, .reading] {c} s t := by
  let z := s.setChan c fun x => { x with slice := some r.new, remap := some { r with done := true } }
  have run : execRemapHandover c s = .next ((z.startConversion c).setLoop c fun l =>
      { l with trans := l.trans.map fun t => { t with sent := none } }) := by
    simp only [execRemapHandover, hm, hr, hd, ha, Bool.not_false, and_self, if_true]; rfl
  have moved : Touches [.slices, .chans, .loops, .service, .reading] {c} s z := (setChan_touches_any _).mono
  have started := moved.then (startConversion_touches (c := c))
  have served : (chan (z.startConversion c) c).service = ((chan s c).retired, some r.new, some { r with done := true }) := by
    rw [startConversion_touches.service, chan_setChan_self _ (hu.chans ▸ hc)]; rfl
  obtain ⟨-, slice, remap⟩ := Chan.service_iff.1 served
  refine ⟨_, run, slice, remap, fun tr htr => ?_, started.then (setLoop_touches _)⟩
  rw [loopSt_setLoop_self _ (by rw [started.lengths.2.2.1, hu.loops]; exact hc)] at htr
  obtain ⟨tr0, -, rfl⟩ := Option.map_eq_some_iff.1 htr
  rfl

end
end Sys2Proof.Machine
end

section
set_option Elab.async false
/-! ### Banks: housekeeping, the strap and the hold -/

namespace Sys2Proof.Machine

section
variable {s t u : State} {b c d n : Nat}

/-! #### Housekeeping (R329, R330) -/

/-- The event of a sensor's fault, or of its end (R337). -/
def State.cjReport (s : State) (b detail : Nat) (now was : Bool) : State :=
  if now ∧ !was then s.cjEvent b 10 detail else if !now ∧ was then s.cjEvent b 11 detail else s

/-- What a report leaves in the recorder, and nothing else. -/
theorem cjReport_logs (hr : s.core = .running) (detail : Nat) (now was : Bool) : Touches [.rcd] ∅ s (s.cjReport b detail now was)
    ∧ ∃ l, Logs s (s.cjReport b detail now was) l ∧ (∀ x ∈ l, x = 0x020A ∨ x = 0x020B)
      ∧ (was = false → now = true → 0x020A ∈ l) := by
  have event (ev : Nat) : Touches [.rcd] ∅ s (s.cjEvent b ev detail) ∧ Logs s (s.cjEvent b ev detail) [0x0200 + ev] :=
    ⟨chanEvent_touches .., chanEvent_logs _ _ _ _ _ _ _ _ hr⟩
  unfold State.cjReport
  split
  · exact ⟨(event 10).1, _, (event 10).2, by simp, by simp⟩
  · next quiet =>
    split
    · exact ⟨(event 11).1, _, (event 11).2, by simp, by simp_all⟩
    · exact ⟨.refl .., [], .nil_of_eq rfl, by simp, fun fine bad => absurd ⟨bad, by rw [fine]; rfl⟩ quiet⟩

/-- Sensor A is judged faulty after a reading: at the first bad one, until the tenth good one in a row (R330). -/
def sensorFails (x : BankState) (good : Bool) : Bool :=
  if x.failA then decide ((if good then min 10 (x.goodA + 1) else 0) < 10) else !good

theorem sensorFails_of_good {x : BankState} (h : x.failA = false) (good : Bool) : sensorFails x good = !good := by
  simp [sensorFails, h]

theorem sensorFails_of_faulty {x : BankState} (h : x.failA = true) (good : Bool) :
    sensorFails x good = false ↔ good = true ∧ 9 ≤ x.goodA := by
  cases good
  · simp [sensorFails, h]
  · simp [sensorFails, h]

/-- What a housekeeping reading sets, and the reports of the sensors that follow from it. -/
theorem execHousekeepingReading_running (hr : s.core = .running) (hb : b < 4) (ta tb : Option Word) (temp : Word) (mv : Nat) :
    ∃ (f : BankState → BankState) (fb dis : Bool), execHousekeepingReading b ta tb temp mv s =
        .next ((((s.setBank b f).cjReport b 1 (sensorFails (bankSt s b) (goodReading ta)) (bankSt s b).failA).cjReport b 2 fb
          (bankSt s b).failB).cjReport b 4 dis (bankSt s b).disagree)
      ∧ (f (bankSt s b)).temp = some temp ∧ (f (bankSt s b)).supplyMv = some mv
      ∧ (f (bankSt s b)).failA = sensorFails (bankSt s b) (goodReading ta) := by
  have row : ¬ (s.core ≠ .running ∨ 3 < b) := by simp only [hr, ne_eq, not_true_eq_false, false_or]; omega
  unfold execHousekeepingReading
  rw [if_neg row]
  exact ⟨_, _, _, rfl, rfl, rfl, rfl⟩

theorem housekeeping_runs (hu : Units s) (hr : s.core = .running) (hb : b < 4) (ta tb : Option Word) (temp : Word) (mv : Nat) :
    ∃ t l, execHousekeepingReading b ta tb temp mv s = .next t ∧ (bankSt t b).temp = some temp ∧ (bankSt t b).supplyMv = some mv
      ∧ (bankSt t b).failA = sensorFails (bankSt s b) (goodReading ta)
      ∧ Logs s t l ∧ (∀ x ∈ l, x = 0x020A ∨ x = 0x020B)
      ∧ ((bankSt s b).failA = false → goodReading ta = false → 0x020A ∈ l) ∧ Touches [.banks, .rcd] ∅ s t := by
  obtain ⟨f, fb, dis, run, temp1, supply, failA⟩ := execHousekeepingReading_running hr hb ta tb temp mv
  let fa := sensorFails (bankSt s b) (goodReading ta)
  have read : Touches [.banks] ∅ s (s.setBank b f) := setBank_touches _
  obtain ⟨touches1, l1, logs1, codes1, faulty⟩ :=
    cjReport_logs (s := s.setBank b f) (b := b) hr 1 fa (bankSt s b).failA
  obtain ⟨touches2, l2, logs2, codes2, -⟩ := cjReport_logs (b := b) (touches1.core.trans hr) 2 fb (bankSt s b).failB
  obtain ⟨touches3, l3, logs3, codes3, -⟩ :=
    cjReport_logs (b := b) (touches2.core.trans (touches1.core.trans hr)) 4 dis (bankSt s b).disagree
  have reported := ((Touches.refl [.rcd] ∅ _).then touches1 |>.then touches2).then touches3
  have bank := (reported.bankSt (by decide) b).trans (bankSt_setBank_self f (bank_index_lt hu hb))
  refine ⟨_, (l1 ++ l2) ++ l3, run, by rw [bank, temp1], by rw [bank, supply], by rw [bank, failA]
    , (Logs.nil_of_eq (read.same .rcd (by decide))).trans ((logs1.trans logs2).trans logs3), fun x hx => ?_
    , fun good bad => ?_, read.mono.then reported⟩
  · simp only [List.mem_append] at hx
    rcases hx with (hx | hx) | hx
    · exact codes1 x hx
    · exact codes2 x hx
    · exact codes3 x hx
  · have : 0x020A ∈ l1 := faulty good (by rw [show fa = _ from sensorFails_of_good good _, bad]; rfl)
    simp [this]

/-! #### Supplies raised in advance (R347) -/

/-- What a loop is asked for: its setpoint and the bank's latch, its failure and its force. -/
def Loop.asked (l : Loop) : Nat × Nat × Bool × Option (Nat × Nat) := (l.setpoint, l.latched, l.failing, l.forced)

theorem Loop.asked_eq {x y : Loop} : x.asked = y.asked ↔ x.setpoint = y.setpoint ∧ x.latched = y.latched
    ∧ x.failing = y.failing ∧ x.forced = y.forced := by
  simp [Loop.asked]

/-- A field that an update of any loop keeps. -/
theorem loopSt_setLoop_field {α : Type} (g : Loop → α) {f : Loop → Loop} (h : ∀ x, g (f x) = g x) :
    g (loopSt (s.setLoop c f) d) = g (loopSt s d) := by
  simp only [loopSt, State.setLoop_loops, nth_upd]
  split
  · next e => rw [h, e.1]
  · rfl

/-- A supply raised, or refused, leaves what the loops are asked for. -/
theorem raiseSupply_leaves : Touches [.loops] {c} s (s.raiseSupply c n)
    ∧ ∀ d, (loopSt (s.raiseSupply c n) d).asked = (loopSt s d).asked := by
  unfold State.raiseSupply
  split
  · exact ⟨setLoop_touches _, fun d => loopSt_setLoop_field Loop.asked fun _ => rfl⟩
  · split <;> exact ⟨setLoop_touches _, fun d => loopSt_setLoop_field Loop.asked fun _ => rfl⟩

theorem preRaise_leaves : Touches [.loops] {c} s (s.preRaise c n)
    ∧ ∀ d, (loopSt (s.preRaise c n) d).asked = (loopSt s d).asked := by
  unfold State.preRaise
  dsimp only
  split
  · split <;> exact raiseSupply_leaves
  · exact ⟨.refl .., fun _ => rfl⟩

/-- The channels of a bank. -/
def bankChannels (b : Nat) : List Nat := (List.range 8).map (8 * b + ·)

theorem mem_bankChannels : d ∈ bankChannels b ↔ d / 8 = b := by
  simp only [bankChannels, List.mem_map, List.mem_range]
  constructor
  · rintro ⟨i, hi, rfl⟩; omega
  · exact fun h => ⟨d % 8, by omega, by omega⟩

/-- The supplies of a bank's channels follow what is asked for since `s`. -/
def State.preRaiseBank (s : State) (b : Nat) (u : State) : State :=
  (bankChannels b).foldl (fun acc c => acc.preRaise c (driven s c)) u

theorem preRaiseBank_leaves : Touches [.loops] Set.univ u (s.preRaiseBank b u)
    ∧ ∀ d, (loopSt (s.preRaiseBank b u) d).asked = (loopSt u d).asked :=
  ⟨.foldl fun _ _ _ => preRaise_leaves.1.mono, fun d => List.foldlRecOn (motive := fun t => (loopSt t d).asked = (loopSt u d).asked)
    _ _ rfl fun _ h _ _ => (preRaise_leaves.2 d).trans h⟩

/-! #### The strap (R353) -/

/-- The code of a strap's resistance (Table 12-5). -/
def strapCode (ohms : Nat) : Nat := if ohms < 1000 then 1 else if 100000 < ohms then 0 else 2

/-- A code read for the third time in a row. -/
abbrev strapConfirmed (x : BankState) (r : Nat) : Prop := r = x.strapNew ∧ 2 ≤ x.strapRun

/-- The count of equal codes after a reading. -/
def strapCount (x : BankState) (r : Nat) : Nat := if r = x.strapNew then min 3 (x.strapRun + 1) else 1

theorem strapCount_eq_three {x : BankState} {r : Nat} : strapCount x r = 3 ↔ strapConfirmed x r := by
  unfold strapCount
  split <;> omega

/-- A strap's reading counted. -/
def State.strapRead (s : State) (b r : Nat) : State :=
  s.setBank b fun x => { x with strapNew := r, strapRun := strapCount (bankSt s b) r }

theorem execNselRead_powered (hp : s.pw.valid = true) (hb : b < 4) (ohms : Nat) : execNselRead b ohms s = .next (
    if strapCount (bankSt s b) (strapCode ohms) = 3 ∧ strapCode ohms ≠ (bankSt s b).strap then
      (s.preRaiseBank b ((s.strapRead b (strapCode ohms)).setBank b fun x => { x with strap := strapCode ohms })).chanEvent
        19 b 0xFF 0xFF 0xFF (strapCode ohms) 0 0
    else s.strapRead b (strapCode ohms)) := by
  have row : ¬ ((!s.pw.valid) = true ∨ 3 < b) := by simp only [hp, Bool.not_true, Bool.false_eq_true, false_or]; omega
  unfold execNselRead
  rw [if_neg row]
  rfl

/-- A code read three times in a row is the strap's (R353). -/
theorem nselRead_runs (hu : Units s) (hr : s.core = .running) (hp : s.pw.valid = true) (hb : b < 4) (ohms : Nat) :
    ∃ t, execNselRead b ohms s = .next t
      ∧ (bankSt t b).strap = (if strapConfirmed (bankSt s b) (strapCode ohms) then strapCode ohms else (bankSt s b).strap)
      ∧ (strapConfirmed (bankSt s b) (strapCode ohms) → strapCode ohms ≠ (bankSt s b).strap → Logs s t [0x0213])
      ∧ Touches [.banks, .loops, .rcd] Set.univ s t := by
  have run := execNselRead_powered hp hb ohms
  have read : Touches [.banks, .loops] Set.univ s (s.strapRead b (strapCode ohms)) := (setBank_touches _).mono
  have bank := bank_index_lt hu hb
  have bank1 : (bankSt (s.strapRead b (strapCode ohms)) b).strap = (bankSt s b).strap := by
    rw [State.strapRead, bankSt_setBank_self _ bank]
  simp only [strapCount_eq_three] at run
  by_cases changed : strapConfirmed (bankSt s b) (strapCode ohms) ∧ strapCode ohms ≠ (bankSt s b).strap
  · rw [if_pos changed] at run
    have set := read.then (setBank_touches (b := b) fun x => { x with strap := strapCode ohms })
    have raised := set.then (preRaiseBank_leaves (s := s) (b := b)).1
    refine ⟨_, run, ?_, fun _ _ => ?_, raised.mono.then (chanEvent_touches ..)⟩
    · rw [if_pos changed.1, (chanEvent_touches ..).bankSt, preRaiseBank_leaves.1.bankSt
        , bankSt_setBank_self _ (by rw [read.lengths.2.2.2]; exact bank)]
    · exact (Logs.nil_of_eq (raised.same .rcd (by decide))).trans (chanEvent_logs _ _ _ _ _ _ _ _ (raised.core.trans hr))
  · rw [if_neg changed] at run
    refine ⟨_, run, ?_, fun h k => absurd ⟨h, k⟩ changed, read.mono⟩
    rw [bank1]
    split
    · next h => exact (not_not.1 fun k => changed ⟨h, k⟩).symm
    · rfl

/-! #### The hold (R356, R357) -/

/-- The current of a channel that no force drives. -/
theorem driven_of_unforced (hm : isOutputMode (chanCfg s c).mode = true) (hr : (chan s c).retired = 0)
    (hf : (loopSt s c).forced = none) : driven s c =
      if (bankSt s (c / 8)).expired ∧ (chanCfg s c).safe = 1 then failureUa s c
      else if (bankSt s (c / 8)).expired ∧ (chanCfg s c).safe = 2 then 0
      else if (loopSt s c).failing then failureUa s c else (loopSt s c).latched := by
  simp [driven, hm, hr, hf]

theorem execHoldExpired_due (hp : s.pw.valid = true) (hb : b < 4) {last : Nat} (hl : (bankSt s b).lastFrame = some last)
    (hh : bankHold s b ≠ 0) (hd : last + bankHold s b * 1000 ≤ s.tm.now) :
    execHoldExpired b s = .next (s.preRaiseBank b (s.setBank b fun x => { x with expired := true })) := by
  simp only [execHoldExpired, hl, hp, hb, hh, hd, ne_eq, not_false_eq_true, and_self, if_true]
  rfl

/-- The outputs of a bank whose hold expires take their safe states. -/
theorem holdExpired_runs (hu : Units s) (hp : s.pw.valid = true) (hb : b < 4) {last : Nat} (hl : (bankSt s b).lastFrame = some last)
    (hh : bankHold s b ≠ 0) (hd : last + bankHold s b * 1000 ≤ s.tm.now) :
    ∃ t, execHoldExpired b s = .next t ∧ (bankSt t b).expired = true
      ∧ (∀ c, c / 8 = b → isOutputMode (chanCfg s c).mode = true → (chan s c).retired = 0 → (loopSt s c).forced = none →
          driven t c = if (chanCfg s c).safe = 1 then failureUa s c else if (chanCfg s c).safe = 2 then 0 else driven s c)
      ∧ Touches [.banks, .loops] Set.univ s t := by
  have expires : Touches [.banks] ∅ s (s.setBank b fun x => { x with expired := true }) := setBank_touches _
  obtain ⟨raised, asked⟩ := preRaiseBank_leaves (s := s) (b := b) (u := s.setBank b fun x => { x with expired := true })
  have touches := ((Touches.refl [.banks, .loops] Set.univ s).then expires).then raised
  have bank : bankSt (s.preRaiseBank b (s.setBank b fun x => { x with expired := true })) b = { bankSt s b with expired := true } := by
    rw [raised.bankSt, bankSt_setBank_self _ (bank_index_lt hu hb)]
  refine ⟨_, execHoldExpired_due hp hb hl hh hd, by rw [bank], fun c hc mode retired forced => ?_, touches⟩
  subst hc
  obtain ⟨-, latched, failing, forced'⟩ := Loop.asked_eq.1 ((asked c).trans (congrArg Loop.asked (expires.loopSt (by decide) c)))
  have failure : failureUa (s.preRaiseBank (c / 8) (s.setBank (c / 8) fun x => { x with expired := true })) c = failureUa s c := by
    rw [failureUa, failureUa, failureHigh, failureHigh, touches.chanCfg, bank]
  rw [driven_of_unforced (by rw [touches.chanCfg]; exact mode) (by rw [touches.chan]; exact retired) (forced'.trans forced), bank
    , touches.chanCfg, failure, latched, failing, driven_of_unforced mode retired forced]
  by_cases one : (chanCfg s c).safe = 1
  · simp [one]
  · by_cases two : (chanCfg s c).safe = 2 <;> simp [one, two]

/-! #### The refresh (R356) -/

/-- A good frame latches the setpoint of an output, with its supply raised in advance. -/
def State.latchOutput (s u : State) (c : Nat) : State :=
  if isOutputMode (chanCfg s c).mode then (u.setLoop c fun l => { l with latched := l.setpoint }).preRaise c (driven s c) else u

theorem latchOutput_touches : Touches [.loops] {c} u (s.latchOutput u c) :=
  .ite ((setLoop_touches _).then preRaise_leaves.1) (.refl ..)

theorem setpoint_latchOutput (d : Nat) : (loopSt (s.latchOutput u c) d).setpoint = (loopSt u d).setpoint := by
  unfold State.latchOutput
  split
  · exact (Loop.asked_eq.1 (preRaise_leaves.2 d)).1.trans (loopSt_setLoop_field Loop.setpoint fun _ => rfl)
  · rfl

theorem latched_latchOutput (h : c < u.ana.loops.length) (hm : isOutputMode (chanCfg s c).mode = true) :
    (loopSt (s.latchOutput u c) c).latched = (loopSt u c).setpoint := by
  rw [State.latchOutput, if_pos hm, (Loop.asked_eq.1 (preRaise_leaves.2 c)).2.1, loopSt_setLoop_self _ h]

theorem latchOutputs_touches (l : List Nat) : Touches [.loops] {d | d ∈ l} u (l.foldl s.latchOutput u) :=
  .foldl fun _ _ h => latchOutput_touches.mono (by decide) (by simpa using h)

/-- Every output of the channels listed is at its setpoint. -/
theorem latched_latchOutputs {l : List Nat} (hl : ∀ c ∈ l, c < u.ana.loops.length) (hd : d ∈ l)
    (hm : isOutputMode (chanCfg s d).mode = true) : (loopSt (l.foldl s.latchOutput u) d).latched = (loopSt u d).setpoint := by
  induction l generalizing u with
  | nil => exact absurd hd (by simp)
  | cons c l ih =>
    rw [List.foldl_cons]
    by_cases later : d ∈ l
    · have bounds (e : Nat) (he : e ∈ l) : e < (s.latchOutput u c).ana.loops.length := by
        rw [latchOutput_touches.lengths.2.2.1]; exact hl e (List.mem_cons_of_mem _ he)
      rw [ih bounds later, setpoint_latchOutput]
    · obtain rfl : d = c := (List.mem_cons.1 hd).resolve_right later
      rw [((latchOutputs_touches l).others d later).2, latched_latchOutput (hl d List.mem_cons_self) hm]

/-- A frame received of the bank, as its hold counts from. -/
def State.frameTaken (s : State) (b : Nat) : State := s.setBank b fun x => { x with lastFrame := some s.tm.now, expired := false }

theorem execSetpointRefresh_good {fr : BitVec 64} (hb : b < 4) (hr : refreshing s = true) (hf : frameOk fr = true) :
    ∃ ms : Int, execSetpointRefresh b fr s = .next (
      if (bankSt s b).expired then ((bankChannels b).foldl s.latchOutput (s.frameTaken b)).chanEvent 20 b 0xFF 0xFF 0xFF 0 ms 0
      else (bankChannels b).foldl s.latchOutput (s.frameTaken b)) := by
  have row : ¬ (3 < b ∨ (!refreshing s) = true ∨ (!frameOk fr) = true) := by
    simp only [hr, hf, Bool.not_true, Bool.false_eq_true, or_self, or_false]; omega
  unfold execSetpointRefresh
  rw [if_neg row]
  exact ⟨_, rfl⟩

/-- A frame that fails its check is discarded (R282). -/
theorem setpointRefresh_discards {fr : BitVec 64} (hf : frameOk fr = false) : execSetpointRefresh b fr s = .next s := by
  have row : 3 < b ∨ (!refreshing s) = true ∨ (!frameOk fr) = true := .inr (.inr (by rw [hf]; rfl))
  unfold execSetpointRefresh
  rw [if_pos row]

/-- A good frame latches the setpoints of a bank's outputs and ends its expired hold. -/
theorem setpointRefresh_runs {fr : BitVec 64} (hu : Units s) (hc : s.core = .running) (hb : b < 4) (hr : refreshing s = true)
    (hf : frameOk fr = true) : ∃ t, execSetpointRefresh b fr s = .next t ∧ (bankSt t b).expired = false
      ∧ (bankSt t b).lastFrame = some s.tm.now
      ∧ (∀ c, c / 8 = b → isOutputMode (chanCfg s c).mode = true → (loopSt t c).latched = (loopSt s c).setpoint)
      ∧ (∀ c, c / 8 ≠ b → loopSt t c = loopSt s c) ∧ Logs s t (if (bankSt s b).expired then [0x0214] else [])
      ∧ Touches [.banks, .loops, .rcd] Set.univ s t := by
  obtain ⟨ms, run⟩ := execSetpointRefresh_good hb hr hf
  let z := (bankChannels b).foldl s.latchOutput (s.frameTaken b)
  have taken : Touches [.banks] ∅ s (s.frameTaken b) := setBank_touches _
  have latches : Touches [.loops] {d | d ∈ bankChannels b} (s.frameTaken b) z := latchOutputs_touches _
  have touches := ((Touches.refl [.banks, .loops] Set.univ s).then taken).then latches
  have bank : bankSt z b = { bankSt s b with lastFrame := some s.tm.now, expired := false } := by
    rw [latches.bankSt]; exact bankSt_setBank_self _ (bank_index_lt hu hb)
  have latched (c : Nat) (h : c / 8 = b) (mode : isOutputMode (chanCfg s c).mode = true) :
      (loopSt z c).latched = (loopSt s c).setpoint :=
    latched_latchOutputs (fun e he => by rw [taken.lengths.2.2.1, hu.loops]; have := mem_bankChannels.1 he; omega)
      (mem_bankChannels.2 h) mode
  have others (c : Nat) (h : c / 8 ≠ b) : loopSt z c = loopSt s c :=
    (latches.others c fun hc => h (mem_bankChannels.1 hc)).2.trans (taken.loopSt (by decide) c)
  have recorder : Logs s z [] := .nil_of_eq (touches.same .rcd (by decide))
  by_cases expired : (bankSt s b).expired = true
  · rw [if_pos expired] at run ⊢
    have event : Touches [.rcd] ∅ z (z.chanEvent 20 b 0xFF 0xFF 0xFF 0 ms 0) := chanEvent_touches ..
    refine ⟨_, run, ?_, ?_, fun c h mode => ?_, fun c h => ?_, ?_, touches.mono.then event⟩
    · rw [event.bankSt, bank]
    · rw [event.bankSt, bank]
    · rw [event.loopSt, latched c h mode]
    · rw [event.loopSt, others c h]
    · exact recorder.trans (chanEvent_logs _ _ _ _ _ _ _ _ (touches.core.trans hc))
  · rw [if_neg expired] at run ⊢
    exact ⟨_, run, by rw [bank], by rw [bank], latched, others, recorder, touches.mono⟩

end
end Sys2Proof.Machine

open Sys2Proof.Machine in
/-- Settles O54: every event of a bank has the lemma of its case, and the parts it touches give its frame. -/
theorem banksCheckTheirSlices : Obligations.BanksCheckTheirSlices := by
  intro s b hu hr hb
  refine ⟨fun term h1 h40 hl => ⟨?on, ?off, fun ho hf hc he => ?timeout⟩, fun n off gain hn hp hv => ⟨?passes, ?repeats, ?retires⟩
    , fun c n hc hs hserved hn hd hm hv hrove hk ht hp => ?inPlace, fun n c hn hv hp hw hx => ?rove
    , fun c r hc hm hd ha _ => ?handover, fun ta tb temp mv => ?housekeeping, fun hp => ⟨fun ohms => ?strap, fun last hl hh hd => ?hold⟩
    , fun fr hf => ?discards, fun fr hrefresh hf => ?refresh⟩
  case on =>
    obtain ⟨t, run, flag, conducting, logs, touches⟩ := clampConduction_starts hu hr hb h1 h40 hl
    refine ⟨t, run, flag, conducting, fun flagged => ?_, fun fresh first late => ?_, touches.eq⟩
    · rwa [if_neg (by simp [clampReported, flagged])] at logs
    · rwa [if_pos (by simp [clampReported, fresh, first, late])] at logs
  case off =>
    obtain ⟨t, run, conducting, flag, touches⟩ := clampConduction_ends hu hr hb h1 h40 hl
    exact ⟨t, run, conducting, flag, touches.eq_parts⟩
  case timeout =>
    obtain ⟨t, run, flag, touches⟩ := clampFlagTimeout_clears hu hr hb h1 h40 hl ho hf hc he
    exact ⟨t, run, flag, touches.eq_parts⟩
  case passes =>
    intro c low high down up hs hvisit hk hretry hw
    obtain ⟨rfl, -⟩ := servedBy_spec hs
    obtain ⟨t, run, fails, offset, slope, phase, due, touches⟩ :=
      selfCheckDone_passes hu hr hb hn hp ⟨low, high⟩ ⟨down, up⟩ hs hvisit hk hretry hw
    exact ⟨t, run, fails, offset, slope, phase, due, touches.onlyChannel, touches.eq⟩
  case repeats =>
    intro bad hfails hk
    obtain ⟨t, run, fails, phase, logs, touches⟩ :=
      selfCheckDone_repeats hr hb hn hp hv (by rw [hu.slices]; omega) bad hfails hk
    exact ⟨t, run, fails, phase, logs, touches.same .chans (by decide), touches.eq⟩
  case retires => exact fun bad => selfCheckDone_retires hr hb hn hp hv (by rw [hu.slices]; omega) bad hu.chans
  case inPlace =>
    obtain ⟨t, run, phase, due, touches⟩ :=
      inPlaceCheck_runs hr hc ⟨hu.chans ▸ hc, slice_index_lt hu hc hn, hserved, hv⟩ hd hm hrove hk ht hp
    exact ⟨t, run, phase, due, touches.onlyChannel, touches.eq⟩
  case rove =>
    obtain ⟨t, run, phase, visits, touches⟩ := roveVisit_starts hu hr hb hn hv hp hw hx
    exact ⟨t, run, phase, visits, touches.same .chans (by decide), touches.eq⟩
  case handover =>
    obtain ⟨t, run, slice, remap, discarded, touches⟩ := remapHandover_runs hu hr hc hm hd ha
    exact ⟨t, run, slice, remap, discarded, touches.onlyChannel, touches.eq⟩
  case housekeeping =>
    obtain ⟨t, l, run, temp1, supply, failA, logs, codes, faulty, touches⟩ := housekeeping_runs hu hr hb ta tb temp mv
    exact ⟨t, l, run, temp1, supply, fun good => failA.trans (sensorFails_of_good good _)
      , fun bad => failA ▸ sensorFails_of_faulty bad _, logs, codes, faulty, touches.eq_parts⟩
  case strap =>
    obtain ⟨t, run, strap, logs, touches⟩ := nselRead_runs hu hr hp hb ohms
    exact ⟨t, run, strap, logs, touches.eq⟩
  case hold =>
    obtain ⟨t, run, expired, safe, touches⟩ := holdExpired_runs hu hp hb hl hh hd
    exact ⟨t, run, expired, safe, touches.eq_parts⟩
  case discards => exact setpointRefresh_discards hf
  case refresh =>
    obtain ⟨t, run, expired, frame, latched, others, logs, touches⟩ := setpointRefresh_runs hu hr hb hrefresh hf
    exact ⟨t, run, expired, frame, latched, others, logs, touches.eq_parts⟩
end

section
/-! ### Loops: what is set of one, and its supply -/

namespace Sys2Proof.Machine

section
variable {s t : State} {c n : Nat}

theorem loop_index_lt (hu : Units s) (hc : c < 32) : c < s.ana.loops.length := by rw [hu.loops]; exact hc

theorem State.setLoop_setLoop (f g : Loop → Loop) : (s.setLoop c f).setLoop c g = s.setLoop c (g ∘ f) := by
  simp only [State.setLoop, upd_upd]

/-- Where only one channel's loop may differ, the rest of the node stands. -/
theorem Touches.loop_frame (h : Touches [.loops] {c} s t) :
    OnlyChannel s t c ∧ t = { s with ana := { s.ana with loops := t.ana.loops } } := ⟨h.onlyChannel, h.eq_parts⟩

/-- A supply raised, or refused, is a change of its loop alone (R348). -/
theorem State.raiseSupply_eq : s.raiseSupply c n = s.setLoop c fun l => { l with
    supply := if n ≤ (loopSt s c).supply ∨ overAllowance s c n = true then l.supply else n
    refused := decide ((loopSt s c).supply < n) && overAllowance s c n } := by
  unfold State.raiseSupply
  by_cases low : n ≤ (loopSt s c).supply
  · simp [low, Nat.not_lt.2 low]
  · cases overAllowance s c n <;> simp [low, Nat.not_le.1 low]

/-- A supply raised in advance changes nothing of its loop but the supply and its refusal (R347). -/
theorem loopSt_preRaise (h : c < s.ana.loops.length) : loopSt (s.preRaise c n) c = { loopSt s c with
    supply := (loopSt (s.preRaise c n) c).supply, refused := (loopSt (s.preRaise c n) c).refused } := by
  have raised (m : Nat) : loopSt (s.raiseSupply c m) c = { loopSt s c with
      supply := (loopSt (s.raiseSupply c m) c).supply, refused := (loopSt (s.raiseSupply c m) c).refused } := by
    rw [State.raiseSupply_eq, loopSt_setLoop_self _ h]
  unfold State.preRaise
  dsimp only
  split
  · split <;> exact raised _
  · rfl

/-- Without a rise of the current asked for, no supply is raised. -/
theorem preRaise_of_steady (h : driven s c ≤ n) : s.preRaise c n = s := by
  simp [State.preRaise, Nat.not_lt.2 h]

end

end Sys2Proof.Machine
end

section
/-! ### LOOP.FORCE and the end of a force -/

namespace Sys2Proof.Machine

section
variable {s : State} {c d e n ua : Nat}

/-- The current of an output that a force drives (R370). -/
theorem driven_of_forced (hr : s.core = .running) (hm : isOutputMode (chanCfg s c).mode = true) (hc : (chan s c).retired = 0)
    (hf : (loopSt s c).forced = some (ua, e)) : driven s c = ua := by
  simp [driven, hr, hm, hc, hf, Option.filter]

/-! #### The end of a force -/

theorem endLoopForce_of_unforced (hf : (loopSt s c).forced = none) : s.endLoopForce c d = s := by
  simp [State.endLoopForce, hf]

theorem endLoopForce_of_forced (hf : (loopSt s c).forced = some (ua, e)) :
    s.endLoopForce c d = (s.setLoop c fun l => { l with forced := none }).forceEvent c d ua := by
  simp [State.endLoopForce, hf]

/-- The end of a force takes it away and nothing else of the loop. -/
theorem loopSt_endLoopForce (h : c < s.ana.loops.length) :
    loopSt (s.endLoopForce c d) c = { loopSt s c with forced := none } := by
  cases hf : (loopSt s c).forced with
  | none => rw [endLoopForce_of_unforced hf, ← hf]
  | some f =>
    rw [endLoopForce_of_forced hf, State.forceEvent, (chanEvent_touches ..).loopSt, loopSt_setLoop_self _ h]

/-- The end of a force is recorded; where there is none, nothing is. -/
theorem endLoopForce_logs (hr : s.core = .running) :
    Logs s (s.endLoopForce c d) (if (loopSt s c).forced = none then [] else [0x0215]) := by
  cases hf : (loopSt s c).forced with
  | none => rw [endLoopForce_of_unforced hf]; exact .nil_of_eq rfl
  | some f =>
    rw [endLoopForce_of_forced hf]
    have unset : Logs s (s.setLoop c fun l => { l with forced := none }) [] := .nil_of_eq rfl
    exact unset.trans (chanEvent_logs 21 _ _ _ _ _ _ _ hr)

/-- A force ended, with the supply raised to what is then asked for. -/
def State.unforce (s : State) (c detail : Nat) : State := (s.endLoopForce c detail).preRaise c (driven s c)

theorem unforce_of_unforced (hf : (loopSt s c).forced = none) : s.unforce c d = s := by
  rw [State.unforce, endLoopForce_of_unforced hf, preRaise_of_steady le_rfl]

/-- A force that ends leaves its loop as it was, but for the supply, and is recorded (R358, R370). -/
theorem unforce_of_forced (hr : s.core = .running) (h : c < s.ana.loops.length) (hf : (loopSt s c).forced = some (ua, e)) :
    loopSt (s.unforce c d) c = { loopSt s c with
        forced := none, supply := (loopSt (s.unforce c d) c).supply, refused := (loopSt (s.unforce c d) c).refused }
      ∧ Logs s (s.unforce c d) [0x0215] ∧ Touches [.rcd, .loops] {c} s (s.unforce c d) := by
  have ended : Touches [.rcd, .loops] {c} s (s.endLoopForce c d) := endLoopForce_touches d
  have raised : Touches [.loops] {c} (s.endLoopForce c d) (s.unforce c d) := preRaise_leaves.1
  have logs := endLoopForce_logs (c := c) (d := d) hr
  rw [if_neg (by rw [hf]; nofun)] at logs
  refine ⟨?_, logs.of_rcd (raised.same .rcd (by decide)), ended.then raised⟩
  have loop := loopSt_preRaise (n := driven s c) (ended.lengths.2.2.1.symm ▸ h)
  rw [loopSt_endLoopForce h] at loop
  exact loop

/-! #### The beginning of a force -/

/-- A force of `ua` µA until `e` begun, in place of one that stands. -/
def State.force (s : State) (c ua e : Nat) : State :=
  (((s.endLoopForce c 4).setLoop c fun l => { l with forced := some (ua, e) }).preRaise c (driven s c)).forceEvent c 1 ua

theorem force_touches : Touches [.rcd, .loops] {c} s (s.force c ua e) :=
  (((endLoopForce_touches 4).then (setLoop_touches _)).then preRaise_leaves.1).then (chanEvent_touches ..)

/-- A force begun stands, and is recorded after the end of the one before (R370). -/
theorem force_begins (hr : s.core = .running) (h : c < s.ana.loops.length) :
    (loopSt (s.force c ua e) c).forced = some (ua, e)
      ∧ Logs s (s.force c ua e) (if (loopSt s c).forced = none then [0x0215] else [0x0215, 0x0215]) := by
  let s1 := s.endLoopForce c 4
  let s2 := s1.setLoop c fun l => { l with forced := some (ua, e) }
  let s3 := s2.preRaise c (driven s c)
  obtain ⟨raised, asked⟩ := preRaise_leaves (s := s2) (c := c) (n := driven s c)
  obtain ⟨-, -, -, forced⟩ := Loop.asked_eq.1 (asked c)
  have ended : Touches [.rcd, .loops] {c} s s1 := endLoopForce_touches 4
  have set : Touches [.loops] {c} s1 s3 := (setLoop_touches _).then raised
  have event : Touches [.rcd] ∅ s3 (s.force c ua e) := chanEvent_touches ..
  constructor
  · rw [event.loopSt, forced, loopSt_setLoop_self _ (ended.lengths.2.2.1.symm ▸ h)]
  · have begun : Logs s3 (s.force c ua e) [0x0215] := chanEvent_logs 21 _ _ _ _ _ _ _ (set.core.trans (ended.core.trans hr))
    have logs := ((endLoopForce_logs hr).of_rcd (set.same .rcd (by decide))).trans begun
    simpa only [apply_ite (· ++ [0x0215]), List.nil_append, List.singleton_append] using logs

end

/-! #### The opcode -/

/-- A LOOP.FORCE that names the output `ch` and a duration, in the form of its opcode (R370). -/
structure ForceForm (s : State) (c : Cmd) (ch : Nat) : Prop where
  length : c.payload.length = 8
  names : u8 c.payload 0 = ch
  zero : allZero c.payload 1 1 = true
  shortest : 10 ≤ u16 c.payload 2
  longest : u16 c.payload 2 ≤ 3600
  lt : ch < 32
  output : isOutputMode (chanCfg s ch).mode = true
  served : (chan s ch).retired = 0

section
variable {s : State} {c : Cmd} {ch : Nat} (ha : Admitted s c) (hf : ForceForm s c ch)
include ha hf

theorem execLoopForce_formed (hv : u32 c.payload 4 ≤ 24000) : execLoopForce c s = .next
    ((s.force ch (u32 c.payload 4) (s.tm.now + u16 c.payload 2 * 1000000)).replyF c 0x0641 Status.ok [] 0) := by
  obtain ⟨length, names, zero, shortest, longest, lt, output, served⟩ := hf
  have value : u32 c.payload 4 ≠ 0xFFFFFFFF := by omega
  unfold execLoopForce
  rw [runOpcode_admitted ha]
  simp only [loopForce, length, names, zero, output, served, value, Nat.not_lt.2 shortest, Nat.not_lt.2 longest
    , Nat.not_lt.2 (Nat.le_of_lt_succ lt), Nat.not_lt.2 hv, ne_eq, not_true_eq_false, Bool.not_true, Bool.false_eq_true, false_and
    , or_self, if_false]
  rfl

theorem execLoopForceRelease_formed (hv : u32 c.payload 4 = 0xFFFFFFFF) :
    execLoopForceRelease c s = .next ((s.unforce ch 2).replyF c 0x0641 Status.ok [] 0) := by
  obtain ⟨length, names, zero, shortest, longest, lt, output, served⟩ := hf
  unfold execLoopForceRelease
  rw [runOpcode_admitted ha]
  simp only [loopForce, length, names, zero, output, served, hv, Nat.not_lt.2 shortest, Nat.not_lt.2 longest
    , Nat.not_lt.2 (Nat.le_of_lt_succ lt), ne_eq, not_true_eq_false, Bool.not_true, Bool.false_eq_true, and_false
    , or_self, if_false, if_true]
  rfl

end

theorem execLoopForceExpiry_due {s : State} {ch ua e : Nat} (hr : s.core = .running) (hf : (loopSt s ch).forced = some (ua, e))
    (he : e ≤ s.tm.now) : execLoopForceExpiry ch s = .next (s.unforce ch 3) := by
  simp only [execLoopForceExpiry, hf, hr, he, and_self, if_true]
  rfl

end Sys2Proof.Machine

open Sys2Proof.Machine in
/-- Settles O20: `State.force` begins a force (`force_begins`); its release and its expiry are `State.unforce`. -/
theorem loopForcesBeginAndEnd : Obligations.LoopForcesBeginAndEnd := by
  intro s ch hu hr lt
  have index := loop_index_lt hu lt
  refine ⟨fun c ha length names zero shortest longest output served => ?command, fun ua e hf he => ?expiry⟩
  case expiry =>
    obtain ⟨loop, logs, touches⟩ := unforce_of_forced (d := 3) hr index hf
    exact ⟨_, execLoopForceExpiry_due hr hf he, loop, logs, touches.onlyChannel, touches.eq_parts⟩
  have form : ForceForm s c ch := ⟨length, names, zero, shortest, longest, lt, output, served⟩
  refine ⟨fun hv => ?begins, fun f hv hf => ?released, fun hv hf => ?unforced⟩
  case begins =>
    obtain ⟨forced, logs⟩ := force_begins (ua := u32 c.payload 4) (e := s.tm.now + u16 c.payload 2 * 1000000) hr index
    have touches := force_touches (s := s) (c := ch) (ua := u32 c.payload 4) (e := s.tm.now + u16 c.payload 2 * 1000000)
    have replied := (touches.mono (B := [.ports, .rcd, .loops]) (C := {ch})).then (replyF_touches c 0x0641 Status.ok [] 0)
    rw [← loopSt_replyF _ ch c 0x0641 Status.ok [] 0] at forced
    exact ⟨_, execLoopForce_formed ha form hv
      , State.replyF_answers_of s _ c _ _ _ _ ha.ring (touches.same .ports (by decide)) touches.node, forced
      , driven_of_forced (replied.core.trans hr) (by rw [replied.chanCfg]; exact output) (by rw [replied.chan]; exact served) forced
      , logs.replyF .., replied.onlyChannel, replied.eq_parts⟩
  case released =>
    obtain ⟨loop, logs, touches⟩ := unforce_of_forced (d := 2) hr index hf
    have replied := (touches.mono (B := [.ports, .rcd, .loops]) (C := {ch})).then (replyF_touches c 0x0641 Status.ok [] 0)
    refine ⟨_, execLoopForceRelease_formed ha form hv
      , State.replyF_answers_of s _ c _ _ _ _ ha.ring (touches.same .ports (by decide)) touches.node, ?_
      , logs.replyF .., replied.onlyChannel, replied.eq_parts⟩
    rw [loopSt_replyF]
    exact loop
  case unforced =>
    have run := execLoopForceRelease_formed ha form hv
    rw [unforce_of_unforced hf] at run
    exact ⟨_, run, State.replyF_answers s c _ _ _ _ ha.ring⟩
end

section
/-! ### Readings of a loop: its supply, its compliance and its thermal limit -/

namespace Sys2Proof.Machine

section
variable {s : State} {r : LoopReading} {c : Nat}

theorem State.setLoop_congr (f g : Loop → Loop) (h : f (loopSt s c) = g (loopSt s c)) : s.setLoop c f = s.setLoop c g := by
  simp only [State.setLoop, upd_congr s.ana.loops c f g h]

/-- A loop set to what it is already leaves the node. -/
theorem State.setLoop_eq_self (f : Loop → Loop) (h : f (loopSt s c) = loopSt s c) : s.setLoop c f = s := by
  have e : upd s.ana.loops c f = s.ana.loops := upd_eq_self _ _ _ h
  show { s with ana := { s.ana with loops := upd s.ana.loops c f } } = s
  rw [e]

/-! #### A reading taken -/

/-- A loop once a reading of it is taken. -/
def Loop.read (k : ChanCfg) (r : LoopReading) (l : Loop) : Loop :=
  { l with current := r.currentUa, vt := r.vtMv, temp := r.tempDeci
           power := dissipation k (l.supply * 250) r.vtMv r.currentUa.natAbs / 1000000 }

theorem State.readLoop_eq : s.readLoop r = s.setLoop r.channel (Loop.read (chanCfg s r.channel) r) := rfl

/-- What was last read of a loop. -/
def Loop.readings (l : Loop) : Int × Nat × Int := (l.current, l.vt, l.temp)

theorem Loop.readings_iff {l : Loop} {a : Int} {v : Nat} {b : Int} :
    l.readings = (a, v, b) ↔ l.current = a ∧ l.vt = v ∧ l.temp = b := by simp [Loop.readings]

/-- A step of the bank that takes a reading and then changes its loop by `f`, which leaves what was read. -/
theorem readLoop_then (h : r.channel < s.ana.loops.length) {f : Loop → Loop} (hf : ∀ l, (f l).readings = l.readings) :
    loopSt ((s.readLoop r).setLoop r.channel f) r.channel = f (Loop.read (chanCfg s r.channel) r (loopSt s r.channel))
      ∧ (loopSt ((s.readLoop r).setLoop r.channel f) r.channel).readings = (r.currentUa, r.vtMv, r.tempDeci)
      ∧ Touches [.loops] {r.channel} s ((s.readLoop r).setLoop r.channel f) := by
  have loop : loopSt ((s.readLoop r).setLoop r.channel f) r.channel = f (Loop.read (chanCfg s r.channel) r (loopSt s r.channel)) := by
    rw [State.readLoop_eq, State.setLoop_setLoop, loopSt_setLoop_self _ h]; rfl
  refine ⟨loop, ?_, (setLoop_touches _).then (setLoop_touches f)⟩
  rw [loop, hf]; rfl

/-- A fresh reading of a loop in service is its bank's own. -/
theorem ownReadings_own (hm : isLoopMode (chanCfg s r.channel).mode = true) (hs : (chan s r.channel).retired = 0) :
    ownReadings s (r.channel / 8) [r] = [r] := by
  simp [ownReadings, hm, hs]

/-! #### The supply (R347, R348) -/

/-- A supply's steps to its target after a reading: up to it, unless refused, or one step down each 100 ms. -/
def Loop.track (target : Nat) (refuses : Bool) (now : Nat) (l : Loop) : Loop :=
  if l.supply < target then { l with supply := if refuses then l.supply else target, refused := refuses }
  else if target + 2 ≤ l.supply ∧ l.lastFall + 100000 ≤ now then
    { l with supply := l.supply - 1, lastFall := now, refused := false }
  else { l with refused := false }

theorem Loop.track_readings (target : Nat) (refuses : Bool) (now : Nat) (l : Loop) :
    (l.track target refuses now).readings = l.readings := by
  unfold Loop.track; split
  · rfl
  · split <;> rfl

theorem Loop.track_below {target now : Nat} {l : Loop} (refuses : Bool) (h : l.supply < target) :
    (l.track target refuses now).refused = refuses ∧ (l.track target refuses now).supply = if refuses then l.supply else target := by
  rw [Loop.track, if_pos h]; exact ⟨rfl, rfl⟩

theorem Loop.track_falls {target now : Nat} {l : Loop} (refuses : Bool) (h : target + 2 ≤ l.supply)
    (hd : l.lastFall + 100000 ≤ now) : (l.track target refuses now).supply = l.supply - 1 := by
  rw [Loop.track, if_neg (by omega), if_pos ⟨h, hd⟩]

theorem Loop.track_stays {target now : Nat} {l : Loop} (refuses : Bool) (h : target ≤ l.supply) (hl : l.supply < target + 2) :
    (l.track target refuses now).supply = l.supply := by
  rw [Loop.track, if_neg (by omega), if_neg (by omega)]

/-- The target of a loop's supply after a reading (R347). -/
def readTarget (k : ChanCfg) (r : LoopReading) : Nat :=
  supplyTarget k (if k.mode = 7 then k.termV * 10 else r.vtMv) r.currentUa.natAbs

/-- A loop without an adaptive supply is read, and no more. -/
theorem trackSupply_unsupplied (hk : supplied (chanCfg s r.channel).mode = false) :
    s.trackSupply r = (s.readLoop r).setLoop r.channel id := by
  rw [State.setLoop_eq_self id rfl]
  unfold State.trackSupply
  exact if_pos (by rw [hk]; rfl)

theorem trackSupply_supplied (hk : supplied (chanCfg s r.channel).mode = true) :
    s.trackSupply r = (s.readLoop r).setLoop r.channel (Loop.track (readTarget (chanCfg s r.channel) r)
      (overAllowance (s.readLoop r) r.channel (readTarget (chanCfg s r.channel) r)) s.tm.now) := by
  let l := loopSt (s.readLoop r) r.channel
  let target := readTarget (chanCfg s r.channel) r
  have steps : s.trackSupply r = if l.supply < target then (s.readLoop r).raiseSupply r.channel target
      else if target + 2 ≤ l.supply ∧ l.lastFall + 100000 ≤ s.tm.now then
        (s.readLoop r).setLoop r.channel fun x => { x with supply := x.supply - 1, lastFall := s.tm.now, refused := false }
      else (s.readLoop r).setLoop r.channel fun x => { x with refused := false } := by
    unfold State.trackSupply
    exact if_neg (by rw [hk]; nofun)
  rw [steps]
  split
  · next below =>
    rw [State.raiseSupply_eq]
    refine State.setLoop_congr _ _ ?_
    simp [Loop.track, l, target, below, Nat.not_le.2 below]
  · next below =>
    split
    · next fall => exact State.setLoop_congr _ _ (by simp [Loop.track, l, target, below, fall])
    · next fall => exact State.setLoop_congr _ _ (by simp [Loop.track, l, target, below, fall])

theorem execLoopSupplyTrack_own (hp : s.pw.valid = true) (hc : r.channel < 32)
    (hm : isLoopMode (chanCfg s r.channel).mode = true) (hs : (chan s r.channel).retired = 0) :
    execLoopSupplyTrack (r.channel / 8) [r] s = .next (s.trackSupply r) := by
  have bank : r.channel / 8 < 4 := by omega
  simp [execLoopSupplyTrack, hp, bank, ownReadings_own hm hs]

/-! #### Compliance and the thermal limit (R349, R350) -/

/-- COMPLIANCE or THERMAL set, or both clear, since when (R351). -/
def Loop.judge (now : Nat) (l : Loop) : Loop :=
  if l.compliance || l.thermal then { l with badSince := some (l.badSince.getD now), goodSince := none }
  else { l with badSince := none, goodSince := some (l.goodSince.getD now) }

theorem State.faultTimes_eq : s.faultTimes c = s.setLoop c (Loop.judge s.tm.now) := rfl

theorem Loop.judge_compliance (now : Nat) (l : Loop) : (l.judge now).compliance = l.compliance := by
  unfold Loop.judge; split <;> rfl

theorem Loop.judge_thermal (now : Nat) (l : Loop) : (l.judge now).thermal = l.thermal := by
  unfold Loop.judge; split <;> rfl

theorem Loop.judge_readings (now : Nat) (l : Loop) : (l.judge now).readings = l.readings := by
  unfold Loop.judge; split <;> rfl

/-- A loop is dated as bad while COMPLIANCE or THERMAL is set (R351). -/
def Loop.Dated (l : Loop) : Prop := l.badSince.isSome = true ↔ l.compliance = true ∨ l.thermal = true

theorem Loop.judge_dated (now : Nat) (l : Loop) : (l.judge now).Dated := by
  rw [Loop.Dated, Loop.judge_compliance, Loop.judge_thermal, ← Bool.or_eq_true]
  unfold Loop.judge
  split
  · next bad => exact iff_of_true rfl bad
  · next good => exact iff_of_false nofun good

/-- A loop falls short of the current asked for, or of its terminal voltage, with its driver or supply at its limit (R350). -/
def FallsShort (s : State) (r : LoopReading) : Prop :=
  let l := loopSt s r.channel
  let k := chanCfg s r.channel
  let short : Prop := r.currentUa + 100 < (driven s r.channel : Int)
  let limited : Prop := l.supply = 112 ∨ l.refused = true
  k.mode = 9 ∧ short ∧ limited ∨ k.mode = 10 ∧ short ∧ r.fullyOn = true ∨ k.mode = 7 ∧ r.vtMv + 500 < k.termV * 10 ∧ limited

/-- A loop judged at `now` with COMPLIANCE as given. -/
def Loop.comply (now : Nat) (b : Bool) (l : Loop) : Loop := Loop.judge now { l with compliance := b }

theorem Loop.comply_readings (now : Nat) (b : Bool) (l : Loop) : (l.comply now b).readings = l.readings := Loop.judge_readings ..

/-- The check of a loop takes its reading and sets COMPLIANCE where it falls short. -/
theorem compliance_eq : ∃ b : Bool, s.compliance r = (s.readLoop r).setLoop r.channel (Loop.comply s.tm.now b)
    ∧ (b = true ↔ FallsShort s r) := by
  have kept : (loopSt (s.readLoop r) r.channel).supply = (loopSt s r.channel).supply
      ∧ (loopSt (s.readLoop r) r.channel).refused = (loopSt s r.channel).refused :=
    ⟨loopSt_setLoop_field Loop.supply fun _ => rfl, loopSt_setLoop_field Loop.refused fun _ => rfl⟩
  refine ⟨_, State.faultTimes_eq.trans (State.setLoop_setLoop _ _), ?_⟩
  simp [FallsShort, kept, and_assoc, or_assoc]

theorem execLoopComplianceCheck_own (hp : s.pw.valid = true) (hc : r.channel < 32)
    (hm : isLoopMode (chanCfg s r.channel).mode = true) (hs : (chan s r.channel).retired = 0) :
    execLoopComplianceCheck (r.channel / 8) [r] s = .next (s.compliance r) := by
  have bank : r.channel / 8 < 4 := by omega
  simp [execLoopComplianceCheck, hp, bank, ownReadings_own hm hs]

/-- A loop judged at `now`, hot and cool since the times given, with THERMAL begun where `begins` and ended where `ends`. -/
def Loop.heat (now : Nat) (hot cool : Option Nat) (begins ends : Bool) (l : Loop) : Loop :=
  Loop.judge now { l with hotSince := hot, coolSince := cool, thermal := if l.thermal then !ends else begins }

theorem Loop.heat_readings (now : Nat) (hot cool : Option Nat) (begins ends : Bool) (l : Loop) :
    (l.heat now hot cool begins ends).readings = l.readings := Loop.judge_readings ..

/-- THERMAL begins at 125 °C at once, and does not end above 115 °C (R349). -/
theorem execDriverThermalLimit_own (hp : s.pw.valid = true) (hc : r.channel < 32)
    (hm : isLoopMode (chanCfg s r.channel).mode = true) (hs : (chan s r.channel).retired = 0) :
    ∃ hot cool begins ends, execDriverThermalLimit r s
        = .next ((s.readLoop r).setLoop r.channel (Loop.heat s.tm.now hot cool begins ends))
      ∧ (1250 ≤ r.tempDeci → begins = true) ∧ (1150 < r.tempDeci → ends = false) := by
  have row : ¬ ((!s.pw.valid) = true ∨ 31 < r.channel ∨ (!isLoopMode (chanCfg s r.channel).mode) = true
      ∨ (chan s r.channel).retired ≠ 0) := by
    simp only [hp, hm, hs, Bool.not_true, Bool.false_eq_true, ne_eq, not_true_eq_false, or_false, false_or]; omega
  unfold execDriverThermalLimit
  rw [if_neg row]
  refine ⟨_, _, _, _, congrArg Host.Outcome.next (State.faultTimes_eq.trans (State.setLoop_setLoop _ _))
    , fun hot => ?_, fun warm => ?_⟩
  · simp [hot]
  · simp [Int.not_le.2 warm]

end

/-! #### LOOP_FAULT (R351) -/

/-- A loop's fault begun or ended by `f`, with its diagnostic and its event. -/
def State.reportFault (s : State) (c ev v detail : Nat) (a b : Int) (f : Loop → Loop) : State :=
  ((s.setLoop c f).diagnostic (0x0100 + c) v).chanEvent ev (c / 8) c (sliceOr (chan s c)) 0xFF detail a b

section
variable {s : State} {c since : Nat}

theorem reportFault_runs (hr : s.core = .running) (h : c < s.ana.loops.length) (ev v detail : Nat) (a b : Int) (f : Loop → Loop) :
    loopSt (s.reportFault c ev v detail a b f) c = f (loopSt s c) ∧ Logs s (s.reportFault c ev v detail a b f) [0x0200 + ev]
      ∧ Touches [.rcd, .repl, .loops] {c} s (s.reportFault c ev v detail a b f) := by
  have shown : Touches [.repl] ∅ (s.setLoop c f) ((s.setLoop c f).diagnostic (0x0100 + c) v) := publishSource_touches ..
  have touches := ((Touches.refl [.repl, .loops] {c} s).then (setLoop_touches f)).then shown
  refine ⟨?_, ?_, touches.mono.then (chanEvent_touches ..)⟩
  · rw [State.reportFault, (chanEvent_touches ..).loopSt, shown.loopSt, loopSt_setLoop_self _ h]
  · exact (Logs.nil_of_eq (touches.same .rcd (by decide))).trans (chanEvent_logs _ _ _ _ _ _ _ _ (touches.core.trans hr))

variable (hr : s.core = .running) (hc : c < 32)
include hr hc

theorem execLoopFault_begins (hm : isLoopMode (chanCfg s c).mode = true) (hf : (loopSt s c).fault = false)
    (hb : (loopSt s c).badSince = some since) (hd : since + 200000 ≤ s.tm.now) : ∃ detail a b,
    execLoopFault c s = .next (s.reportFault c 12 1 detail a b fun l => { l with fault := true, faultDetail := detail }) := by
  have row : ¬ (s.core ≠ .running ∨ 31 < c) := by simp only [hr, ne_eq, not_true_eq_false, false_or]; omega
  have due : (loopSt s c).badSince.any (fun t => decide (t + 200000 ≤ s.tm.now)) = true :=
    (Option.any_eq_true _ _).2 ⟨since, hb, decide_eq_true hd⟩
  simp only [execLoopFault, row, hm, hf, due, Bool.not_false, and_self, if_true, if_false]
  exact ⟨_, _, _, rfl⟩

theorem execLoopFault_ends (hf : (loopSt s c).fault = true) (hg : (loopSt s c).goodSince = some since)
    (hd : since + 1000000 ≤ s.tm.now) : ∃ detail a b,
    execLoopFault c s = .next (s.reportFault c 13 0 detail a b fun l => { l with fault := false }) := by
  have row : ¬ (s.core ≠ .running ∨ 31 < c) := by simp only [hr, ne_eq, not_true_eq_false, false_or]; omega
  have due : (loopSt s c).goodSince.any (fun t => decide (t + 1000000 ≤ s.tm.now)) = true :=
    (Option.any_eq_true _ _).2 ⟨since, hg, decide_eq_true hd⟩
  simp only [execLoopFault, row, hf, due, Bool.not_true, Bool.false_eq_true, false_and, and_false, and_self, if_true, if_false]
  exact ⟨_, _, _, rfl⟩

end
end Sys2Proof.Machine

open Sys2Proof.Machine in
/-- Settles O55: each check of a reading is a `readLoop` and one change of its loop (`readLoop_then`), which `Loop.track`,
`Loop.comply` and `Loop.heat` state; the fault's two ends are `reportFault`. -/
theorem loopsAreTrackedAndJudged : Obligations.LoopsAreTrackedAndJudged := by
  intro s ch hu hp lt hm l k frame
  refine ⟨fun r hch hs => ?reading, fun hr => ⟨fun since hf hb hd => ?begins, fun since hf hg hd => ?ends⟩⟩
  case begins =>
    obtain ⟨detail, a, b, run⟩ := execLoopFault_begins hr lt hm hf hb hd
    obtain ⟨loop, logs, touches⟩ := reportFault_runs hr (loop_index_lt hu lt) 12 1 detail a b
      fun l => { l with fault := true, faultDetail := detail }
    exact ⟨_, run, congrArg Loop.fault loop, logs, touches.publishes, touches.onlyChannel, touches.eq⟩
  case ends =>
    obtain ⟨detail, a, b, run⟩ := execLoopFault_ends hr lt hf hg hd
    obtain ⟨loop, logs, touches⟩ := reportFault_runs hr (loop_index_lt hu lt) 13 0 detail a b fun l => { l with fault := false }
    exact ⟨_, run, congrArg Loop.fault loop, logs, touches.publishes, touches.onlyChannel, touches.eq⟩
  subst hch
  have index := loop_index_lt hu lt
  have framed {t} (h : Touches [.loops] {r.channel} s t) : frame t :=
    ⟨h.onlyChannel, h.chan (by decide) r.channel, h.eq_parts⟩
  intro read target
  refine ⟨?track, ?comply, ?heat⟩
  case track =>
    refine ⟨_, execLoopSupplyTrack_own hp lt hm hs, ?_⟩
    cases hk : supplied k.mode with
    | false =>
      obtain ⟨loop, readings, touches⟩ := readLoop_then index (f := id) fun _ => rfl
      rw [trackSupply_unsupplied hk]
      exact ⟨Loop.readings_iff.1 readings, framed touches, fun _ => by rw [loop]; rfl, nofun⟩
    | true =>
      obtain ⟨loop, readings, touches⟩ :=
        readLoop_then index (Loop.track_readings target (overAllowance (s.readLoop r) r.channel target) s.tm.now)
      rw [trackSupply_supplied hk]
      refine ⟨Loop.readings_iff.1 readings, framed touches, nofun, fun _ =>
        ⟨fun below => ?_, fun high late => ?_, fun low high => ?_⟩⟩
      · exact loop ▸ Loop.track_below _ below
      · exact (congrArg Loop.supply loop).trans (Loop.track_falls _ high late)
      · exact (congrArg Loop.supply loop).trans (Loop.track_stays _ low high)
  case comply =>
    intro short limited
    obtain ⟨b, check, fails⟩ := compliance_eq (s := s) (r := r)
    obtain ⟨loop, readings, touches⟩ := readLoop_then index (Loop.comply_readings s.tm.now b)
    have run := execLoopComplianceCheck_own hp lt hm hs
    rw [check] at run
    have compliance : Loop.compliance _ = b := (congrArg Loop.compliance loop).trans (Loop.judge_compliance ..)
    have thermal : Loop.thermal _ = l.thermal := (congrArg Loop.thermal loop).trans (Loop.judge_thermal ..)
    have dated := (congrArg Loop.Dated loop).mpr (Loop.judge_dated ..)
    exact ⟨_, run, Loop.readings_iff.1 readings, framed touches, by rw [compliance]; exact fails, thermal ▸ dated⟩
  case heat =>
    obtain ⟨hot, cool, begins, ends, run, sets, keeps⟩ := execDriverThermalLimit_own hp lt hm hs
    obtain ⟨loop, readings, touches⟩ := readLoop_then index (Loop.heat_readings s.tm.now hot cool begins ends)
    have compliance : Loop.compliance _ = l.compliance := (congrArg Loop.compliance loop).trans (Loop.judge_compliance ..)
    have thermal : Loop.thermal _ = if l.thermal then !ends else begins :=
      (congrArg Loop.thermal loop).trans (Loop.judge_thermal ..)
    have dated := (congrArg Loop.Dated loop).mpr (Loop.judge_dated ..)
    refine ⟨_, run, Loop.readings_iff.1 readings, framed touches, fun cold heats => ?_, fun warm stays => ?_
      , compliance ▸ dated.trans or_comm⟩
    · rw [thermal, cold, sets heats]; rfl
    · rw [thermal, warm, keeps stays]; rfl
end

section
/-! ### HART transactions on a loop -/

namespace Sys2Proof.Machine

section
variable {s : State} {c : Nat}

/-- FSK runs on a channel of a node whose core runs (R360). -/
theorem running_of_fskUp (h : fskUp s c = true) : s.core = .running := by
  simp only [fskUp, Bool.and_eq_true, decide_eq_true_eq] at h
  simp only [h]

/-- An instrument that is changed is changed alone, in its place. -/
theorem mem_insts_setInst {slot : Nat} {f : Inst → Inst} (h : c < s.ana.loops.length) {P : Inst → Prop} (hf : ∀ x, P (f x)) :
    ∀ i ∈ (loopSt (s.setInst c slot f) c).insts, i.slot = slot → P i := by
  intro i hi hs
  rw [State.setInst, loopSt_setLoop_self _ h] at hi
  obtain ⟨x, -, rfl⟩ := List.mem_map.1 hi
  split at hs
  · next e => rw [if_pos e]; exact hf x
  · next e => exact absurd hs e

/-! #### A transaction begins and is sent (R360 to R362) -/

section
variable (up : fskUp s c = true)
include up

/-- With no transaction on the loop, the identity of an instrument not found is read when it is due. -/
theorem execInstrumentRead_begins {slot : Nat} (idle : (loopSt s c).trans = none) (named : ∃ i ∈ (loopSt s c).insts, i.slot = slot)
    (lost : (instAt s c slot).found = false) (due : (instAt s c slot).nextRead ≤ s.tm.now) :
    execInstrumentRead c slot s = .next (s.setLoop c fun l => { l with trans := some { kind := 0, slot, command := 0 } }) := by
  have listed : (loopSt s c).insts.any (·.slot == slot) = true := by simpa using named
  simp only [execInstrumentRead, up, idle, listed, lost, due, Option.isNone_none, Bool.not_false, and_self, if_true]

/-- With no transaction on the loop, the next instrument found in turn is polled. -/
theorem execHartPoll_begins {i : Inst} (idle : (loopSt s c).trans = none)
    (next : ((loopSt s c).insts.drop (loopSt s c).pollTurn ++ (loopSt s c).insts.take (loopSt s c).pollTurn).find? (·.found)
      = some i) :
    ∃ turn, execHartPoll c s = .next (s.setLoop c fun l => { l with
      pollTurn := turn, trans := some { kind := 1, slot := i.slot, command := 9, data := [246, 247, 248, 249] } }) := by
  simp only [execHartPoll, up, idle, next, Option.isNone_none, and_self, if_true]
  exact ⟨_, rfl⟩

section
variable {tr : Trans} (busy : (loopSt s c).trans = some tr)
include busy

/-- A request is sent after 50 ms without carrier, outside of windows. -/
theorem execCarrierFreeWait_sends (unsent : tr.sent = none) (served : (chan s c).slice.isSome = true)
    (outside : (chan s c).inWindow = false) (quiet : (loopSt s c).carrierEnd + 50000 ≤ s.tm.now) (dry : (chanCfg s c).wire = false) :
    execCarrierFreeWait c s = .next (s.setLoop c fun l => { l with
      trans := some { tr with sent := some (s.tm.now + charsUs (requestChars tr)) } }) := by
  simp only [execCarrierFreeWait, busy, up, unsent, served, outside, quiet, dry, Option.isNone_none, Bool.not_false, and_self, if_true
    , Bool.false_eq_true, false_and, if_false]

/-! #### No response (R361) -/

theorem execHartResponseTimeout_due {e : Nat} (sent : tr.sent = some e) (late : e + 350000 ≤ s.tm.now) :
    execHartResponseTimeout c s = .next (s.failAttempt c tr) := by
  have due : tr.sent.any (fun e => decide (e + 350000 ≤ s.tm.now)) = true :=
    (Option.any_eq_true _ _).2 ⟨e, sent, decide_eq_true late⟩
  simp only [execHartResponseTimeout, busy, up, due, and_self, if_true]

end
end

/-- The first and the second attempt that fail are followed by another. -/
theorem failAttempt_repeats {tr : Trans} (again : tr.attempts + 1 < 3) : s.failAttempt c tr = s.setLoop c fun l => { l with
    failed := sat16 (l.failed + 1), trans := some { tr with attempts := tr.attempts + 1, sent := none } } := by
  rw [State.failAttempt, if_neg (by omega), State.setLoop_setLoop]; rfl

/-! #### A host's transaction is answered (R369) -/

/-- A loop counted by `f`, the command of its transaction completed, and the transaction over. -/
def State.answerHost (s : State) (c : Nat) (m : Cmd) (st : Nat) (data : Bytes) (f : Loop → Loop) : State :=
  ((s.setLoop c f).replyF m 0x0640 st data 1).setLoop c fun l => { l with trans := none }

theorem answerHost_answers (hu : Units s) (hc : c < 32) {m : Cmd} (hp : m.port < 8) (st : Nat) (data : Bytes) (f : Loop → Loop) :
    loopSt (s.answerHost c m st data f) c = { f (loopSt s c) with trans := none }
      ∧ Answers s (s.answerHost c m st data f) m 0x0640 st 1 data
      ∧ Touches [.ports, .loops] {c} s (s.answerHost c m st data f) := by
  have index := loop_index_lt hu hc
  have replied := ((Touches.refl [.ports, .loops] {c} s).then (setLoop_touches (c := c) f)).then
    (replyF_touches m 0x0640 st data 1)
  refine ⟨?_, ?_, replied.then (setLoop_touches _)⟩
  · rw [State.answerHost, loopSt_setLoop_self _ (replied.lengths.2.2.1.symm ▸ index), loopSt_replyF, loopSt_setLoop_self _ index]
  · exact (State.replyF_answers_of s (s.setLoop c f) m 0x0640 st data 1 (hu.outRings ▸ hp) rfl rfl).of_ports rfl

/-- A host's transaction is given up with its third attempt. -/
theorem failAttempt_gives_up_host {tr : Trans} {m : Cmd} (last : 3 ≤ tr.attempts + 1) (host : tr.kind = 2) (hm : tr.cmd = some m) :
    s.failAttempt c tr = s.answerHost c m Status.instrumentSilent [] fun l => { l with failed := sat16 (l.failed + 1) } := by
  simp only [State.failAttempt, if_pos last, State.giveUp, host, hm]
  rfl

/-! #### A response (R360, R361, R369) -/

/-- A loop with a carrier heard until `now`. -/
def Loop.heard (now : Nat) (l : Loop) : Loop := { l with carrierEnd := now }

/-- A carrier heard leaves the instruments. -/
theorem instAt_heard (now slot : Nat) : instAt (s.setLoop c (Loop.heard now)) c slot = instAt s c slot := by
  unfold instAt
  rw [loopSt_setLoop_field (f := Loop.heard now) Loop.insts fun _ => rfl]

/-- A loop with one more transaction done. -/
def Loop.countDone (l : Loop) : Loop := { l with done := sat16 (l.done + 1) }

section
variable (up : fskUp s c = true) (outside : (chan s c).inWindow = false) {bytes : Bytes} {f : HartFrame} {ok : Bool}
  (parsed : HartFrame.parse bytes = some f)
include up outside parsed

/-- A burst is counted, with and without a transaction. -/
theorem execHartResponseReceived_burst (burst : f.burst = true) : execHartResponseReceived c bytes ok s
    = .next (s.setLoop c fun l => { l with carrierEnd := s.tm.now, bursts := l.bursts + 1 }) := by
  have counted : (s.setLoop c (Loop.heard s.tm.now)).setLoop c (fun l => { l with bursts := l.bursts + 1 })
      = s.setLoop c fun l => { l with carrierEnd := s.tm.now, bursts := l.bursts + 1 } := State.setLoop_setLoop ..
  have row : ¬ ((!fskUp s c) = true ∨ (chan s c).inWindow = true) := by simp [up, outside]
  unfold execHartResponseReceived
  rw [if_neg row, ← counted, parsed]
  cases (loopSt s c).trans.filter fun t => t.sent.isSome <;> simp only [burst, if_true] <;> rfl

/-- A good response to the transaction sent is taken. -/
theorem execHartResponseReceived_takes {tr : Trans} (busy : (loopSt s c).trans = some tr) (sent : tr.sent.isSome = true)
    (plain : f.burst = false) (ack : f.ack = true) (primary : f.primary = true) (own : f.isFrom (instAt s c tr.slot) tr.kind = true)
    (long : 2 ≤ f.body.length) (good : (u8 f.body 0).testBit 7 = false) :
    execHartResponseReceived c bytes true s = .next ((s.setLoop c (Loop.heard s.tm.now)).takeResponse c tr f) := by
  have row : ¬ ((!fskUp s c) = true ∨ (chan s c).inWindow = true) := by simp [up, outside]
  have waiting : (loopSt s c).trans.filter (fun t => t.sent.isSome) = some tr := by rw [busy, Option.filter, if_pos sent]
  unfold execHartResponseReceived
  rw [if_neg row]
  simp only [parsed, waiting, plain, ack, primary, own, long, good, Bool.not_true, Bool.not_false, Bool.or_false, Bool.and_self
    , decide_true, Bool.false_eq_true, if_true, if_false]
  rfl

end

/-- The response to a host's transaction is passed on (R369). -/
theorem takeResponse_host {tr : Trans} {m : Cmd} {f : HartFrame} (host : tr.kind = 2) (hm : tr.cmd = some m) (g : Loop → Loop) :
    ∃ data, (s.setLoop c g).takeResponse c tr f = s.answerHost c m Status.ok data (Loop.countDone ∘ g) := by
  simp only [State.answerHost, ← State.setLoop_setLoop, State.takeResponse, host, hm]
  exact ⟨_, rfl⟩

/-- An instrument at slot `slot` of a loop found, with the transaction done; `g` takes its identity. -/
def State.identify (s : State) (c slot n : Nat) (g : Inst → Inst) (ty id : Nat) : State :=
  ((((s.setLoop c Loop.countDone).setInst c slot g).chanEvent 17 (c / 8) c n 0xFF slot ty id)).setLoop c fun l =>
    { l with trans := none }

/-- The identity of an instrument not known before is taken, and its return recorded (R360). -/
theorem takeResponse_identity {tr : Trans} {f : HartFrame} (identity : tr.kind = 0) (new : (instAt s c tr.slot).known = false) :
    ∃ n g ty id, s.takeResponse c tr f = s.identify c tr.slot n g ty id ∧ ∀ x, (g x).found = true ∧ (g x).known = true := by
  simp only [State.takeResponse, identity, new, Bool.false_and, Bool.false_eq_true, if_false]
  exact ⟨_, _, _, _, rfl, fun _ => ⟨rfl, rfl⟩⟩

theorem identify_identifies (hr : s.core = .running) (h : c < s.ana.loops.length) (slot n ty id : Nat) {g : Inst → Inst}
    (hg : ∀ x, (g x).found = true ∧ (g x).known = true) : (loopSt (s.identify c slot n g ty id) c).trans = none
      ∧ (loopSt (s.identify c slot n g ty id) c).done = sat16 ((loopSt s c).done + 1)
      ∧ (∀ i ∈ (loopSt (s.identify c slot n g ty id) c).insts, i.slot = slot → i.found = true ∧ i.known = true)
      ∧ Logs s (s.identify c slot n g ty id) [0x0211] ∧ Touches [.rcd, .loops] {c} s (s.identify c slot n g ty id) := by
  let s1 := s.setLoop c Loop.countDone
  let s2 := s1.setInst c slot g
  let s3 := s2.chanEvent 17 (c / 8) c n 0xFF slot ty id
  have counted : Touches [.rcd, .loops] {c} s s1 := (setLoop_touches _).mono
  have found : Touches [.rcd, .loops] {c} s s2 := counted.then (setLoop_touches _)
  have event : Touches [.rcd] ∅ s2 s3 := chanEvent_touches ..
  have index1 : c < s1.ana.loops.length := counted.lengths.2.2.1.symm ▸ h
  have index3 : c < s3.ana.loops.length := (found.then event).lengths.2.2.1.symm ▸ h
  have loop : loopSt (s.identify c slot n g ty id) c = { loopSt s2 c with trans := none } := by
    rw [State.identify, loopSt_setLoop_self _ index3, event.loopSt]
  have logs : Logs s2 s3 [0x0211] := chanEvent_logs 17 _ _ _ _ _ _ _ (found.core.trans hr)
  refine ⟨congrArg Loop.trans loop, ?_, ?_, ((Logs.nil_of_eq rfl).trans logs).of_rcd rfl
    , (found.then event).then (setLoop_touches _)⟩
  · rw [loop]
    exact (congrArg Loop.done (loopSt_setLoop_self _ index1)).trans (congrArg Loop.done (loopSt_setLoop_self _ h))
  · rw [loop]
    exact mem_insts_setInst index1 hg

end
end Sys2Proof.Machine

open Sys2Proof.Machine in
/-- Settles O56: what begins, is sent and is repeated is one change of the loop (`State.setLoop`); a host's answer is
`State.answerHost`, an instrument's identity `State.identify`. -/
theorem hartTransactionsRun : Obligations.HartTransactionsRun := by
  intro s ch hu lt up l frame
  have index := loop_index_lt hu lt
  have changed (f : Loop → Loop) : frame (s.setLoop ch f) ∧ loopSt (s.setLoop ch f) ch = f l :=
    ⟨(setLoop_touches f).loop_frame, loopSt_setLoop_self f index⟩
  refine ⟨fun slot idle named lost due => ?identity, fun i idle next => ?poll
    , fun tr busy => ⟨fun unsent served outside quiet dry => ?sends
      , fun e sent late => ⟨fun again => ?repeats, fun m last host hm hp => ?gives⟩
      , fun bytes f sent outside parsed plain ack primary own long good => ?response⟩
    , fun bytes f ok outside parsed burst => ?burst⟩
  case identity => exact ⟨_, execInstrumentRead_begins up idle named lost due, changed _⟩
  case poll =>
    obtain ⟨turn, run⟩ := execHartPoll_begins up idle next
    obtain ⟨framed, loop⟩ := changed fun l => { l with
      pollTurn := turn, trans := some { kind := 1, slot := i.slot, command := 9, data := [246, 247, 248, 249] } }
    exact ⟨_, _, run, framed, by rw [loop], rfl, rfl, rfl, rfl⟩
  case sends => exact ⟨_, execCarrierFreeWait_sends up busy unsent served outside quiet dry, changed _⟩
  case repeats =>
    have run := execHartResponseTimeout_due up busy sent late
    rw [failAttempt_repeats again] at run
    exact ⟨_, run, changed _⟩
  case gives =>
    have run := execHartResponseTimeout_due up busy sent late
    rw [failAttempt_gives_up_host last host hm] at run
    obtain ⟨loop, answers, touches⟩ :=
      answerHost_answers hu lt hp Status.instrumentSilent [] fun l => { l with failed := sat16 (l.failed + 1) }
    exact ⟨_, run, answers, loop, touches.onlyChannel, touches.eq_parts⟩
  case burst => exact ⟨_, execHartResponseReceived_burst up outside parsed burst, changed _⟩
  case response =>
    have run := execHartResponseReceived_takes up outside parsed busy sent plain ack primary own long good
    refine ⟨fun identity new => ?found, fun m host hm hp => ?passed⟩
    case found =>
      let u := s.setLoop ch (Loop.heard s.tm.now)
      have heard : Touches [.loops] {ch} s u := setLoop_touches _
      have done : (loopSt u ch).done = l.done := loopSt_setLoop_field Loop.done fun _ => rfl
      obtain ⟨n, g, ty, id, taken, found⟩ := takeResponse_identity (s := u) (c := ch) (f := f) identity
        (by rw [instAt_heard]; exact new)
      obtain ⟨trans, counted, insts, logs, touches⟩ := identify_identifies (s := u) (running_of_fskUp up)
        (heard.lengths.2.2.1.symm ▸ index) tr.slot n ty id found
      have all : Touches [.rcd, .loops] {ch} s _ := heard.mono.then touches
      exact ⟨_, run.trans (congrArg _ taken), trans, by rw [counted, done], insts
        , (Logs.nil_of_eq rfl).trans logs, all.onlyChannel, all.eq_parts⟩
    case passed =>
      obtain ⟨data, taken⟩ := takeResponse_host (s := s) (c := ch) (f := f) host hm (Loop.heard s.tm.now)
      rw [taken] at run
      obtain ⟨loop, answers, touches⟩ := answerHost_answers hu lt hp Status.ok data (Loop.countDone ∘ Loop.heard s.tm.now)
      exact ⟨_, data, run, answers, congrArg Loop.trans loop, congrArg Loop.done loop, touches.onlyChannel, touches.eq_parts⟩
end
